-- ==== Sys2Proof/Word.lean ====
section
/-! DEFINITION. The word types of the K640. A time, corrected or raw, is a whole number of microseconds and is a plain
natural number in this model (section 0.7). -/

namespace Sys2Proof

/-- One byte of an archive slot. -/
abbrev Byte := BitVec 8

/-- One archive slot of 32 bytes (R1, R171). Byte 0 is the most significant, so that a field of several
bytes, stored most significant byte first (Chapter 11), is a run of bits. -/
abbrev Slot := BitVec 256

end Sys2Proof
end

