-- ==== Sys2Proof/Config.lean ====
section
/-! DEFINITION. The fixed numbers of the K640: capacities, ranges and limits that the rules name. The
manual leaves no value of an operation open, so there is no free value here (notes/assumptions/2.md). -/

namespace Sys2Proof.Config

/-- The greatest corrected time, 2^40 − 2 (section 0.7). -/
abbrev maxTime : Nat := 1099511627774

/-- NONE, 2^40 − 1: the key value that means "no time" (section 0.7). -/
abbrev noneTime : Nat := 1099511627775

/-- The greatest offset in magnitude, µs (R44). -/
abbrev maxOffset : Int := 549755813887

/-- The greatest drift in magnitude, ppb (R44). -/
abbrev maxDrift : Int := 500000

/-- Entries the merge queue holds at most (R64). -/
abbrev queueCapacity : Nat := 256

/-- Frames the inbound queue holds at most (R94). -/
abbrev inboundCapacity : Nat := 16

/-- Findings the finding queue holds at most (R153). -/
abbrev findingCapacity : Nat := 8

/-- Entries the device table holds at most (R121). -/
abbrev deviceCapacity : Nat := 1024

/-- Device entries a station block may count (R5, check 6). -/
abbrev maxDeviceEntries : Nat := 4096

/-- Entries the checkpoint directory may count (R13). -/
abbrev maxDirectoryEntries : Nat := 4096

/-- The greatest value of the pace timer, µs (R115). -/
abbrev maxPaceTimer : Nat := 16777215

/-- The greatest lost count of a gap pending (R33, R34). -/
abbrev maxLostCount : Nat := 65535

/-- Consecutive vetoes after which an engine withdraws (R96). -/
abbrev vetoLimit : Nat := 8

/-- Failed attempts after which an engine withdraws (R97). -/
abbrev failureLimit : Nat := 16

/-- The least span between two marks for a drift estimate, µs (R58). -/
abbrev minMarkSpan : Nat := 1000000

/-- The K640 format code of the station block header (Table 11-3). -/
abbrev formatCode : Nat := 0x00000640

/-- Slots of the station block (R1, Table 11-2). -/
abbrev stationBlockSlots : Nat := 2048

/-- The least and the greatest epoch span, µs (R101, R156). -/
abbrev minSpan : Nat := 10
abbrev maxSpan : Nat := 1000000

/-- The epoch span after reset, µs (Table 6-1). -/
abbrev resetSpan : Nat := 1000

end Sys2Proof.Config
end

