-- ==== Sys2Proof/Syntax.lean ====
section
/-! DEFINITION. The commands of the K640: one constructor of `Instr` for each row of
spec/opcode_table.json, and the data that come with them from outside: archive slots, frames heard on the
replay bus, strap levels and line levels. -/

namespace Sys2Proof

/-- A bus line's level as the other stations leave it or as the engine reads it (section 0.7, R78):
a line pulled low is dominant, a released line is recessive. -/
inductive Level where
  | dominant
  | recessive
deriving DecidableEq, Repr

/-- The straps sampled at the end of a reset (R2, Table 11-8). Every code is valid. -/
structure Straps where
  station : BitVec 5
  busRate : BitVec 2
  archiveSize : BitVec 2
deriving DecidableEq, Repr

/-- The arbitration field of a frame (R82): class, key and sending station. -/
structure ArbField where
  cls : BitVec 3
  key : BitVec 40
  station : BitVec 5
deriving DecidableEq, Repr

/-- The arguments of a COMMAND frame (Table 11-6, R156). -/
structure CommandBody where
  station : BitVec 6
  lane : BitVec 4
  action : BitVec 2
  numeric : BitVec 40
deriving DecidableEq, Repr

/-- The body of an EVENT frame (Table 11-6). The six bits of `anomalies` are, most significant first,
REDUNDANT, LOCKOUT_CLOSE, NO_PICKUP, OVERTIME, HELD, GAP_BEFORE. -/
structure EventBody where
  lane : BitVec 4
  laneSeq : BitVec 28
  recorder : BitVec 32
  device : BitVec 16
  kind : BitVec 4
  rawStamp : BitVec 48
  tickCode : BitVec 2
  quality : BitVec 2
  held : Bool
  gapBefore : Bool
  lostCount : BitVec 16
  duplicate : Bool
  released : Bool
  anomalies : BitVec 6
deriving DecidableEq, Repr

/-- The body of a FINDING frame (Table 11-6). The twelve bits of `anomalies` are, most significant first,
DAMAGED, UNDECODABLE, REGRESSION, CLOCK_STEP, UNKNOWN_DEVICE, OUT_OF_RANGE, then the six of group 4. -/
structure FindingBody where
  lane : BitVec 4
  group : BitVec 3
  anomalies : BitVec 12
  disposition : BitVec 3
  devicePresent : Bool
  device : BitVec 16
  slot : BitVec 32
deriving DecidableEq, Repr

/-- The body of a STATE frame (Table 11-6). -/
structure StateBody where
  role : BitVec 1
  cls : BitVec 2
  maxTravel : BitVec 16
  position : BitVec 2
  lockout : Bool
  pickup : Bool
  travelPresent : Bool
  travelStart : BitVec 40
  lastChangePresent : Bool
  lastChange : BitVec 40
  lastEventPresent : Bool
  lastEventKind : BitVec 4
  lastEventTime : BitVec 40
  sourceForm : BitVec 1
  sourceNumber : BitVec 5
  operations : BitVec 16
  corroborations : BitVec 8
deriving DecidableEq, Repr

/-- The body of a STATUS frame (Tables 9-4 and 11-6). Bit l of a lane set is lane l. -/
structure StatusBody where
  mode : BitVec 3
  startCause : BitVec 1
  faultCause : BitVec 4
  timebase : BitVec 1
  windowStart : BitVec 40
  lanesTrapped : BitVec 16
  lanesEnded : BitVec 16
  lanesLost : BitVec 16
  lostFindings : BitVec 8
  seekDegraded : Bool
  configWarning : Bool
deriving DecidableEq, Repr

/-- The class of a frame with its body (Table 5-2). Class 7 is the invalid class: nothing of its body is
interpreted (R83). -/
inductive Body where
  | command (a : CommandBody)
  | cut
  | event (e : EventBody)
  | next
  | finding (f : FindingBody)
  | state (d : StateBody)
  | status (r : StatusBody)
  | invalid
deriving DecidableEq, Repr

/-- A frame on the replay bus, less its check octet (R82): key, sending station, and class with body. -/
structure Frame where
  key : BitVec 40
  station : BitVec 5
  body : Body
deriving DecidableEq, Repr

/-- A frame as this engine hears it: the bits it sampled and the check octet it received (R91, R170). -/
structure HeardFrame where
  frame : Frame
  octet : BitVec 8
deriving DecidableEq, Repr

/-- A data word on the archive port, at one rising edge of ARDY: the tag on AECH and the word on ADAT (R171). -/
structure PortWord where
  echo : Bool
  data : BitVec 32
deriving DecidableEq, Repr

/-- The commands: what can happen to the engine from outside, one constructor per row of
spec/opcode_table.json. The `…Taken` rows and the rows named after a console command carry no operand of
their own: each takes the frame at the front of the inbound queue, with that frame's arguments (R95). -/
inductive Instr where
  | powerOnReset
  | pinReset
  /-- The straps as sampled, and whether a reference edge arrived within the preceding 10 µs (R2, R117). -/
  | resetEnd (straps : Straps) (referenceEdge : Bool)
  /-- The words that come on the port while the start-up load's read is outstanding (R171). -/
  | loadSlotAnswer (words : List PortWord)
  | archiveReadTimeout
  | laneVisitStart
  /-- The words that come on the port while a lane's read is outstanding (R171). -/
  | laneSlotAnswer (words : List PortWord)
  /-- The words that come on the port while the checkpoint load's read is outstanding (R171). -/
  | checkpointSlotAnswer (words : List PortWord)
  | joinOnClose
  | joinIdleExpiry
  /-- The level at which the other stations leave BHL at the open condition. -/
  | openCondition (line : Level)
  /-- The lowest arbitration field sent by another station, when another station sends one. -/
  | arbitrationComplete (others : Option ArbField)
  /-- The level at which the other stations leave BHL when the stretch ends. -/
  | stretchEnd (line : Level)
  | bitError
  | abortConditionHeard
  | busAbandonTimeout
  /-- The frame as heard. When the engine transmitted the frame itself, its own copy is the frame. -/
  | frameAccepted (heard : HeardFrame)
  /-- The frame as heard. When the engine transmitted the frame itself, the operand is not read. -/
  | frameVetoed (heard : HeardFrame)
  | cutTaken
  | eventTaken
  | nextTaken
  | reportFrameTaken
  | run
  | pause
  | step
  | seek
  | halt
  | epoch
  | rate
  | release
  | query
  | poll
  | undefinedCommand
  | closePulseEnd
  | paceTimeMet
  | bhlRise
  | bhlDominantRead
  | referenceLost
  | referenceRestored
  | unacceptedFrameClose
  /-- Words of an abandoned request, none of which bears the current tag (R28, R171). -/
  | discardedAnswer
deriving DecidableEq, Repr

end Sys2Proof
end

