-- ==== Sys2Proof/WellFormed.lean ====
section
/-! DEFINITION. Which commands are laid out as the manual's formats say. Every operand type admits only
values of the right width, so what is left to check is the frames: the bits that Tables 5-2 and 11-6 fix to
zero, the codes they define, and that class 7 is no class of a frame that ends at a veto slot (R83). The machine
gives a meaning to every command, well formed or not. -/

namespace Sys2Proof

/-- An EVENT body uses defined codes, and its lost count is zero when GAP_BEFORE is clear (section 11.4). -/
def EventBody.wf (e : EventBody) : Bool :=
  (1 ≤ e.kind.toNat && e.kind.toNat ≤ 10) && e.quality.toNat ≤ 2 && (e.gapBefore || e.lostCount == 0#16)

/-- A FINDING body uses defined codes, and an absent device is sent as zeros (section 11.4). -/
def FindingBody.wf (f : FindingBody) : Bool :=
  f.group.toNat ≤ 4 && f.disposition.toNat ≤ 4 && (f.devicePresent || f.device == 0#16)

/-- A STATE body uses a defined class code, and every absent field is sent as zeros (section 11.4). -/
def StateBody.wf (d : StateBody) : Bool :=
  d.cls.toNat ≤ 2 && (d.travelPresent || d.travelStart == 0#40) && (d.lastChangePresent || d.lastChange == 0#40)
    && (d.lastEventPresent ||
      (d.lastEventKind == 0#4 && d.lastEventTime == 0#40 && d.sourceForm == 0#1 && d.sourceNumber == 0#5))

/-- A STATUS body uses a defined fault cause (section 11.4). -/
def StatusBody.wf (r : StatusBody) : Bool :=
  r.faultCause.toNat ≤ 10

/-- A frame whose key and body are as its class lays them down (Table 5-2). -/
def Frame.wf (f : Frame) : Bool :=
  match f.body with
  | .command _ => f.key.extractLsb' 0 32 == 0#32
  | .cut => true
  | .event e => e.wf
  | .next => true
  | .finding b => b.wf
  | .state d => f.key.extractLsb' 16 24 == 0#24 && d.wf
  | .status r => f.key == 0#40 && r.wf
  | .invalid => false

/-- A command whose frame, where it carries one, is well formed. -/
def Instr.wf : Instr → Bool
  | .frameAccepted h => h.frame.wf
  | .frameVetoed h => h.frame.wf
  | .powerOnReset | .pinReset | .resetEnd _ _ | .loadSlotAnswer _ | .archiveReadTimeout | .laneVisitStart
  | .laneSlotAnswer _ | .checkpointSlotAnswer _ | .joinOnClose | .joinIdleExpiry | .openCondition _
  | .arbitrationComplete _ | .stretchEnd _ | .bitError | .abortConditionHeard | .busAbandonTimeout | .cutTaken
  | .eventTaken | .nextTaken | .reportFrameTaken | .run | .pause | .step | .seek | .halt | .epoch | .rate
  | .release | .query | .poll | .undefinedCommand | .closePulseEnd | .paceTimeMet | .bhlRise | .bhlDominantRead
  | .referenceLost | .referenceRestored | .unacceptedFrameClose | .discardedAnswer => true

end Sys2Proof
end

