-- ==== Sys2Proof/Decode.lean ====
section
/-! DEFINITION. The wire format of frames (R82, section 11.4), the check octet (R170), and the reading of a word
of spec/opcode_table.json, whose rows give no bits. -/

namespace Sys2Proof

/-- The bits of a field, most significant first (R82). -/
def bitsOf {n : Nat} (v : BitVec n) : List Bool :=
  (List.range n).map v.getMsbD

/-- The bit of a flag. -/
def flagBit (b : Bool) : List Bool :=
  [b]

/-- The class code of a body (Table 5-2). -/
def Body.classCode : Body → BitVec 3
  | .command _ => 0#3
  | .cut => 1#3
  | .event _ => 2#3
  | .next => 3#3
  | .finding _ => 4#3
  | .state _ => 5#3
  | .status _ => 6#3
  | .invalid => 7#3

/-- The arbitration field of a frame (R82). -/
def Frame.arbitration (f : Frame) : ArbField :=
  { cls := f.body.classCode, key := f.key, station := f.station }

/-- An arbitration field read as one 48-bit unsigned number (R82). -/
def ArbField.value (a : ArbField) : Nat :=
  (a.cls.toNat * 2 ^ 40 + a.key.toNat) * 2 ^ 5 + a.station.toNat

/-- The bits of an arbitration field, in the order sent (R82). -/
def ArbField.bits (a : ArbField) : List Bool :=
  bitsOf a.cls ++ bitsOf a.key ++ bitsOf a.station

/-- The bits of a COMMAND body (Table 11-6). -/
def CommandBody.bits (a : CommandBody) : List Bool :=
  bitsOf a.station ++ bitsOf a.lane ++ bitsOf a.action ++ bitsOf a.numeric

/-- The bits of an EVENT body (Table 11-6). -/
def EventBody.bits (e : EventBody) : List Bool :=
  bitsOf e.lane ++ bitsOf e.laneSeq ++ bitsOf e.recorder ++ bitsOf e.device ++ bitsOf e.kind ++ bitsOf e.rawStamp
    ++ bitsOf e.tickCode ++ bitsOf e.quality ++ flagBit e.held ++ flagBit e.gapBefore ++ bitsOf e.lostCount
    ++ flagBit e.duplicate ++ flagBit e.released ++ bitsOf e.anomalies

/-- The bits of a FINDING body (Table 11-6). -/
def FindingBody.bits (f : FindingBody) : List Bool :=
  bitsOf f.lane ++ bitsOf f.group ++ bitsOf f.anomalies ++ bitsOf f.disposition ++ flagBit f.devicePresent
    ++ bitsOf f.device ++ bitsOf f.slot

/-- The bits of a STATE body (Table 11-6). -/
def StateBody.bits (d : StateBody) : List Bool :=
  bitsOf d.role ++ bitsOf d.cls ++ bitsOf d.maxTravel ++ bitsOf d.position ++ flagBit d.lockout ++ flagBit d.pickup
    ++ flagBit d.travelPresent ++ bitsOf d.travelStart ++ flagBit d.lastChangePresent ++ bitsOf d.lastChange
    ++ flagBit d.lastEventPresent ++ bitsOf d.lastEventKind ++ bitsOf d.lastEventTime ++ bitsOf d.sourceForm
    ++ bitsOf d.sourceNumber ++ bitsOf d.operations ++ bitsOf d.corroborations

/-- The bits of a STATUS body (Table 11-6). Lane sets give bit 15 to lane 15, first. -/
def StatusBody.bits (r : StatusBody) : List Bool :=
  bitsOf r.mode ++ bitsOf r.startCause ++ bitsOf r.faultCause ++ bitsOf r.timebase ++ bitsOf r.windowStart
    ++ bitsOf r.lanesTrapped ++ bitsOf r.lanesEnded ++ bitsOf r.lanesLost ++ bitsOf r.lostFindings
    ++ flagBit r.seekDegraded ++ flagBit r.configWarning

/-- The bits of a body (Table 11-6). CUT and NEXT have none; class 7 has none that a station interprets. -/
def Body.bits : Body → List Bool
  | .command a => a.bits
  | .cut => []
  | .event e => e.bits
  | .next => []
  | .finding f => f.bits
  | .state d => d.bits
  | .status r => r.bits
  | .invalid => []

/-- The bits of a frame that its check octet covers, in the order sent (R82, R170). -/
def Frame.bits (f : Frame) : List Bool :=
  f.arbitration.bits ++ f.body.bits

/-- One bit through the check register: exclusive-or of its top bit with the data bit, a shift toward the top,
and 0x9B when the feedback bit is 1 (R170). -/
def crcStep (r : BitVec 8) (b : Bool) : BitVec 8 :=
  if (r.msb ^^ b) then (r <<< 1) ^^^ 0x9B#8 else r <<< 1

/-- The check register over a run of bits, beginning with 0xFF (R170). -/
def crc8 (bits : List Bool) : BitVec 8 :=
  bits.foldl crcStep 0xFF#8

/-- The check octet of a frame (R170). -/
def Frame.checkOctet (f : Frame) : BitVec 8 :=
  crc8 f.bits

/-- The check octet computed over the bits heard matches the one received (R91, R170). -/
def HeardFrame.intact (h : HeardFrame) : Bool :=
  h.frame.checkOctet == h.octet

/-- The first n bits, read as a field most significant first, and the bits that follow. -/
def takeField (n : Nat) (bits : List Bool) : BitVec n × List Bool :=
  (BitVec.ofNat n ((bits.take n).foldl (fun a b => 2 * a + b.toNat) 0), bits.drop n)

/-- The first bit, read as a flag, and the bits that follow. -/
def takeFlag (bits : List Bool) : Bool × List Bool :=
  (bits.headD false, bits.tail)

/-- The COMMAND body that a run of bits spells (Table 11-6). -/
def CommandBody.ofBits (bits : List Bool) : CommandBody :=
  let (station, bits) := takeField 6 bits
  let (lane, bits) := takeField 4 bits
  let (action, bits) := takeField 2 bits
  let (numeric, _) := takeField 40 bits
  { station, lane, action, numeric }

/-- The EVENT body that a run of bits spells (Table 11-6). -/
def EventBody.ofBits (bits : List Bool) : EventBody :=
  let (lane, bits) := takeField 4 bits
  let (laneSeq, bits) := takeField 28 bits
  let (recorder, bits) := takeField 32 bits
  let (device, bits) := takeField 16 bits
  let (kind, bits) := takeField 4 bits
  let (rawStamp, bits) := takeField 48 bits
  let (tickCode, bits) := takeField 2 bits
  let (quality, bits) := takeField 2 bits
  let (held, bits) := takeFlag bits
  let (gapBefore, bits) := takeFlag bits
  let (lostCount, bits) := takeField 16 bits
  let (duplicate, bits) := takeFlag bits
  let (released, bits) := takeFlag bits
  let (anomalies, _) := takeField 6 bits
  { lane, laneSeq, recorder, device, kind, rawStamp, tickCode, quality, held, gapBefore, lostCount, duplicate,
    released, anomalies }

/-- The FINDING body that a run of bits spells (Table 11-6). -/
def FindingBody.ofBits (bits : List Bool) : FindingBody :=
  let (lane, bits) := takeField 4 bits
  let (group, bits) := takeField 3 bits
  let (anomalies, bits) := takeField 12 bits
  let (disposition, bits) := takeField 3 bits
  let (devicePresent, bits) := takeFlag bits
  let (device, bits) := takeField 16 bits
  let (slot, _) := takeField 32 bits
  { lane, group, anomalies, disposition, devicePresent, device, slot }

/-- The STATE body that a run of bits spells (Table 11-6). -/
def StateBody.ofBits (bits : List Bool) : StateBody :=
  let (role, bits) := takeField 1 bits
  let (cls, bits) := takeField 2 bits
  let (maxTravel, bits) := takeField 16 bits
  let (position, bits) := takeField 2 bits
  let (lockout, bits) := takeFlag bits
  let (pickup, bits) := takeFlag bits
  let (travelPresent, bits) := takeFlag bits
  let (travelStart, bits) := takeField 40 bits
  let (lastChangePresent, bits) := takeFlag bits
  let (lastChange, bits) := takeField 40 bits
  let (lastEventPresent, bits) := takeFlag bits
  let (lastEventKind, bits) := takeField 4 bits
  let (lastEventTime, bits) := takeField 40 bits
  let (sourceForm, bits) := takeField 1 bits
  let (sourceNumber, bits) := takeField 5 bits
  let (operations, bits) := takeField 16 bits
  let (corroborations, _) := takeField 8 bits
  { role, cls, maxTravel, position, lockout, pickup, travelPresent, travelStart, lastChangePresent, lastChange,
    lastEventPresent, lastEventKind, lastEventTime, sourceForm, sourceNumber, operations, corroborations }

/-- The STATUS body that a run of bits spells (Table 11-6). -/
def StatusBody.ofBits (bits : List Bool) : StatusBody :=
  let (mode, bits) := takeField 3 bits
  let (startCause, bits) := takeField 1 bits
  let (faultCause, bits) := takeField 4 bits
  let (timebase, bits) := takeField 1 bits
  let (windowStart, bits) := takeField 40 bits
  let (lanesTrapped, bits) := takeField 16 bits
  let (lanesEnded, bits) := takeField 16 bits
  let (lanesLost, bits) := takeField 16 bits
  let (lostFindings, bits) := takeField 8 bits
  let (seekDegraded, bits) := takeFlag bits
  let (configWarning, _) := takeFlag bits
  { mode, startCause, faultCause, timebase, windowStart, lanesTrapped, lanesEnded, lanesLost, lostFindings,
    seekDegraded, configWarning }

/-- The body that a run of bits spells in a frame of a given class (Table 5-2). -/
def Body.ofBits (cls : BitVec 3) (bits : List Bool) : Body :=
  match cls.toNat with
  | 0 => .command (CommandBody.ofBits bits)
  | 1 => .cut
  | 2 => .event (EventBody.ofBits bits)
  | 3 => .next
  | 4 => .finding (FindingBody.ofBits bits)
  | 5 => .state (StateBody.ofBits bits)
  | 6 => .status (StatusBody.ofBits bits)
  | _ => .invalid

/-- The frame that the bits between an open condition and the check octet spell (R82). -/
def Frame.ofBits (bits : List Bool) : Frame :=
  let (cls, bits) := takeField 3 bits
  let (key, bits) := takeField 40 bits
  let (station, bits) := takeField 5 bits
  { key, station, body := Body.ofBits cls bits }

/-- The command that a word of spec/opcode_table.json spells. No row of the table gives bits, so no word
spells one. -/
def decodeTableWord (_nbits _w : Nat) : Option Instr :=
  none

end Sys2Proof
end

