-- ==== Sys2Proof/Machine/State.lean ====
section
/-! DEFINITION. The state of one K640 engine, block by block as Table 0-1 lists them, and the state right
after power-on reset. Every field is plain data. -/

namespace Sys2Proof.Machine

/-- There is no fault: the manual gives every command an effect in every state, and the engine never issues
an archive read outside the archive (R1). -/
inductive Fault where
deriving DecidableEq, Repr

/-- Why a command has no meaning. -/
inductive Refusal where
  /-- Raised by `exec` alone, for a command without a meaning; every command has one, so nothing raises it.
  Safe: the machine stops where the engine would go on. -/
  | notModelled (mnemonic : String)
deriving DecidableEq, Repr

/-- The engine's modes (Table 9-1). -/
inductive Mode where
  | loading | faulted | standby | seeking | paused | running | ended | withdrawn
deriving DecidableEq, Repr

/-- The mode a seek ends in (R155). -/
inductive AfterSeek where
  | paused | running
deriving DecidableEq, Repr

/-- The start cause (R3). -/
inductive StartCause where
  | powerOn | pin
deriving DecidableEq, Repr

/-- The fault causes, in the order of R155. -/
inductive FaultCause where
  | none | badFormat | badLaneCount | badLaneEntry | badRegion | regionOverlap | badDeviceList | badRange
  | badDirectory | archiveTimeout | duplicateNumber
deriving DecidableEq, Repr

/-- The phases of an epoch (R101). -/
inductive Phase where
  | gather | emit | suspended
deriving DecidableEq, Repr

/-- The step budget (R101). -/
inductive Budget where
  | unlimited
  | epochs (n : Nat)
deriving DecidableEq, Repr

/-- What the Pace Unit does to BHL (Table 6-1). -/
inductive Drive where
  | dominant | released
deriving DecidableEq, Repr

/-- The source of the pace timer (R117). -/
inductive Timebase where
  | reference | internal
deriving DecidableEq, Repr

/-- The lane states (Table 2-2). A lane is configured when it is not DISABLED (R7). -/
inductive LaneState where
  | disabled | ready | waiting | stalled | passed | trapped | ended | lost
deriving DecidableEq, Repr

/-- The bus states (Table 5-1). VETO_SLOT is entered and left within the command that ends the frame. -/
inductive BusState where
  | joining | idle | contending | stretching | sending | receiving | vetoSlot
deriving DecidableEq, Repr

/-- The event kinds, by value 1 to 10 (Table 1-5). -/
inductive EventKind where
  | pickup | dropout | trip | openCmd | closeCmd | opened | closed | travel | lockout | lockoutReset
deriving DecidableEq, Repr

/-- The tick units, by code 0 to 3 (Table 11-4). -/
inductive TickUnit where
  | us1 | us10 | us100 | us1000
deriving DecidableEq, Repr

/-- The clock qualities, by code 0 to 2 (R44, Table 11-6). -/
inductive Quality where
  | nominal | offsetOnly | tracking
deriving DecidableEq, Repr

/-- The roles of a device (R121). -/
inductive Role where
  | owned | watched
deriving DecidableEq, Repr

/-- The classes of a device (R121). -/
inductive DeviceClass where
  | breaker | disconnector | switch
deriving DecidableEq, Repr

/-- The positions of a device (R121), by checkpoint code 0 to 3 (Table 11-5). -/
inductive Position where
  | opened | closed | travel | unknown
deriving DecidableEq, Repr

/-- What a lane's action mask asks for a group of anomalies (R139). -/
inductive Action where
  | hold | pass
deriving DecidableEq, Repr

/-- The dispositions of a finding, by code 0 to 4 (Table 11-6). -/
inductive Disposition where
  | heldForRelease | skipped | applied | laneLost | forcedCut
deriving DecidableEq, Repr

/-- A set of anomalies (Table 8-1). -/
structure AnomalySet where
  damaged : Bool := false
  undecodable : Bool := false
  regression : Bool := false
  clockStep : Bool := false
  unknownDevice : Bool := false
  outOfRange : Bool := false
  redundant : Bool := false
  lockoutClose : Bool := false
  noPickup : Bool := false
  overtime : Bool := false
  held : Bool := false
  gapBefore : Bool := false
deriving DecidableEq, Repr

/-- A lane's action mask: one action for each group (R139). -/
structure ActionMask where
  group1 : Action
  group2 : Action
  group3 : Action
  group4 : Action
deriving DecidableEq, Repr

/-- A clock model (Table 3-1). Times and spans are in µs, drifts in ppb. -/
structure ClockModel where
  tick : TickUnit
  lambda : Nat
  nominalOffset : Int
  nominalDrift : Int
  offset : Int
  drift : Int
  referenceRaw : Nat
  markCount : Nat
  lastRaw : Nat
  lastCorrected : Nat
  lastMarkOffset : Int
  lastMarkRaw : Nat
deriving DecidableEq, Repr

/-- The key of a merge queue entry (R64). -/
structure EntryKey where
  time : Nat
  lane : Fin 16
  laneSeq : Nat
deriving DecidableEq, Repr

/-- A merge queue entry (Table 4-1). `gapBefore` is the lost count when GAP_BEFORE is set. -/
structure Entry where
  time : Nat
  lane : Fin 16
  laneSeq : Nat
  recorder : BitVec 32
  slot : Nat
  device : BitVec 16
  kind : EventKind
  rawStamp : BitVec 48
  tick : TickUnit
  quality : Quality
  held : Bool
  gapBefore : Option Nat
  released : Bool
deriving DecidableEq, Repr

/-- An event between its correction and its insertion (R52, R53, R141): what a trapped or released record
keeps. `slot` is the index of its slot in the lane's region. -/
structure HeldEvent where
  device : BitVec 16
  kind : EventKind
  rawStamp : BitVec 48
  raw : Nat
  unheld : Nat
  clamped : Bool
  quality : Quality
  slot : Nat
deriving DecidableEq, Repr

/-- A lane's held item (Table 2-1). -/
inductive HeldItem where
  /-- A trapped DAMAGED or UNDECODABLE slot. -/
  | slot
  /-- A trapped SYNC_MARK: raw time and reference time (R61). -/
  | mark (raw : Nat) (reference : Nat)
  /-- A trapped EVENT record. -/
  | event (e : HeldEvent)
  /-- A released record that waits for a free entry. -/
  | released (e : HeldEvent)
deriving DecidableEq, Repr

/-- A trap record (R148). A trap at winning is always of group 4. -/
inductive Trap where
  | fetch (group : Nat)
  | winning (key : EntryKey) (before : LaneState)
deriving DecidableEq, Repr

/-- A lane's silent event on the silent front (R160). -/
structure SilentEvent where
  time : Nat
  device : BitVec 16
  kind : EventKind
deriving DecidableEq, Repr

/-- All that the engine holds for one lane: the AFU's lane record (Table 2-1), the CCU's clock model, the
CKU's action mask and trap record, and the RC's silent event. In a DISABLED lane the fields other than `state`
stand for nothing and are not read (R7, R45, R139). `gap` is the pending lost count when gap pending is set. -/
structure Lane where
  state : LaneState
  base : Nat
  slotCount : Nat
  fetchWidth : Nat
  recorder : BitVec 32
  readPos : Nat
  lastSeq : Option (BitVec 32)
  gap : Option Nat
  insertions : Nat
  held : Option HeldItem
  clock : ClockModel
  mask : ActionMask
  trap : Option Trap
  silent : Option SilentEvent
deriving DecidableEq, Repr

/-- Who issued the outstanding archive read. -/
inductive ReadOwner where
  | load
  | lane (l : Fin 16)
  | checkpoint
deriving DecidableEq, Repr

/-- The outstanding archive read (R22, R171): its owner, the archive slot, and whether it is a retry. -/
structure Request where
  owner : ReadOwner
  slot : Nat
  retry : Bool
deriving DecidableEq, Repr

/-- An entry of the checkpoint directory (section 1.2.7). -/
structure DirEntry where
  time : Nat
  slot : Nat
deriving DecidableEq, Repr

/-- A lane sub-record of a checkpoint, as read (Table 11-5). -/
structure LaneSub where
  lane : Nat
  nextSlot : Nat
  offset : Int
  drift : Int
  referenceRaw : Nat
  markCount : Nat
  lastRaw : Nat
  lastCorrected : Nat
  lastSeq : Option (BitVec 32)
  gapPending : Bool
deriving DecidableEq, Repr

/-- A device sub-record of a checkpoint, as read (Table 11-5). -/
structure DeviceSub where
  device : BitVec 16
  position : Position
  lockout : Bool
  pickup : Bool
  operations : Nat
  travelStart : Nat
deriving DecidableEq, Repr

/-- The checkpoint load in progress (R19): the directory entry it reads, how many slots have been taken,
the header's counts, the first slot of a lane sub-record whose second is being read, and the sub-records
read so far, newest first. -/
structure CheckpointLoad where
  entry : DirEntry
  taken : Nat
  laneCount : Nat
  deviceCount : Nat
  firstSlot : Option Slot
  lanes : List LaneSub
  devices : List DeviceSub
deriving DecidableEq, Repr

/-- The Archive Fetch Unit (R22), with the lanes, the copy of the checkpoint directory (R12) and the port's
outputs (R171). AREQ is high exactly while a request is outstanding; `words` are the words already taken for it,
first word first (R171). `visitEnding` holds once the condition for visits has ceased while a lane's read is
outstanding: the visit ends with that read (R24). -/
structure Afu where
  lanes : Vector Lane 16
  rotation : Fin 16
  request : Option Request
  visitCount : Nat
  directory : List DirEntry
  checkpoint : Option CheckpointLoad
  atag : Bool
  aadr : BitVec 27
  words : List (BitVec 32)
  visitEnding : Bool
deriving DecidableEq, Repr

/-- The settings the Clock Correction Unit reads (R11). Its clock models stand in the lanes. -/
structure Ccu where
  driftShift : Nat
  stepLimit : Nat
deriving DecidableEq, Repr

/-- The cut record (R73). `forcedLane` is present when the cut is forced: the lane its finding names (R77). -/
inductive CutRecord where
  | absent
  | pending (cut : Nat) (forcedLane : Option (Fin 16))
  | taken
deriving DecidableEq, Repr

/-- The Merge Queue (R64, R73). The head of the list is the head of the queue. -/
structure Mq where
  entries : List Entry
  cut : CutRecord
deriving DecidableEq, Repr

/-- The outbound frame in progress: the frame as built, and for an EVENT the key of its entry (R69). -/
structure Outbound where
  frame : Frame
  entry : Option EntryKey
deriving DecidableEq, Repr

/-- The Bus Interface Unit (Chapter 5). `fullAtOpen` is whether the inbound queue was full at the open
condition of the frame in progress (R91); `discarding` is whether that frame read as class 7 (R83). -/
structure Biu where
  state : BusState
  outbound : Option Outbound
  inbound : List Frame
  vetoCount : Nat
  failureCount : Nat
  fullAtOpen : Bool
  discarding : Bool
deriving DecidableEq, Repr

/-- The Pace Unit (Table 6-1). -/
structure Pu where
  windowStart : Nat
  windowEnd : Nat
  span : Nat
  pace : Nat
  budget : Budget
  pausePending : Bool
  phase : Phase
  drive : Drive
  closePulse : Bool
  paceTimer : Nat
  timebase : Timebase
deriving DecidableEq, Repr

/-- The source of a device's last event (R121). -/
inductive Source where
  | lane (l : Fin 16)
  | station (n : BitVec 5)
deriving DecidableEq, Repr

/-- A device's last event (R121). -/
structure LastEvent where
  kind : EventKind
  time : Nat
  source : Source
deriving DecidableEq, Repr

/-- A device entry (Table 7-1). `maxTravel` is in milliseconds. -/
structure Device where
  number : BitVec 16
  role : Role
  cls : DeviceClass
  maxTravel : Nat
  position : Position
  lockout : Bool
  pickup : Bool
  travelStart : Option Nat
  lastChange : Option Nat
  lastEvent : Option LastEvent
  operations : Nat
  corroborations : Nat
deriving DecidableEq, Repr

/-- A device range (R10). Bit l of the mask is lane l. -/
structure DeviceRange where
  low : Nat
  high : Nat
  mask : BitVec 16
deriving DecidableEq, Repr

/-- The Device State Table: entries in the order accepted, device ranges and reply list (R121, R122, R131). -/
structure Dst where
  devices : List Device
  ranges : List DeviceRange
  replies : List (BitVec 16)
deriving DecidableEq, Repr

/-- A finding (Table 8-5). Group 0 stands for none. -/
structure Finding where
  lane : Fin 16
  group : Nat
  anomalies : AnomalySet
  disposition : Disposition
  device : Option (BitVec 16)
  slot : Nat
  key : Nat
deriving DecidableEq, Repr

/-- The Check Unit: the finding queue, oldest first, the lost-findings count, and the coincidence tolerance
(R11, R153, R154). Its action masks and trap records stand in the lanes. -/
structure Cku where
  findings : List Finding
  lostFindings : Nat
  tolerance : Nat
deriving DecidableEq, Repr

/-- The header of a station block, as read (Table 11-3), less its format code. -/
structure Header where
  laneCount : Nat
  deviceCount : Nat
  rangeCount : Nat
  tolerance : Nat
  driftShift : Nat
  stepLimit : Nat
  directoryBase : Nat
  directoryCount : Nat
deriving DecidableEq, Repr

/-- A lane entry of the station block, after the adjustments of R7 (Table 11-4). -/
structure LaneConfig where
  recorder : BitVec 32
  base : Nat
  slotCount : Nat
  tick : TickUnit
  lambda : Nat
  nominalOffset : Int
  nominalDrift : Int
  fetchWidth : Nat
  mask : ActionMask
deriving DecidableEq, Repr

/-- Which slot of the start-up load is being read (R4). -/
inductive LoadStage where
  | header
  | lane (i : Nat)
  | devices (i : Nat)
  | ranges
  | directory (i : Nat)
deriving DecidableEq, Repr

/-- The start-up load in progress: the slot it waits for and what it has accepted so far (R4, R5). -/
structure LoadProgress where
  stage : LoadStage
  header : Header
  lanes : List LaneConfig
  devices : List Device
  ranges : List DeviceRange
  directory : List DirEntry
deriving DecidableEq, Repr

/-- Replay Control (R3, R155), with the start-up load in progress. -/
structure Rc where
  mode : Mode
  modeAfterSeek : AfterSeek
  startCause : StartCause
  faultCause : FaultCause
  configWarning : Bool
  seekDegraded : Bool
  seekTime : Nat
  statusPending : Bool
  load : Option LoadProgress
deriving DecidableEq, Repr

/-- One engine. `inReset` holds from the start of a reset until its end (R3); `straps` are the values sampled at
the end of the last reset (R2); `pending` is the model's queue of commands that wait, first in, first out. -/
structure State where
  inReset : Bool
  straps : Straps
  afu : Afu
  ccu : Ccu
  mq : Mq
  biu : Biu
  pu : Pu
  dst : Dst
  cku : Cku
  rc : Rc
  pending : List Instr
deriving DecidableEq, Repr

/-- The placeholder clock model of a lane that holds none (R44, R45). -/
def ClockModel.absent : ClockModel :=
  { tick := .us1, lambda := 0, nominalOffset := 0, nominalDrift := 0, offset := 0, drift := 0, referenceRaw := 0,
    markCount := 0, lastRaw := 0, lastCorrected := 0, lastMarkOffset := 0, lastMarkRaw := 0 }

/-- A DISABLED lane: no region, clock model, mask, held item, trap record or silent event (R7, R23). -/
def Lane.disabled : Lane :=
  { state := .disabled, base := 0, slotCount := 0, fetchWidth := 1, recorder := 0#32, readPos := 0, lastSeq := none,
    gap := none, insertions := 0, held := none, clock := ClockModel.absent,
    mask := { group1 := .pass, group2 := .pass, group3 := .pass, group4 := .pass }, trap := none, silent := none }

/-- The engine right after power-on reset, its end (RESET_END) still to come: R3, R23, R45, R65, R73, R80,
R94, R96, R97, R101, R122, R131, R148, R153, R154, R155, R160, R171. -/
def State.reset : State :=
  { inReset := true
    straps := { station := 0#5, busRate := 0#2, archiveSize := 0#2 }  -- DESIGN CHOICE (notes/assumptions/3.md): not sampled yet
    afu :=
      { lanes := Vector.replicate 16 Lane.disabled, rotation := 0, request := none
        visitCount := 0  -- DESIGN CHOICE (notes/assumptions/3.md)
        directory := [], checkpoint := none, atag := false
        aadr := 0#27  -- DESIGN CHOICE (notes/assumptions/3.md)
        words := [], visitEnding := false }
    ccu := { driftShift := 0, stepLimit := 0 }  -- DESIGN CHOICE (notes/assumptions/3.md): no station block read yet
    mq := { entries := [], cut := .absent }
    biu :=
      { state := .joining, outbound := none, inbound := [], vetoCount := 0, failureCount := 0, fullAtOpen := false,
        discarding := false }
    pu :=
      { windowStart := 0, windowEnd := 1000, span := Config.resetSpan, pace := 0, budget := .unlimited,
        pausePending := false, phase := .gather, drive := .released, closePulse := false, paceTimer := 0
        timebase := .internal }  -- DESIGN CHOICE (notes/assumptions/3.md): selected at the end of reset
    dst := { devices := [], ranges := [], replies := [] }
    cku := { findings := [], lostFindings := 0, tolerance := 0 }  -- tolerance: DESIGN CHOICE (notes/assumptions/3.md)
    rc :=
      { mode := .loading, modeAfterSeek := .paused, startCause := .powerOn, faultCause := .none
        configWarning := false, seekDegraded := false, seekTime := 0, statusPending := false, load := none }
    pending := [] }

end Sys2Proof.Machine
end

