-- ==== Sys2Proof/Machine/Operands.lean ====
section
/-! DEFINITION. The layouts of the archive (Chapter 11): the fields of record slots, station block slots and
checkpoint slots, the classification of a lane slot (R14), the codes of enumerated values, and the archive map
(R1). -/

namespace Sys2Proof.Machine

/-- `n` bytes of a slot from byte `lo`, most significant byte first (Chapter 11). -/
def bytesAt (s : Slot) (lo n : Nat) : BitVec (8 * n) :=
  s.extractLsb' (8 * (32 - lo - n)) (8 * n)

/-- `n` bytes of a slot from byte `lo`, as an unsigned number. -/
def natAt (s : Slot) (lo n : Nat) : Nat :=
  (bytesAt s lo n).toNat

/-- `n` bytes of a slot from byte `lo`, as a two's complement number. -/
def intAt (s : Slot) (lo n : Nat) : Int :=
  (bytesAt s lo n).toInt

/-- `n` bytes of a slot from byte `lo` are all zero. -/
def zeroAt (s : Slot) (lo n : Nat) : Bool :=
  bytesAt s lo n == 0#(8 * n)

/-- All 32 bytes are 0xFF (R14). -/
def erased (s : Slot) : Bool :=
  s == BitVec.allOnes 256

/-- The byte XOR of all 32 bytes (R14). -/
def xorBytes (s : Slot) : Byte :=
  (List.range 32).foldl (fun acc i => acc ^^^ s.extractLsb' (8 * i) 8) 0#8

/-- The event kind of a value (Table 1-5); none outside 1 to 10. -/
def EventKind.ofCode : Nat → Option EventKind
  | 1 => some .pickup
  | 2 => some .dropout
  | 3 => some .trip
  | 4 => some .openCmd
  | 5 => some .closeCmd
  | 6 => some .opened
  | 7 => some .closed
  | 8 => some .travel
  | 9 => some .lockout
  | 10 => some .lockoutReset
  | _ => none

/-- The value of an event kind (Table 1-5). -/
def EventKind.code : EventKind → Nat
  | .pickup => 1
  | .dropout => 2
  | .trip => 3
  | .openCmd => 4
  | .closeCmd => 5
  | .opened => 6
  | .closed => 7
  | .travel => 8
  | .lockout => 9
  | .lockoutReset => 10

/-- The tick unit of a code (Table 11-4); none above 3. -/
def TickUnit.ofCode : Nat → Option TickUnit
  | 0 => some .us1
  | 1 => some .us10
  | 2 => some .us100
  | 3 => some .us1000
  | _ => none

/-- The code of a tick unit (Table 11-4). -/
def TickUnit.code : TickUnit → Nat
  | .us1 => 0
  | .us10 => 1
  | .us100 => 2
  | .us1000 => 3

/-- The length of a tick in microseconds (R44). -/
def TickUnit.micros : TickUnit → Nat
  | .us1 => 1
  | .us10 => 10
  | .us100 => 100
  | .us1000 => 1000

/-- The code of a clock quality (Table 11-6). -/
def Quality.code : Quality → Nat
  | .nominal => 0
  | .offsetOnly => 1
  | .tracking => 2

/-- The position of a code (Table 11-5); none above 3. -/
def Position.ofCode : Nat → Option Position
  | 0 => some .opened
  | 1 => some .closed
  | 2 => some .travel
  | 3 => some .unknown
  | _ => none

/-- The code of a position: DEDUCED, a STATE body uses the codes of Table 11-5 (notes/assumptions/11.md). -/
def Position.code : Position → Nat
  | .opened => 0
  | .closed => 1
  | .travel => 2
  | .unknown => 3

/-- The role of a code (Table 11-2); none above 1. -/
def Role.ofCode : Nat → Option Role
  | 0 => some .owned
  | 1 => some .watched
  | _ => none

/-- The code of a role: DEDUCED, a STATE body uses the codes of Table 11-2 (notes/assumptions/11.md). -/
def Role.code : Role → Nat
  | .owned => 0
  | .watched => 1

/-- The device class of a code (Table 11-2); none above 2. -/
def DeviceClass.ofCode : Nat → Option DeviceClass
  | 0 => some .breaker
  | 1 => some .disconnector
  | 2 => some .switch
  | _ => none

/-- The code of a device class: DEDUCED, a STATE body uses the codes of Table 11-2 (notes/assumptions/11.md). -/
def DeviceClass.code : DeviceClass → Nat
  | .breaker => 0
  | .disconnector => 1
  | .switch => 2

/-- The code of a mode (section 11.4). -/
def Mode.code : Mode → Nat
  | .loading => 0
  | .faulted => 1
  | .standby => 2
  | .seeking => 3
  | .paused => 4
  | .running => 5
  | .ended => 6
  | .withdrawn => 7

/-- The code of a start cause (Table 11-6). -/
def StartCause.code : StartCause → Nat
  | .powerOn => 0
  | .pin => 1

/-- The code of a fault cause: NONE 0, then in the order of R155 (section 11.4). -/
def FaultCause.code : FaultCause → Nat
  | .none => 0
  | .badFormat => 1
  | .badLaneCount => 2
  | .badLaneEntry => 3
  | .badRegion => 4
  | .regionOverlap => 5
  | .badDeviceList => 6
  | .badRange => 7
  | .badDirectory => 8
  | .archiveTimeout => 9
  | .duplicateNumber => 10

/-- The code of a timebase (Table 11-6). -/
def Timebase.code : Timebase → Nat
  | .reference => 0
  | .internal => 1

/-- The code of a disposition (Table 11-6). -/
def Disposition.code : Disposition → Nat
  | .heldForRelease => 0
  | .skipped => 1
  | .applied => 2
  | .laneLost => 3
  | .forcedCut => 4

/-- A record slot by class (R14), with the fields of its record (R15, R16, R17). -/
inductive SlotClass where
  | erased
  | damaged
  | undecodable
  | event (device : BitVec 16) (kind : EventKind) (rawStamp : BitVec 48) (seq : BitVec 32)
  | mark (rawStamp : BitVec 48) (reference : Nat) (seq : BitVec 32)
  | gap (lost : Nat) (seq : BitVec 32)
deriving DecidableEq, Repr

/-- The EVENT record of a slot of type 0x01, unless it is UNDECODABLE (R14 test 3, Table 11-1). -/
def classifyEvent (s : Slot) : SlotClass :=
  match EventKind.ofCode (natAt s 1 1) with
  | none => .undecodable
  | some kind =>
    if natAt s 2 2 = 0 ∨ natAt s 2 2 = 65535 ∨ zeroAt s 14 17 = false then .undecodable
    else .event (bytesAt s 2 2) kind (bytesAt s 4 6) (bytesAt s 10 4)

/-- The SYNC_MARK record of a slot of type 0x02, unless it is UNDECODABLE (R14 test 3, Table 11-1). -/
def classifyMark (s : Slot) : SlotClass :=
  if natAt s 14 5 = Config.noneTime ∨ zeroAt s 1 3 = false ∨ zeroAt s 19 12 = false then .undecodable
  else .mark (bytesAt s 4 6) (natAt s 14 5) (bytesAt s 10 4)

/-- The GAP record of a slot of type 0x03, unless it is UNDECODABLE (R14 test 3, Table 11-1). -/
def classifyGap (s : Slot) : SlotClass :=
  if natAt s 2 2 = 0 ∨ zeroAt s 1 1 = false ∨ zeroAt s 4 6 = false ∨ zeroAt s 14 17 = false then .undecodable
  else .gap (natAt s 2 2) (bytesAt s 10 4)

/-- The class of a slot that a lane reads: the first test of R14 that it meets. -/
def classify (s : Slot) : SlotClass :=
  if erased s then .erased
  else if xorBytes s ≠ 0#8 then .damaged
  else
    match natAt s 0 1 with
    | 1 => classifyEvent s
    | 2 => classifyMark s
    | 3 => classifyGap s
    | _ => .undecodable

/-- Slots of the archive, by its size strap (Table 1-1). -/
def archiveSlots (size : BitVec 2) : Nat :=
  match size.toNat with
  | 0 => 8388608
  | 1 => 33554432
  | 2 => 67108864
  | _ => 134217728

/-- The first slot of the station block (Table 1-1): the record area lies below it (R1). -/
def stationBlock (size : BitVec 2) : Nat :=
  archiveSlots size - Config.stationBlockSlots

/-- A value taken to the nearest of a range (R46). -/
def clampInt (lo hi x : Int) : Int :=
  if x < lo then lo else if hi < x then hi else x

/-- An offset taken into its range (R7, R20, R57). -/
def clampOffset (x : Int) : Int :=
  clampInt (-Config.maxOffset) Config.maxOffset x

/-- A drift taken into its range (R7, R20, R58). -/
def clampDrift (x : Int) : Int :=
  clampInt (-Config.maxDrift) Config.maxDrift x

/-- The fields of the station block header (Table 11-3), with k above 4 taken as 4 (R11). -/
def headerOf (s : Slot) : Header :=
  { laneCount := natAt s 4 1, deviceCount := natAt s 5 2, rangeCount := natAt s 7 1, tolerance := natAt s 8 2,
    driftShift := min 4 (natAt s 10 1), stepLimit := natAt s 11 3, directoryBase := natAt s 14 4,
    directoryCount := natAt s 18 2 }

/-- The header's k needed adjusting (R11). -/
def headerAdjusted (s : Slot) : Bool :=
  4 < natAt s 10 1

/-- The action of a mask bit: 1 is HOLD (Table 11-4). -/
def actionBit (mask : BitVec 8) (i : Nat) : Action :=
  if mask.getLsbD i then .hold else .pass

/-- A lane entry with the adjustments of R7 (Table 11-4); its tick unit code must be a defined one. -/
def laneConfigOf (s : Slot) (tick : TickUnit) : LaneConfig :=
  { recorder := bytesAt s 0 4, base := natAt s 4 4, slotCount := natAt s 8 4, tick := tick, lambda := natAt s 13 2,
    nominalOffset := clampOffset (intAt s 15 5), nominalDrift := clampDrift (intAt s 20 4),
    fetchWidth := max 1 (min 8 (natAt s 24 1)),
    mask :=
      { group1 := actionBit (bytesAt s 25 1) 0, group2 := actionBit (bytesAt s 25 1) 1,
        group3 := actionBit (bytesAt s 25 1) 2, group4 := actionBit (bytesAt s 25 1) 3 } }

/-- Some value of a lane entry needed adjusting (R7). -/
def laneAdjusted (s : Slot) : Bool :=
  clampOffset (intAt s 15 5) != intAt s 15 5 || clampDrift (intAt s 20 4) != intAt s 20 4
    || max 1 (min 8 (natAt s 24 1)) != natAt s 24 1

/-- Device entry `i` of a slot of four, when it is not to be ignored for its number or its codes (R9, Table
11-2), with the replay state of R122. -/
def deviceEntryOf (s : Slot) (i : Nat) : Option Device :=
  match Role.ofCode (natAt s (8 * i + 2) 1), DeviceClass.ofCode (natAt s (8 * i + 3) 1) with
  | some role, some cls =>
    if natAt s (8 * i) 2 = 0 ∨ natAt s (8 * i) 2 = 65535 then none
    else
      some
        { number := bytesAt s (8 * i) 2, role := role, cls := cls, maxTravel := natAt s (8 * i + 4) 2,
          position := .unknown, lockout := false, pickup := false, travelStart := none, lastChange := none,
          lastEvent := none, operations := 0, corroborations := 0 }
  | _, _ => none

/-- Device range `i` of the range slot (Table 11-2). -/
def rangeOf (s : Slot) (i : Nat) : DeviceRange :=
  { low := natAt s (8 * i) 2, high := natAt s (8 * i + 2) 2, mask := bytesAt s (8 * i + 4) 2 }

/-- Directory entry `i` of a slot of two (section 11.2). -/
def dirEntryOf (s : Slot) (i : Nat) : DirEntry :=
  { time := natAt s (16 * i) 5, slot := natAt s (16 * i + 5) 4 }

/-- A lane sub-record from its two slots, as Table 11-5 lays it out and before the adjustments of R20. -/
def laneSubOf (first second : Slot) : LaneSub :=
  { lane := natAt first 0 1, nextSlot := natAt first 1 4, offset := intAt first 5 5, drift := intAt first 10 4,
    referenceRaw := natAt first 14 8, markCount := natAt first 22 1, lastRaw := natAt second 0 8,
    lastCorrected := natAt second 8 5,
    lastSeq := if natAt second 13 1 = 0 then none else some (bytesAt second 14 4)
    gapPending := natAt second 18 1 != 0 }

/-- A device sub-record, when its device number and position code are allowed (R19, Table 11-5). -/
def deviceSubOf (s : Slot) : Option DeviceSub :=
  match Position.ofCode (natAt s 2 1) with
  | none => none
  | some position =>
    if natAt s 0 2 = 0 ∨ natAt s 0 2 = 65535 then none
    else
      some
        { device := bytesAt s 0 2, position := position, lockout := (bytesAt s 3 1).getLsbD 0,
          pickup := (bytesAt s 3 1).getLsbD 1, operations := natAt s 4 2, travelStart := natAt s 6 5 }

/-- The adjusted numeric argument of SEEK (R156). -/
def seekArg (a : CommandBody) : Nat :=
  min a.numeric.toNat Config.maxTime

/-- The adjusted numeric argument of STEP (R156). -/
def stepArg (a : CommandBody) : Nat :=
  max 1 (min 255 a.numeric.toNat)

/-- The adjusted numeric argument of EPOCH (R156). -/
def epochArg (a : CommandBody) : Nat :=
  max Config.minSpan (min Config.maxSpan a.numeric.toNat)

/-- The adjusted numeric argument of RATE (R156). -/
def rateArg (a : CommandBody) : Nat :=
  min 255 a.numeric.toNat

/-- The command code of a COMMAND frame: the top 8 bits of its key (R156, Table 11-7). -/
def commandCode (f : Frame) : Nat :=
  (f.key.extractLsb' 32 8).toNat

end Sys2Proof.Machine
end

