-- ==== Sys2Proof/Machine/Flags.lean ====
section
/-! DEFINITION. The conditions the blocks read from the state: which lanes are configured, the gathered
condition, the trapped lanes, the pace test, the drive of the hold line, what a mode allows, and the sets and
codes that frames report. -/

namespace Sys2Proof.Machine

/-- Lane l (R22). -/
def State.lane (s : State) (l : Fin 16) : Lane :=
  s.afu.lanes[l]

/-- The lane is configured: it is not DISABLED (R7). -/
def Lane.configured (x : Lane) : Bool :=
  x.state != .disabled

/-- The lane is PASSED, ENDED or LOST: it counts toward gathered (Table 2-2). -/
def Lane.finished (x : Lane) : Bool :=
  x.state == .passed || x.state == .ended || x.state == .lost

/-- The lane holds a released record that waits for a free entry (R38). -/
def Lane.releasedRecord (x : Lane) : Option HeldEvent :=
  match x.held with
  | some (.released e) => some e
  | _ => none

/-- Every lane has the property. -/
def State.allLanes (s : State) (p : Lane → Bool) : Bool :=
  (List.finRange 16).all fun l => p (s.lane l)

/-- Some lane has the property. -/
def State.anyLane (s : State) (p : Lane → Bool) : Bool :=
  (List.finRange 16).any fun l => p (s.lane l)

/-- Every configured lane is PASSED, ENDED or LOST (R104). -/
def State.lanesFinished (s : State) : Bool :=
  s.allLanes fun x => !x.configured || x.finished

/-- Every configured lane is ENDED or LOST (R109). -/
def State.lanesEnded (s : State) : Bool :=
  s.allLanes fun x => !x.configured || x.state == .ended || x.state == .lost

/-- Some lane is TRAPPED (R103). -/
def State.anyTrapped (s : State) : Bool :=
  s.anyLane fun x => x.state == .trapped

/-- Some lane is READY or WAITING: it can insert (Table 2-2, R74, R162). -/
def State.anyReading (s : State) : Bool :=
  s.anyLane fun x => x.state == .ready || x.state == .waiting

/-- The mode is PAUSED or RUNNING: the engine takes part in the epoch protocol (R101). -/
def Mode.replaying : Mode → Bool
  | .paused => true
  | .running => true
  | .loading | .faulted | .standby | .seeking | .ended | .withdrawn => false

/-- The engine drives the veto slot in this mode (R81). -/
def Mode.vetoes : Mode → Bool
  | .seeking => true
  | .paused => true
  | .running => true
  | .loading | .faulted | .standby | .ended | .withdrawn => false

/-- Accepted frames enter the inbound queue and are taken from it in this mode (R93, R156). -/
def Mode.takesFrames : Mode → Bool
  | .standby => true
  | .seeking => true
  | .paused => true
  | .running => true
  | .ended => true
  | .loading | .faulted | .withdrawn => false

/-- The engine is gathered (R104). -/
def State.gathered (s : State) : Bool :=
  s.lanesFinished || s.mq.cut == .taken

/-- The merge queue is full (R64, R68). -/
def State.queueFull (s : State) : Bool :=
  decide (Config.queueCapacity ≤ s.mq.entries.length)

/-- The inbound queue is full (R94). -/
def State.inboundFull (s : State) : Bool :=
  decide (Config.inboundCapacity ≤ s.biu.inbound.length)

/-- The key of an entry (R64). -/
def Entry.key (e : Entry) : EntryKey :=
  { time := e.time, lane := e.lane, laneSeq := e.laneSeq }

/-- The order of the merge queue: corrected time, then lane, then lane sequence (R64). -/
def EntryKey.before (a b : EntryKey) : Bool :=
  decide (a.time < b.time)
    || (decide (a.time = b.time)
      && (decide (a.lane < b.lane) || (decide (a.lane = b.lane) && decide (a.laneSeq < b.laneSeq))))

/-- The pace time, in microseconds, rounded up (R116). -/
def State.paceTime (s : State) : Nat :=
  ((s.pu.windowEnd - s.pu.windowStart) * s.pu.pace + 15) / 16

/-- The pace test is met (R116). -/
def State.paceMet (s : State) : Bool :=
  decide (s.paceTime ≤ s.pu.paceTimer)

/-- A frame is a NEXT frame (Table 5-2). -/
def isNextFrame (f : Frame) : Bool :=
  match f.body with
  | .next => true
  | _ => false

/-- An accepted NEXT frame has not yet been taken from the inbound queue (R103). DEDUCED: notes/assumptions/31.md. -/
def State.nextWaiting (s : State) : Bool :=
  s.biu.inbound.any isNextFrame

/-- The release conditions of R105 for an engine RUNNING in GATHER. -/
def State.mayRelease (s : State) : Bool :=
  !s.pu.closePulse && s.gathered && !s.anyTrapped && s.paceMet

/-- The drive of BHL that the mode, the phase and the other inputs call for (R103, Table 6-3, R105). -/
def State.driveFor (s : State) : Drive :=
  match s.rc.mode with
  | .seeking => .dominant
  | .paused =>
    match s.pu.phase with
    | .gather => .dominant
    | .emit | .suspended => if s.anyTrapped || s.nextWaiting then .dominant else .released
  | .running =>
    match s.pu.phase with
    | .gather => if s.mayRelease then .released else .dominant
    | .emit | .suspended => if s.anyTrapped || s.nextWaiting then .dominant else .released
  | .loading | .standby | .ended | .withdrawn | .faulted => .released

/-- The level of BHL that the engine reads when the other stations leave it at `line`: dominant while any
station pulls it low, this engine included (R78, R103). DEDUCED: notes/assumptions/9.md. -/
def State.readBhl (s : State) (line : Level) : Level :=
  match s.pu.drive with
  | .dominant => .dominant
  | .released => line

/-- The conditions in which the AFU issues reads for lanes (R24). -/
def State.visitsAllowed (s : State) : Bool :=
  (s.rc.mode.replaying && s.pu.phase == .gather && s.mq.cut != .taken)
    || (s.rc.mode == .seeking && s.afu.checkpoint.isNone)

/-- A seek's silent replay is in progress: its checkpoint load has ended (R159). -/
def State.replaysSilently (s : State) : Bool :=
  s.rc.mode == .seeking && s.afu.checkpoint.isNone

/-- The engine's own CUT frame has been accepted and waits in the inbound queue (R75). -/
def State.ownCutWaiting (s : State) : Bool :=
  s.biu.inbound.any fun f =>
    match f.body with
    | .cut => f.station == s.straps.station
    | _ => false

/-- The clock quality that a mark count stands for (R44). -/
def Quality.ofMarks : Nat → Quality
  | 0 => .nominal
  | 1 => .offsetOnly
  | _ => .tracking

/-- The lanes with a property as the set of Table 9-4, bit l for lane l (section 11.4). -/
def State.laneSet (s : State) (p : Lane → Bool) : BitVec 16 :=
  (List.finRange 16).foldl
    (fun acc l => if p (s.lane l) then acc ||| (1#16 <<< l.val) else acc) 0#16

/-- The group 4 anomalies of a set, in EVENT order (Table 11-6). -/
def AnomalySet.group4Bits (a : AnomalySet) : BitVec 6 :=
  BitVec.ofBool a.redundant ++ BitVec.ofBool a.lockoutClose ++ BitVec.ofBool a.noPickup ++ BitVec.ofBool a.overtime
    ++ BitVec.ofBool a.held ++ BitVec.ofBool a.gapBefore

/-- All twelve anomalies of a set, in FINDING order (Table 11-6). -/
def AnomalySet.bits (a : AnomalySet) : BitVec 12 :=
  BitVec.ofBool a.damaged ++ BitVec.ofBool a.undecodable ++ BitVec.ofBool a.regression ++ BitVec.ofBool a.clockStep
    ++ BitVec.ofBool a.unknownDevice ++ BitVec.ofBool a.outOfRange ++ a.group4Bits

/-- The set holds some anomaly. -/
def AnomalySet.any (a : AnomalySet) : Bool :=
  a.bits != 0#12

/-- The device entry of a number (R121). -/
def Dst.find (d : Dst) (number : BitVec 16) : Option Device :=
  d.devices.find? fun x => x.number == number

/-- The device table holds an entry with the number (R140). -/
def Dst.holds (d : Dst) (number : BitVec 16) : Bool :=
  (d.find number).isSome

/-- The device range covers the number (R10). -/
def DeviceRange.covers (r : DeviceRange) (number : BitVec 16) : Bool :=
  decide (r.low ≤ number.toNat) && decide (number.toNat ≤ r.high)

/-- The group 3 anomalies of a device number reported by a lane (R140). -/
def Dst.referenceCheck (d : Dst) (l : Fin 16) (number : BitVec 16) : AnomalySet :=
  { unknownDevice := !d.holds number
    outOfRange := !d.ranges.isEmpty && !d.ranges.any fun r => r.covers number && r.mask.getLsbD l.val }

/-- The duplicate test for an entry against a device entry (R145). -/
def duplicateTest (tolerance : Nat) (dev : Device) (e : Entry) : Bool :=
  match dev.lastEvent with
  | none => false
  | some last =>
    last.kind == e.kind && decide ((e.time : Int) - last.time ≤ tolerance) && decide ((last.time : Int) - e.time ≤ tolerance)
      && last.source != .lane e.lane

/-- The event reports an end position (R126). -/
def EventKind.isEnd : EventKind → Bool
  | .opened => true
  | .closed => true
  | .pickup | .dropout | .trip | .openCmd | .closeCmd | .travel | .lockout | .lockoutReset => false

/-- A travel longer than the device's max travel time, in milliseconds, allows (R146). -/
def Device.overtime (dev : Device) (t : Nat) : Bool :=
  match dev.travelStart with
  | none => false
  | some start => dev.position == .travel && dev.maxTravel != 0 && decide (start + dev.maxTravel * 1000 < t)

/-- The group 4 anomalies of an entry against a device entry (R146). -/
def sequenceCheck (dev : Device) (e : Entry) : AnomalySet :=
  { redundant :=
      (e.kind == .opened && dev.position == .opened) || (e.kind == .closed && dev.position == .closed)
    lockoutClose := (e.kind == .closed || e.kind == .closeCmd) && dev.lockout
    noPickup := e.kind == .trip && !dev.pickup
    overtime := e.kind.isEnd && dev.overtime e.time
    held := e.held
    gapBefore := e.gapBefore.isSome }

end Sys2Proof.Machine
end

