-- ==== Sys2Proof/Machine/Clock.lean ====
section
/-! DEFINITION. The Clock Correction Unit (Chapter 3): exact arithmetic with one rounding after each division
(R46), the correction of an event, the hold, and the two ways of applying a sync mark. -/

namespace Sys2Proof.Machine

/-- The quotient rounded to nearest, halves away from zero (R46). -/
def divNearest (num : Int) (den : Nat) : Int :=
  if 0 ≤ num then (2 * num + den) / (2 * den) else -((2 * (-num) + den) / (2 * den))

/-- The quotient rounded toward zero (R46). -/
def divTowardZero (num : Int) (den : Nat) : Int :=
  num.tdiv den

/-- The raw time of a raw stamp (R47). -/
def ClockModel.rawTime (c : ClockModel) (stamp : BitVec 48) : Nat :=
  stamp.toNat * c.tick.micros

/-- The drift term at a raw time (R48). -/
def ClockModel.driftTerm (c : ClockModel) (raw : Nat) : Int :=
  divNearest (c.drift * ((raw : Int) - c.referenceRaw)) 1000000000

/-- The corrected time of an event before its clamp (R49). -/
def ClockModel.exactUnheld (c : ClockModel) (raw : Nat) : Int :=
  raw + c.offset + c.driftTerm raw - c.lambda

/-- The clamped unheld time (R49). -/
def ClockModel.unheld (c : ClockModel) (raw : Nat) : Nat :=
  (clampInt 0 Config.maxTime (c.exactUnheld raw)).toNat

/-- The clamp changed the unheld time (R49). -/
def ClockModel.clamped (c : ClockModel) (raw : Nat) : Bool :=
  clampInt 0 Config.maxTime (c.exactUnheld raw) != c.exactUnheld raw

/-- A raw time below the lane's last raw (R47, R56). -/
def ClockModel.regression (c : ClockModel) (raw : Nat) : Bool :=
  decide (raw < c.lastRaw)

/-- The correction of an EVENT record (R47, R48, R49, R53). -/
def ClockModel.correct (c : ClockModel) (device : BitVec 16) (kind : EventKind) (stamp : BitVec 48) (slot : Nat) :
    HeldEvent :=
  { device := device, kind := kind, rawStamp := stamp, raw := c.rawTime stamp, unheld := c.unheld (c.rawTime stamp),
    clamped := c.clamped (c.rawTime stamp), quality := Quality.ofMarks c.markCount, slot := slot }

/-- The held time of an event: the greatest of its unheld time, the lane's last corrected time and a floor,
which is the window start, or 0 in SEEKING (R50, R51). -/
def ClockModel.holdTime (c : ClockModel) (floor : Nat) (e : HeldEvent) : Nat :=
  max e.unheld (max c.lastCorrected floor)

/-- The HELD marker of an event that is held to a time (R50, R51). -/
def HeldEvent.heldMarker (e : HeldEvent) (time : Nat) : Bool :=
  decide (e.unheld < time) || e.clamped

/-- The model after an event has been inserted or handed to silent replay with a held time (R50, R51). -/
def ClockModel.takeEvent (c : ClockModel) (e : HeldEvent) (time : Nat) : ClockModel :=
  { c with lastRaw := e.raw, lastCorrected := time }

/-- The measured offset of a mark (R54). -/
def measuredOffset (raw : Nat) (reference : Nat) : Int :=
  (reference : Int) - raw

/-- The residual of a mark (R54). -/
def ClockModel.residual (c : ClockModel) (raw : Nat) (reference : Nat) : Int :=
  measuredOffset raw reference - (c.offset + c.driftTerm raw)

/-- The mark bears CLOCK_STEP (R55). -/
def ClockModel.stepped (c : ClockModel) (stepLimit : Nat) (raw : Nat) (reference : Nat) : Bool :=
  stepLimit != 0 && (decide (c.residual raw reference < -(stepLimit : Int)) || decide ((stepLimit : Int) < c.residual raw reference))

/-- The clock anomalies of a mark (R55, R56). -/
def ClockModel.markAnomalies (c : ClockModel) (stepLimit : Nat) (raw : Nat) (reference : Nat) : AnomalySet :=
  { regression := c.regression raw, clockStep := c.stepped stepLimit raw reference }

/-- The drift estimate is due at a mark without anomaly (R58). -/
def ClockModel.estimateDue (c : ClockModel) (raw : Nat) : Bool :=
  c.markCount != 0 && decide (c.lastMarkRaw + Config.minMarkSpan ≤ raw)

/-- The drift measured at a mark (R58). -/
def ClockModel.measuredDrift (c : ClockModel) (raw : Nat) (reference : Nat) : Int :=
  clampDrift (divNearest ((measuredOffset raw reference - c.lastMarkOffset) * 1000000000) (raw - c.lastMarkRaw))

/-- The drift after a mark without anomaly: filtered toward the measurement when the estimate is due (R58, R59). -/
def ClockModel.filteredDrift (c : ClockModel) (driftShift : Nat) (raw : Nat) (reference : Nat) : Int :=
  if c.estimateDue raw then
    c.drift + divTowardZero (c.measuredDrift raw reference - c.drift) (2 ^ driftShift)
  else c.drift

/-- The model after a mark, given its drift and its mark count (R57, R60). -/
def ClockModel.setMark (c : ClockModel) (raw : Nat) (reference : Nat) (drift : Int) (markCount : Nat) : ClockModel :=
  { c with
    offset := clampOffset (measuredOffset raw reference), drift := drift, referenceRaw := raw,
    lastMarkOffset := clampOffset (measuredOffset raw reference), lastMarkRaw := raw, markCount := markCount,
    lastRaw := raw }

/-- The model after a mark without anomaly (R57). -/
def ClockModel.applyMark (c : ClockModel) (driftShift : Nat) (raw : Nat) (reference : Nat) : ClockModel :=
  c.setMark raw reference (c.filteredDrift driftShift raw reference) (min 2 (c.markCount + 1))

/-- The model after a mark applied as a step (R60). -/
def ClockModel.applyStep (c : ClockModel) (raw : Nat) (reference : Nat) : ClockModel :=
  c.setMark raw reference c.drift 1

/-- The nominal model of a lane (R45): its constants are kept. -/
def ClockModel.nominal (c : ClockModel) : ClockModel :=
  { c with
    offset := c.nominalOffset, drift := c.nominalDrift, referenceRaw := 0, markCount := 0, lastRaw := 0,
    lastCorrected := 0, lastMarkOffset := c.nominalOffset, lastMarkRaw := 0 }

/-- The model that a lane sub-record sets, with its adjustments (R20). -/
def ClockModel.fromSub (c : ClockModel) (sub : LaneSub) : ClockModel :=
  { c with
    offset := clampOffset sub.offset, drift := clampDrift sub.drift, referenceRaw := sub.referenceRaw,
    markCount := min 2 sub.markCount, lastRaw := sub.lastRaw, lastCorrected := min sub.lastCorrected Config.maxTime,
    lastMarkOffset := clampOffset sub.offset, lastMarkRaw := sub.referenceRaw }

end Sys2Proof.Machine
end

