-- ==== Sys2Proof/Machine/Ops.lean ====
section
/-! DEFINITION. The named operations over the state that the commands share: lanes, the archive port, the
finding queue, the merge queue, the inbound queue, and entry to FAULTED and WITHDRAWN. -/

namespace Sys2Proof.Machine

/-- Lane l takes a value. -/
def State.setLane (s : State) (l : Fin 16) (x : Lane) : State :=
  { s with afu.lanes := s.afu.lanes.set l.val x }

/-- Every lane takes the value that a function of its number and its old value gives. -/
def State.mapLanesAt (s : State) (f : Fin 16 → Lane → Lane) : State :=
  { s with afu.lanes := Vector.ofFn fun l => f l (s.lane l) }

/-- Every lane takes the value that a function of its old value gives. -/
def State.mapLanes (s : State) (f : Lane → Lane) : State :=
  s.mapLanesAt fun _ => f

/-- A command's effect, which a reset in progress keeps from happening: the engine remains in reset (R3).
DESIGN CHOICE: notes/assumptions/5.md. -/
def State.whenLive (s : State) (f : State → State) : Host.Outcome State Fault Refusal :=
  .next (if s.inReset then s else f s)

/-- The lowest-numbered lane with a property. -/
def State.firstLane (s : State) (p : Lane → Bool) : Option (Fin 16) :=
  (List.finRange 16).find? fun l => p (s.lane l)

/-- The drive of BHL follows the mode, the phase and its other inputs at once (R103). -/
def State.refreshDrive (s : State) : State :=
  { s with pu.drive := s.driveFor }

/-- A finding is raised: queued when there is room, otherwise discarded and counted (R153, R154). -/
def State.raiseFinding (s : State) (f : Finding) : State :=
  if s.cku.findings.length < Config.findingCapacity then { s with cku.findings := s.cku.findings ++ [f] }
  else { s with cku.lostFindings := min 255 (s.cku.lostFindings + 1) }

/-- An archive read is issued: the slot index is placed on AADR, ATAG changes, and AREQ rises; words taken for an
earlier request are discarded (R171). -/
def State.issueRead (s : State) (owner : ReadOwner) (slot : Nat) (retry : Bool) : State :=
  { s with
    afu.request := some { owner := owner, slot := slot, retry := retry }, afu.atag := !s.afu.atag,
    afu.aadr := BitVec.ofNat 27 slot, afu.words := [] }

/-- The outstanding read is over or abandoned: AREQ falls, and words already taken for it are gone (R28, R171). -/
def State.dropRead (s : State) : State :=
  { s with afu.request := none, afu.words := [] }

/-- A slot from its words, the first holding bytes 0 to 3, most significant byte first (R171). -/
def slotOfWords (words : List (BitVec 32)) : Slot :=
  words.foldl (fun acc w => acc <<< 32 ||| w.setWidth 256) 0#256

/-- The words taken for the outstanding request once `words` have come on the port: those taken before, and those
whose echo equals ATAG (R171). DESIGN CHOICE: notes/assumptions/41.md, after a reset late words of a read abandoned under
the same tag are among them, where R3 discards that read's answer. -/
def State.wordsTaken (s : State) (words : List PortWord) : List (BitVec 32) :=
  s.afu.words ++ (words.filter fun w => w.echo == s.afu.atag).map PortWord.data

/-- Words come on the port while AREQ is high: the slot is handed on when the eighth word is taken, and the words
taken are kept until then (R171). A word after the eighth finds AREQ low and is ignored. -/
def State.takeWords (s : State) (words : List PortWord) (handOn : Slot → State) : State :=
  if (s.wordsTaken words).length < 8 then { s with afu.words := s.wordsTaken words }
  else handOn (slotOfWords ((s.wordsTaken words).take 8))

/-- The archive slot at a lane's read position (R26, R31). -/
def Lane.archiveSlot (x : Lane) : Nat :=
  x.base + x.readPos

/-- A read for the slot at lane l's read position, which leaves the lane WAITING (R26). -/
def State.readLane (s : State) (l : Fin 16) : State :=
  (s.setLane l { s.lane l with state := .waiting }).issueRead (.lane l) (s.lane l).archiveSlot false

/-- The visit on lane l ends: the rotation pointer becomes the lane after it (R25). -/
def State.endVisit (s : State) (l : Fin 16) : State :=
  { s with afu.rotation := l + 1, afu.visitEnding := false }

/-- The outstanding read is a lane's. -/
def State.readsForLane (s : State) : Bool :=
  match s.afu.request with
  | some { owner := .lane _, .. } => true
  | _ => false

/-- The condition in which the AFU makes visits ceases: the visit whose read is outstanding ends with that read, even
when the condition holds again before its answer (R24). -/
def State.ceaseVisits (s : State) : State :=
  { s with afu.visitEnding := s.afu.visitEnding || s.readsForLane }

/-- The phase becomes EMIT, which ends the visits of the gather (R24, R107). -/
def State.enterEmit (s : State) : State :=
  { s with pu.phase := .emit }.ceaseVisits

/-- The queue with an entry at the place its key gives (R66). -/
def insertEntry (e : Entry) : List Entry → List Entry
  | [] => [e]
  | x :: rest => if e.key.before x.key then e :: x :: rest else x :: insertEntry e rest

/-- The queue holds an entry with the key (R89). -/
def State.hasEntry (s : State) (k : EntryKey) : Bool :=
  s.mq.entries.any fun e => e.key == k

/-- The entry with the key. -/
def State.findEntry (s : State) (k : EntryKey) : Option Entry :=
  s.mq.entries.find? fun e => e.key == k

/-- The entry with the key leaves the queue (R69, R71). -/
def State.removeEntry (s : State) (k : EntryKey) : State :=
  { s with mq.entries := s.mq.entries.filter fun e => !(e.key == k) }

/-- The entry with the key takes the released mark (R71). -/
def State.markReleased (s : State) (k : EntryKey) : State :=
  { s with mq.entries := s.mq.entries.map fun e => if e.key == k then { e with released := true } else e }

/-- The queue is flushed and the cut record becomes ABSENT (R72, R73). -/
def State.flushQueue (s : State) : State :=
  { s with mq := { entries := [], cut := .absent } }

/-- The state of a lane whose read position has passed a slot that inserts nothing: ENDED at the slot count,
READY otherwise (R36, R150). -/
def Lane.stateAfterSlot (x : Lane) : LaneState :=
  if x.slotCount ≤ x.readPos then .ended else .ready

/-- The read position advances past the slot, and whatever the lane held of it is gone. -/
def Lane.advance (x : Lane) : Lane :=
  { x with readPos := x.readPos + 1, held := none, trap := none }

/-- The lane passes a slot that inserts nothing (R31, R36, R39). -/
def Lane.passSlot (x : Lane) : Lane :=
  { x.advance with state := x.advance.stateAfterSlot }

/-- The floor of the hold: the window start, left out in SEEKING (R50, R51). -/
def State.holdFloor (s : State) : Nat :=
  match s.rc.mode with
  | .seeking => 0
  | .loading | .faulted | .standby | .paused | .running | .ended | .withdrawn => s.pu.windowStart

/-- The merge queue entry built for an event of lane l at its insertion (R63, R53, R35). -/
def Lane.entryFor (x : Lane) (l : Fin 16) (e : HeldEvent) (time : Nat) : Entry :=
  { time := time, lane := l, laneSeq := x.insertions, recorder := x.recorder, slot := e.slot, device := e.device,
    kind := e.kind, rawStamp := e.rawStamp, tick := x.clock.tick, quality := e.quality, held := e.heldMarker time,
    gapBefore := x.gap, released := false }

/-- The lane after it has inserted an event with a held time, its read position already past the slot (R35,
R36, R50). -/
def Lane.afterInsert (x : Lane) (e : HeldEvent) (time windowEnd : Nat) : Lane :=
  { x with
    gap := none, insertions := x.insertions + 1, held := none, trap := none, clock := x.clock.takeEvent e time,
    state := if x.slotCount ≤ x.readPos then .ended else if windowEnd ≤ time then .passed else .ready }

/-- An event of lane l, whose read position is already past its slot, is held and inserted by key (R36, R50,
R51, R66). A free entry is the caller's concern. -/
def State.insertEvent (s : State) (l : Fin 16) (e : HeldEvent) : State :=
  let x := s.lane l
  let time := x.clock.holdTime s.holdFloor e
  { s.setLane l (x.afterInsert e time s.pu.windowEnd) with
    mq.entries := insertEntry (x.entryFor l e time) s.mq.entries }

/-- The test of a READY, STALLED or PASSED lane against the window end, a released record apart (R37). -/
def Lane.passTest (x : Lane) (windowEnd : Nat) : Lane :=
  match x.state with
  | .ready | .stalled => if windowEnd ≤ x.clock.lastCorrected then { x with state := .passed } else x
  | .passed => if windowEnd ≤ x.clock.lastCorrected then x else { x with state := .ready }
  | .disabled | .waiting | .trapped | .ended | .lost => x

/-- The lane leaves PASSED for the window end, holding a released record (R37). -/
def Lane.resumesRecord (x : Lane) (windowEnd : Nat) : Option HeldEvent :=
  if x.state == .passed && decide (x.clock.lastCorrected < windowEnd) then x.releasedRecord else none

/-- Lane l is tested against the window end. A lane that leaves PASSED with a released record inserts it at once,
or becomes STALLED holding it when no entry is free (R37). -/
def State.retestLane (s : State) (l : Fin 16) : State :=
  match (s.lane l).resumesRecord s.pu.windowEnd with
  | some e => if s.queueFull then s.setLane l { s.lane l with state := .stalled } else s.insertEvent l e
  | none => s.setLane l ((s.lane l).passTest s.pu.windowEnd)

/-- Every lane is tested against the window end, in lane order (R37). -/
def State.retestLanes (s : State) : State :=
  (List.finRange 16).foldl State.retestLane s

/-- A STALLED lane that holds no released record becomes READY (R38). -/
def Lane.resume (x : Lane) : Lane :=
  if x.state == .stalled && x.releasedRecord.isNone then { x with state := .ready } else x

/-- The lowest-numbered STALLED lane that holds a released record inserts it, when an entry is free (R38). -/
def State.insertReleased (s : State) : State :=
  match s.firstLane fun x => x.state == .stalled && x.releasedRecord.isSome with
  | none => s
  | some l =>
    match (s.lane l).releasedRecord with
    | none => s
    | some e => if s.queueFull then s else s.insertEvent l e

/-- A merge queue entry has been freed (R38). R38 lets a released record and the answer to another lane's read claim the
one freed entry in either order. DESIGN CHOICE: notes/assumptions/37.md, the released record goes in first, within the
command that frees the entry. -/
def State.entryFreed (s : State) : State :=
  (s.mapLanes Lane.resume).insertReleased

/-- The finding that a lane's trap, skip, application or loss raises (Table 8-5). -/
def laneFinding (l : Fin 16) (group : Nat) (anomalies : AnomalySet) (disposition : Disposition)
    (device : Option (BitVec 16)) (slot : Nat) (key : Nat) : Finding :=
  { lane := l, group := group, anomalies := anomalies, disposition := disposition, device := device, slot := slot,
    key := key }

/-- Lane l becomes TRAPPED at fetch holding an item, its read position left at the slot, and a trap record is
written (R31, R148). -/
def State.trapAtFetch (s : State) (l : Fin 16) (group : Nat) (item : HeldItem) : State :=
  s.setLane l { s.lane l with state := .trapped, held := some item, trap := some (.fetch group) }

/-- The frame at the front of the inbound queue leaves it (R94, R95). -/
def State.popInbound (s : State) : State :=
  { s with biu.inbound := s.biu.inbound.tail }

/-- A frame enters the inbound queue, which has room for it (R94). -/
def State.pushInbound (s : State) (f : Frame) : State :=
  if s.inboundFull then s else { s with biu.inbound := s.biu.inbound ++ [f] }

/-- The frame the engine takes from its inbound queue, in the modes that take frames and outside a reset (R93,
R95). DEDUCED: notes/assumptions/7.md. -/
def State.frontFrame (s : State) : Option Frame :=
  if s.inReset || !s.rc.mode.takesFrames then none else s.biu.inbound.head?

/-- The COMMAND frame of a code that the engine takes from its inbound queue: its arguments (R156). -/
def State.frontCommand (s : State) (code : Nat) : Option CommandBody :=
  match s.frontFrame with
  | none => none
  | some f =>
    match f.body with
    | .command a => if commandCode f = code then some a else none
    | .cut | .event _ | .next | .finding _ | .state _ | .status _ | .invalid => none

/-- The bus returns to IDLE at the end of a frame, and the outbound frame is no longer in progress (R80). -/
def State.busIdle (s : State) : State :=
  { s with biu.state := .idle, biu.outbound := none }

/-- Entry to FAULTED (R6, R42, R45, R65, R73, R94, R100, R120, R122, R131, R148, R153, R160, R167): nothing but the
mode's own STATUS is offered from here on, and no configuration is kept, in the lanes, the device table or the
settings. DEDUCED: notes/assumptions/26.md. -/
def State.enterFaulted (s : State) (cause : FaultCause) : State :=
  { s with
    afu.lanes := Vector.replicate 16 Lane.disabled, afu.request := none, afu.words := [], afu.checkpoint := none
    afu.visitEnding := false
    ccu := { driftShift := 0, stepLimit := 0 }
    mq := { entries := [], cut := .absent }
    biu.inbound := []
    pu.phase := .gather, pu.pausePending := false
    dst := { devices := [], ranges := [], replies := [] }
    cku.findings := [], cku.tolerance := 0
    rc.mode := .faulted, rc.faultCause := cause, rc.statusPending := true, rc.load := none }

/-- Entry to WITHDRAWN (R42, R65, R73, R98, R120, R131, R153, R160, R166, R167). DEDUCED: notes/assumptions/28.md. -/
def State.withdraw (s : State) : State :=
  { s.mapLanes (fun x => { x with silent := none }) with
    afu.request := none, afu.words := [], afu.checkpoint := none, afu.visitEnding := false
    mq.cut := .absent
    biu.inbound := [], biu.vetoCount := 0, biu.failureCount := 0
    pu.phase := .gather, pu.pausePending := false
    dst.replies := []
    rc.mode := .withdrawn, rc.statusPending := true }

/-- The failure count rises by 1, saturating at 16 (R97). -/
def State.countFailure (s : State) : State :=
  { s with biu.failureCount := min Config.failureLimit (s.biu.failureCount + 1) }

/-- A failed attempt of the engine's own frame (R86, R97): the failure count rises, and at 16 the engine withdraws,
or in WITHDRAWN gives up its STATUS frame (R98). -/
def State.failAttempt (s : State) : State :=
  if s.biu.failureCount + 1 < Config.failureLimit then s.countFailure
  else
    match s.rc.mode with
    | .standby | .seeking | .paused | .running | .ended => s.countFailure.withdraw
    | .withdrawn => { s.countFailure with rc.statusPending := false }
    | .loading | .faulted => s.countFailure

/-- A STATUS frame is placed pending in the modes that report a cause (R119, R167, R169). -/
def State.placeStatus (s : State) : State :=
  if s.rc.mode.takesFrames then { s with rc.statusPending := true } else s

end Sys2Proof.Machine
end

