-- ==== Sys2Proof/Machine/DeviceTable.lean ====
section
/-! DEFINITION. The Device State Table's work (Chapter 7): the effect of an event on a device entry, taking an
EVENT frame, and setting the table at a load. -/

namespace Sys2Proof.Machine

/-- An event that reports an end position: position, travel start, operation count and last change time (R126). -/
def Device.reachEnd (d : Device) (target : Position) (t : Nat) : Device :=
  { d with
    position := target, travelStart := none
    operations :=
      if d.position == target || d.position == .unknown then d.operations else min 65535 (d.operations + 1)
    lastChange := if d.position == target then d.lastChange else some t }

/-- A TRAVEL event: the first report of a travel starts it (R127). -/
def Device.beginTravel (d : Device) (t : Nat) : Device :=
  { d with position := .travel, travelStart := if d.position == .travel then d.travelStart else some t }

/-- The effect of an event's kind (Table 7-2). -/
def Device.applyKind (d : Device) (kind : EventKind) (t : Nat) : Device :=
  match kind with
  | .pickup => { d with pickup := true }
  | .dropout => { d with pickup := false }
  | .trip | .openCmd | .closeCmd => d
  | .travel => d.beginTravel t
  | .opened => d.reachEnd .opened t
  | .closed => d.reachEnd .closed t
  | .lockout => { d with lockout := true }
  | .lockoutReset => { d with lockout := false }

/-- The effect of an event that is not a duplicate: its kind's, and the last event is set (R125). -/
def Device.applyEvent (d : Device) (kind : EventKind) (t : Nat) (source : Source) : Device :=
  { d.applyKind kind t with lastEvent := some { kind := kind, time := t, source := source } }

/-- The effect of an event flagged DUPLICATE (R128). -/
def Device.corroborate (d : Device) : Device :=
  { d with corroborations := min 255 (d.corroborations + 1) }

/-- The entry of a device number changes; a number not held changes nothing. -/
def Dst.update (d : Dst) (number : BitVec 16) (f : Device → Device) : Dst :=
  { d with devices := d.devices.map fun x => if x.number == number then f x else x }

/-- The source of an EVENT frame (R124). -/
def eventSource (own : BitVec 5) (station : BitVec 5) (lane : BitVec 4) : Source :=
  if station == own then .lane lane.toFin else .station station

/-- The device table after an EVENT frame it applies; a kind outside 1 to 10 is dropped (R124, R125, R128, R170). -/
def Dst.applyFrame (d : Dst) (own : BitVec 5) (f : Frame) (e : EventBody) : Dst :=
  match EventKind.ofCode e.kind.toNat with
  | none => d
  | some kind =>
    if e.duplicate then d.update e.device Device.corroborate
    else d.update e.device fun x => x.applyEvent kind f.key.toNat (eventSource own f.station e.lane)

/-- The replay state of an entry at its initial values (R122). -/
def Device.initial (d : Device) : Device :=
  { d with
    position := .unknown, lockout := false, pickup := false, travelStart := none, lastChange := none,
    lastEvent := none, operations := 0, corroborations := 0 }

/-- The replay state that a device sub-record sets (R21). -/
def Device.fromSub (d : Device) (sub : DeviceSub) : Device :=
  { d with
    position := sub.position, lockout := sub.lockout, pickup := sub.pickup,
    travelStart := if sub.position == .travel then some sub.travelStart else none,
    lastChange := none, lastEvent := none, operations := sub.operations, corroborations := 0 }

/-- The entry set from the first sub-record that names it, or to its initial values when none does (R21). -/
def Device.fromSubs (d : Device) (subs : List DeviceSub) : Device :=
  match subs.find? fun x => x.device == d.number with
  | some sub => d.fromSub sub
  | none => d.initial

/-- The device table at the end of a checkpoint load (R21, R134). -/
def Dst.loadDevices (d : Dst) (subs : List DeviceSub) : Dst :=
  { d with devices := d.devices.map fun x => x.fromSubs subs }

end Sys2Proof.Machine
end

