-- ==== Sys2Proof/Machine/Settle.lean ====
section
/-! DEFINITION. What the engine does of itself once its inputs have changed: the silent front (R160, R161), the
completion of a seek (R162), the merge queue's own cut (R74, R75) and the drive of the hold line (R103).
`State.settle` makes them in that order at the end of a command. -/

namespace Sys2Proof.Machine

/-- A lane the silent front does not wait for (R161). -/
def Lane.clearOfFront (x : Lane) (seekTime : Nat) : Bool :=
  match x.state with
  | .disabled | .passed | .ended | .lost | .stalled => true
  | .ready | .waiting | .trapped => x.silent.isSome || decide (seekTime ≤ x.clock.lastCorrected)

/-- The silent front may apply an event (R161). -/
def State.frontReady (s : State) : Bool :=
  s.allLanes fun x => x.clearOfFront s.rc.seekTime

/-- The lane, of two, whose silent event is the earlier; between equal times the first given (R161). -/
def earlierSilent (s : State) (best : Option (Fin 16)) (l : Fin 16) : Option (Fin 16) :=
  match (s.lane l).silent with
  | none => best
  | some e =>
    match best with
    | none => some l
    | some b =>
      match (s.lane b).silent with
      | none => some l
      | some eb => if e.time < eb.time then some l else some b

/-- The lane whose silent event has the lowest held time, the lower lane between equal times (R161). -/
def State.lowestSilent (s : State) : Option (Fin 16) :=
  (List.finRange 16).foldl (earlierSilent s) none

/-- Lane l's silent event is applied to the device table and leaves the front (R135, R161). -/
def State.applySilent (s : State) (l : Fin 16) : State :=
  match (s.lane l).silent with
  | none => s
  | some e =>
    { s.setLane l { s.lane l with silent := none } with
      dst := s.dst.update e.device fun d => d.applyEvent e.kind e.time (.lane l) }

/-- The silent front applies its events while R161 lets it, at most `fuel` of them; the front holds at most 16. -/
def State.drainFront : Nat → State → State
  | 0, s => s
  | fuel + 1, s =>
    if s.frontReady then
      match s.lowestSilent with
      | none => s
      | some l => State.drainFront fuel (s.applySilent l)
    else s

/-- The silent front is empty (R162). -/
def State.frontEmpty (s : State) : Bool :=
  s.allLanes fun x => x.silent.isNone

/-- The mode a seek ends in (R155). -/
def AfterSeek.mode : AfterSeek → Mode
  | .paused => .paused
  | .running => .running

/-- The seek is complete (R105, R115, R120, R162). -/
def State.completeSeek (s : State) : State :=
  { s with rc.mode := s.rc.modeAfterSeek.mode, pu.phase := .gather, pu.closePulse := true, pu.paceTimer := 0 }

/-- The seek completes when the silent front is empty and no lane is READY or WAITING (R162). -/
def State.finishReplay (s : State) : State :=
  if s.frontEmpty && !s.anyReading then s.completeSeek else s

/-- The silent replay goes on as far as the lanes allow, and the seek completes when it has ended (R161, R162). -/
def State.settleSeek (s : State) : State :=
  if s.replaysSilently then (State.drainFront 16 s).finishReplay else s

/-- A lane that holds the engine back: configured, and neither PASSED, ENDED nor LOST (R74). -/
def Lane.holdsBack (x : Lane) : Bool :=
  x.configured && !x.finished

/-- The lane, of two, with the lower last corrected time; between equal times the first given (R74, R77). -/
def lowerLane (s : State) (best : Option (Fin 16)) (l : Fin 16) : Option (Fin 16) :=
  if (s.lane l).holdsBack then
    match best with
    | none => some l
    | some b => if (s.lane l).clock.lastCorrected < (s.lane b).clock.lastCorrected then some l else some b
  else best

/-- The lowest-numbered lane whose last corrected time is the least of those that hold the engine back (R74, R77). -/
def State.leastHolder (s : State) : Option (Fin 16) :=
  (List.finRange 16).foldl (lowerLane s) none

/-- The conditions in which the MQ computes a cut (R74). -/
def State.cutDue (s : State) : Bool :=
  s.rc.mode.replaying && s.pu.phase == .gather && s.mq.cut == .absent && !s.gathered && s.queueFull && !s.anyReading

/-- The cut that the lanes holding the engine back allow (R74). DEDUCED: notes/assumptions/32.md. R74 says that C is at
or below the window end, which the formula it gives does not make sure of. DESIGN CHOICE: notes/assumptions/40.md, the
formula is followed, and C may lie above the end. -/
def State.computeCut (s : State) : CutRecord :=
  match s.leastHolder with
  | none => .absent
  | some l =>
    let least := (s.lane l).clock.lastCorrected
    .pending (max least (s.pu.windowStart + 1)) (if least ≤ s.pu.windowStart then some l else none)

/-- The cut record follows the lanes: a PENDING cut is withdrawn when every lane has finished before the engine's
own CUT is accepted (R75), and a cut is computed when it is due (R74). DEDUCED: notes/assumptions/12.md. -/
def State.settleCut (s : State) : State :=
  match s.mq.cut with
  | .pending _ _ => if s.lanesFinished && !s.ownCutWaiting then { s with mq.cut := .absent } else s
  | .absent => if s.cutDue then { s with mq.cut := s.computeCut } else s
  | .taken => s

/-- The engine settles after a command: silent front and completion of a seek, cut record, hold line.
DESIGN CHOICE: notes/assumptions/10.md. -/
def State.settle (s : State) : State :=
  s.settleSeek.settleCut.refreshDrive

end Sys2Proof.Machine
end

