-- ==== Sys2Proof/Machine/Seek.lean ====
section
/-! DEFINITION. The seek: its beginning (R158, R40), the checkpoint load (R19, R20, R21), the decision at its
end (R159), and HALT (R164). -/

namespace Sys2Proof.Machine

/-- A lane at the start of a SEEK (R40, R148, R160). A DISABLED lane stays as it is. -/
def Lane.seekReset (x : Lane) : Lane :=
  if x.configured then { x with state := .ready, insertions := 0, held := none, trap := none, silent := none } else x

/-- A lane set as if no checkpoint existed (R20, R45). -/
def Lane.nominal (x : Lane) : Lane :=
  { x with
    readPos := 0, lastSeq := none, gap := none, clock := x.clock.nominal,
    state := if x.slotCount = 0 then .ended else .ready }

/-- A lane set from its lane sub-record (R20). -/
def Lane.fromSub (x : Lane) (sub : LaneSub) : Lane :=
  { x with
    readPos := sub.nextSlot, lastSeq := sub.lastSeq, gap := if sub.gapPending then some 0 else none,
    clock := x.clock.fromSub sub, state := if sub.nextSlot < x.slotCount then .ready else .ended }

/-- Lane l at the end of a checkpoint load: set from the first sub-record that names it, or from its nominal
values; a lane that is not configured stays as it is (R20). -/
def Lane.loaded (subs : List LaneSub) (l : Fin 16) (x : Lane) : Lane :=
  if x.configured then
    match subs.find? fun sub => sub.lane == l.val with
    | some sub => x.fromSub sub
    | none => x.nominal
  else x

/-- The state that a checkpoint load leaves, from the sub-records in record order (R20, R21). With no sub-record
it is the state that an unusable or absent checkpoint leaves (R19, R159). -/
def State.loadSubs (s : State) (lanes : List LaneSub) (devices : List DeviceSub) : State :=
  { s.mapLanesAt (Lane.loaded lanes) with afu.checkpoint := none, dst := s.dst.loadDevices devices }

/-- The checkpoint load has ended with no usable checkpoint, and silent replay begins (R159). -/
def State.replayFromNominal (s : State) : State :=
  { s.loadSubs [] [] with rc.seekDegraded := true }.retestLanes

/-- The decision at the end of a usable checkpoint's load: at exactly the seek time the seek completes at once, and
below it silent replay begins (R159). -/
def State.decideSeek (s : State) (time : Nat) : State :=
  if time = s.rc.seekTime then s.retestLanes.completeSeek else { s with rc.seekDegraded := true }.retestLanes

/-- The checkpoint load has ended with a usable checkpoint (R20, R21, R159). DEDUCED: notes/assumptions/23.md. -/
def State.replayFromCheckpoint (s : State) (c : CheckpointLoad) : State :=
  (s.loadSubs c.lanes.reverse c.devices.reverse).decideSeek c.entry.time

/-- The latest directory entry at or below a time (R159). -/
def State.chooseCheckpoint (s : State) (t : Nat) : Option DirEntry :=
  (s.afu.directory.filter fun e => decide (e.time ≤ t)).getLast?

/-- The checkpoint load of a seek begins, or ends at once when there is no checkpoint (R159). -/
def State.beginLoad (s : State) : State :=
  match s.chooseCheckpoint s.rc.seekTime with
  | none => s.replayFromNominal
  | some e =>
    { s with
      afu.checkpoint :=
        some { entry := e, taken := 0, laneCount := 0, deviceCount := 0, firstSlot := none, lanes := [], devices := [] }
    }.issueRead .checkpoint e.slot false

/-- The blocks as a SEEK to `t` sets them (R40, R72, R73, R120, R148, R155, R158, R160). -/
def State.seekBlocks (s : State) (t : Nat) : State :=
  { (s.mapLanes Lane.seekReset).flushQueue with
    afu.rotation := 0, afu.request := none, afu.words := [], afu.checkpoint := none, afu.visitEnding := false
    pu.windowStart := t, pu.windowEnd := min (t + s.pu.span) Config.noneTime, pu.phase := .gather
    pu.pausePending := false, pu.budget := .unlimited
    rc.seekTime := t, rc.mode := .seeking, rc.modeAfterSeek := .paused, rc.seekDegraded := false }

/-- A SEEK to `t` begins (R158). -/
def State.beginSeek (s : State) (t : Nat) : State :=
  (s.seekBlocks t).beginLoad

/-- How many slots the checkpoint occupies (section 1.4.1). -/
def CheckpointLoad.slots (c : CheckpointLoad) : Nat :=
  1 + 2 * c.laneCount + c.deviceCount

/-- A checkpoint's header slot, when it lets the checkpoint be usable (R19): its study time, its counts, and the
whole record within the record area (R1). -/
def CheckpointLoad.takeHeader (c : CheckpointLoad) (recordArea : Nat) (d : Slot) : Option CheckpointLoad :=
  let c' := { c with laneCount := natAt d 5 1, deviceCount := natAt d 6 2 }
  if natAt d 0 5 = c.entry.time ∧ c'.laneCount ≤ 16 ∧ c'.deviceCount ≤ Config.deviceCapacity
      ∧ c.entry.slot + c'.slots ≤ recordArea then some c'
  else none

/-- A slot of a lane sub-record, when it lets the checkpoint be usable (R19). -/
def CheckpointLoad.takeLaneSlot (c : CheckpointLoad) (d : Slot) : Option CheckpointLoad :=
  match c.firstSlot with
  | none => if natAt d 0 1 < 16 then some { c with firstSlot := some d } else none
  | some first => some { c with firstSlot := none, lanes := laneSubOf first d :: c.lanes }

/-- A device sub-record, when it lets the checkpoint be usable (R19). -/
def CheckpointLoad.takeDeviceSlot (c : CheckpointLoad) (d : Slot) : Option CheckpointLoad :=
  match deviceSubOf d with
  | none => none
  | some sub => some { c with devices := sub :: c.devices }

/-- The next slot of a checkpoint, when it lets the checkpoint be usable (R19): no slot is erased, and every slot's
byte XOR is 0. -/
def CheckpointLoad.takeSlot (c : CheckpointLoad) (recordArea : Nat) (d : Slot) : Option CheckpointLoad :=
  if erased d || xorBytes d != 0#8 then none
  else
    let r :=
      if c.taken = 0 then c.takeHeader recordArea d
      else if c.taken ≤ 2 * c.laneCount then c.takeLaneSlot d
      else c.takeDeviceSlot d
    r.map fun c => { c with taken := c.taken + 1 }

/-- The lane sub-record that a slot completes, unless an earlier one names its lane (R20). -/
def CheckpointLoad.newLane (c : CheckpointLoad) (d : Slot) : Option LaneSub :=
  if c.taken = 0 ∨ 2 * c.laneCount < c.taken then none
  else
    match c.firstSlot with
    | none => none
    | some first =>
      if c.lanes.any fun x => x.lane == (laneSubOf first d).lane then none else some (laneSubOf first d)

/-- The device sub-record that a slot holds, unless an earlier one names its device (R21). -/
def CheckpointLoad.newDevice (c : CheckpointLoad) (d : Slot) : Option DeviceSub :=
  if c.taken = 0 ∨ c.taken ≤ 2 * c.laneCount then none
  else
    match deviceSubOf d with
    | none => none
    | some sub => if c.devices.any fun x => x.device == sub.device then none else some sub

/-- Lane l after a sub-record has been read: set from it when it names the lane and the lane is configured (R20). -/
def Lane.setBy (sub : Option LaneSub) (l : Fin 16) (x : Lane) : Lane :=
  match sub with
  | none => x
  | some sub => if x.configured && sub.lane == l.val then x.fromSub sub else x

/-- The device table after a sub-record has been read: the entry it names is set from it (R21). -/
def Dst.setBy (d : Dst) (sub : Option DeviceSub) : Dst :=
  match sub with
  | none => d
  | some sub => d.update sub.device fun x => x.fromSub sub

/-- The sub-record that a slot completes sets its lane or its device as it is read, so that the table stands partway
through the load until the last slot has passed (R20, R21, R133). DEDUCED: notes/assumptions/23.md. -/
def State.setFromSlot (s : State) (c : CheckpointLoad) (d : Slot) : State :=
  { s.mapLanesAt (Lane.setBy (c.newLane d)) with dst := s.dst.setBy (c.newDevice d) }

/-- A checkpoint slot has passed its tests: the next is read, or the load ends (R19, R159). -/
def State.nextCheckpoint (s : State) (c : CheckpointLoad) : State :=
  if c.taken < c.slots then
    { s with afu.checkpoint := some c }.issueRead .checkpoint (c.entry.slot + c.taken) false
  else s.dropRead.replayFromCheckpoint c

/-- A checkpoint slot is taken: it ends an unusable checkpoint's load, or sets what it completes and the load goes on
(R19, R20, R21, R159). -/
def State.checkpointAnswer (s : State) (c : CheckpointLoad) (d : Slot) : State :=
  match c.takeSlot (stationBlock s.straps.archiveSize) d with
  | none => s.dropRead.replayFromNominal
  | some c' => (s.setFromSlot c d).nextCheckpoint c'

/-- CHECKPOINT_SLOT_ANSWER: the answer to the checkpoint load's outstanding read is taken word by word, and once whole
it is validated and dealt with (R19, R171). With no such read outstanding nothing is taken (R28). -/
def execCheckpointSlotAnswer (words : List PortWord) (s : State) : Host.Outcome State Fault Refusal :=
  s.whenLive fun s =>
    match s.afu.request, s.afu.checkpoint with
    | some { owner := .checkpoint, .. }, some c => s.takeWords words fun d => (s.checkpointAnswer c d).settle
    | _, _ => s

/-- SEEK: the frame at the front of the inbound queue is taken and a seek begins, in every mode that takes frames
(R158, R163). -/
def execSeek (s : State) : Host.Outcome State Fault Refusal :=
  s.whenLive fun s =>
    match s.frontCommand 4 with
    | some a => (s.popInbound.beginSeek (seekArg a)).settle
    | none => s

/-- A lane at HALT (R41, R148, R160). -/
def Lane.halted (x : Lane) : Lane :=
  { x with
    held := none, trap := none, silent := none
    state :=
      match x.state with
      | .waiting | .stalled | .passed => .ready
      | .trapped =>
        match x.trap with
        | some (.winning _ .ended) => .ended
        | some (.winning _ .lost) => .lost
        | some (.winning _ .disabled) | some (.winning _ .ready) | some (.winning _ .waiting)
        | some (.winning _ .stalled) | some (.winning _ .passed) | some (.winning _ .trapped)
        | some (.fetch _) | none => .ready
      | .disabled | .ready | .ended | .lost => x.state }

/-- The blocks as HALT sets them (R41, R72, R73, R120, R164). -/
def State.haltBlocks (s : State) : State :=
  { (s.mapLanes Lane.halted).flushQueue with
    afu.request := none, afu.words := [], afu.checkpoint := none, afu.visitEnding := false
    pu.phase := .gather, pu.pausePending := false, pu.budget := .unlimited
    rc.mode := .standby, rc.modeAfterSeek := .paused }

/-- HALT: the frame is taken; outside STANDBY the replay stops (R164). -/
def execHalt (s : State) : Host.Outcome State Fault Refusal :=
  s.whenLive fun s =>
    match s.frontCommand 5 with
    | some _ =>
      match s.rc.mode with
      | .standby => s.popInbound
      | .loading | .faulted | .seeking | .paused | .running | .ended | .withdrawn =>
        s.popInbound.haltBlocks.refreshDrive
    | none => s

end Sys2Proof.Machine
end

