-- ==== Sys2Proof/Machine/Load.lean ====
section
/-! DEFINITION. The resets (R3, R172), the end of a reset (R2, R117), and the start-up load: the reading and the
validation of the station block and the directory (R4 to R13), and its end (R6, R23, R45, R122). -/

namespace Sys2Proof.Machine

/-- The state that a reset puts the engine in, with the start cause it records; the model's own queue of commands is
not the engine's and stays (R3). -/
def State.resetWith (s : State) (cause : StartCause) : State :=
  { State.reset with rc.startCause := cause, pending := s.pending }

/-- POWER_ON_RESET: every block takes its reset values, in any mode (R3). -/
def execPowerOnReset (s : State) : Host.Outcome State Fault Refusal :=
  .next (s.resetWith .powerOn)

/-- PIN_RESET: as a power-on reset, with the start cause PIN; a pin held during a reset in progress leaves the start
cause of that reset (R3, R172). DEDUCED: notes/assumptions/30.md. -/
def execPinReset (s : State) : Host.Outcome State Fault Refusal :=
  .next (s.resetWith (if s.inReset then s.rc.startCause else .pin))

/-- The load reads one slot next, for the given stage (R4). -/
def State.readLoad (s : State) (p : LoadProgress) (stage : LoadStage) (slot : Nat) : State :=
  { s with rc.load := some { p with stage := stage } }.issueRead .load slot false

/-- A slot of the station block, by its number in the block (section 11.2). -/
def State.blockSlot (s : State) (i : Nat) : Nat :=
  stationBlock s.straps.archiveSize + i

/-- The start-up load begins with the header slot (R4). -/
def State.beginStartUp (s : State) : State :=
  s.readLoad
    { stage := .header,
      header :=
        { laneCount := 0, deviceCount := 0, rangeCount := 0, tolerance := 0, driftShift := 0, stepLimit := 0,
          directoryBase := 0, directoryCount := 0 },
      lanes := [], devices := [], ranges := [], directory := [] }
    .header (s.blockSlot 0)

/-- RESET_END: straps and timebase are sampled, and the start-up load begins (R2, R3, R4, R117). -/
def execResetEnd (straps : Straps) (referenceEdge : Bool) (s : State) : Host.Outcome State Fault Refusal :=
  .next
    (if s.inReset then
      { s with
        inReset := false, straps := straps
        pu.timebase := if referenceEdge then .reference else .internal }.beginStartUp
    else s)

/-- A configured lane at the end of the start-up load (R7, R23, R45). -/
def LaneConfig.toLane (c : LaneConfig) : Lane :=
  { state := if c.slotCount = 0 then .ended else .ready, base := c.base, slotCount := c.slotCount,
    fetchWidth := c.fetchWidth, recorder := c.recorder, readPos := 0, lastSeq := none, gap := none, insertions := 0,
    held := none,
    clock :=
      { ClockModel.absent with
        tick := c.tick, lambda := c.lambda, nominalOffset := c.nominalOffset, nominalDrift := c.nominalDrift }.nominal,
    mask := c.mask, trap := none, silent := none }

/-- The load ends with a valid station block (R6, R12, R23, R45, R122). DEDUCED: notes/assumptions/25.md. -/
def State.finishLoad (s : State) (p : LoadProgress) : State :=
  { s with
    afu.lanes := Vector.ofFn fun l => (p.lanes[l.val]?).elim Lane.disabled LaneConfig.toLane
    afu.request := none, afu.words := [], afu.directory := p.directory
    ccu := { driftShift := p.header.driftShift, stepLimit := p.header.stepLimit }
    mq := { entries := [], cut := .absent }
    dst.devices := p.devices, dst.ranges := p.ranges
    cku.tolerance := p.header.tolerance
    rc.mode := .standby, rc.statusPending := true, rc.load := none }

/-- A value was adjusted or an entry ignored (R7, R9, R11). DEDUCED: notes/assumptions/24.md. -/
def State.warnIf (s : State) (b : Bool) : State :=
  { s with rc.configWarning := s.rc.configWarning || b }

/-- Check 8 up to its entries, and the directory's first slot (R13). DESIGN CHOICE: notes/assumptions/42.md, count and
extent are tested before any slot of the directory is read. -/
def State.loadDirectory (s : State) (p : LoadProgress) : State :=
  if Config.maxDirectoryEntries < p.header.directoryCount then s.enterFaulted .badDirectory
  else if p.header.directoryCount = 0 then s.finishLoad p
  else if stationBlock s.straps.archiveSize < p.header.directoryBase + (p.header.directoryCount + 1) / 2 then
    s.enterFaulted .badDirectory
  else s.readLoad p (.directory 0) p.header.directoryBase

/-- The range count's part of check 7, and the range slot (R4, R5, R10). -/
def State.loadRanges (s : State) (p : LoadProgress) : State :=
  if 4 < p.header.rangeCount then s.enterFaulted .badRange
  else if p.header.rangeCount = 0 then s.loadDirectory p
  else s.readLoad p .ranges (s.blockSlot 17)

/-- Two regions share a slot (R8). -/
def overlaps (a b : LaneConfig) : Bool :=
  a.slotCount != 0 && b.slotCount != 0 && decide (a.base < b.base + b.slotCount) && decide (b.base < a.base + a.slotCount)

/-- Some two of the regions share a slot (R8). -/
def anyOverlap : List LaneConfig → Bool
  | [] => false
  | c :: rest => rest.any (overlaps c) || anyOverlap rest

/-- Checks 5 and 6, and the first device slot (R4, R5, R8, R9). -/
def State.loadDevicesPart (s : State) (p : LoadProgress) : State :=
  if anyOverlap p.lanes then s.enterFaulted .regionOverlap
  else if Config.maxDeviceEntries < p.header.deviceCount then s.enterFaulted .badDeviceList
  else if p.header.deviceCount = 0 then s.loadRanges p
  else s.readLoad p (.devices 0) (s.blockSlot 18)

/-- Checks 1 and 2 on the header, and the first lane entry's slot (R4, R5). -/
def State.checkHeader (s : State) (p : LoadProgress) (d : Slot) : State :=
  if natAt d 0 4 ≠ Config.formatCode then s.enterFaulted .badFormat
  else if (headerOf d).laneCount = 0 ∨ 16 < (headerOf d).laneCount then s.enterFaulted .badLaneCount
  else s.readLoad { p with header := headerOf d } (.lane 0) (s.blockSlot 1)

/-- The header slot is taken: the adjustment of k, then its checks (R5, R11). -/
def State.loadHeader (s : State) (p : LoadProgress) (d : Slot) : State :=
  (s.warnIf (headerAdjusted d)).checkHeader p d

/-- Lane entry `i` has passed its checks: the next lane entry's slot is read, or the load goes on to check 5 (R4, R5). -/
def State.acceptLane (s : State) (p : LoadProgress) (i : Nat) (c : LaneConfig) : State :=
  if i + 1 < p.header.laneCount then
    s.readLoad { p with lanes := p.lanes ++ [c] } (.lane (i + 1)) (s.blockSlot (i + 2))
  else s.loadDevicesPart { p with lanes := p.lanes ++ [c] }

/-- Checks 3 and 4 on lane entry `i` (R5, R8). -/
def State.checkLane (s : State) (p : LoadProgress) (i : Nat) (d : Slot) : State :=
  match TickUnit.ofCode (natAt d 12 1) with
  | none => s.enterFaulted .badLaneEntry
  | some tick =>
    if stationBlock s.straps.archiveSize < (laneConfigOf d tick).base + (laneConfigOf d tick).slotCount then
      s.enterFaulted .badRegion
    else s.acceptLane p i (laneConfigOf d tick)

/-- Lane entry `i` is taken: its adjustments, then its checks (R5, R7, R8). -/
def State.loadLane (s : State) (p : LoadProgress) (i : Nat) (d : Slot) : State :=
  (s.warnIf (laneAdjusted d)).checkLane p i d

/-- A device entry is accepted into the table, or ignored (R9): `none` for an ignored entry. -/
def acceptDevice (table : List Device) (entry : Option Device) : Option (List Device) :=
  match entry with
  | none => none
  | some dev =>
    if (table.any fun x => x.number == dev.number) || decide (Config.deviceCapacity ≤ table.length) then none
    else some (table ++ [dev])

/-- The first `n` entries of a device slot from entry `j` are accepted one after another; the flag says that one was
ignored (R9). -/
def acceptDevices (d : Slot) : Nat → Nat → List Device → List Device × Bool
  | 0, _, table => (table, false)
  | n + 1, j, table =>
    match acceptDevice table (deviceEntryOf d j) with
    | some table' => acceptDevices d n (j + 1) table'
    | none => ((acceptDevices d n (j + 1) table).1, true)

/-- Device slot `i` has been taken: the next is read while entries counted remain, or the load goes on to check 7
(R4, R5). -/
def State.nextDevices (s : State) (p : LoadProgress) (i : Nat) : State :=
  if 4 * (i + 1) < p.header.deviceCount then s.readLoad p (.devices (i + 1)) (s.blockSlot (18 + (i + 1)))
  else s.loadRanges p

/-- The counted entries of device slot `i` are accepted or ignored (R9). -/
def devicesOfSlot (p : LoadProgress) (i : Nat) (d : Slot) : List Device × Bool :=
  acceptDevices d (min 4 (p.header.deviceCount - 4 * i)) 0 p.devices

/-- Device slot `i` is taken (R9). -/
def State.loadDeviceSlot (s : State) (p : LoadProgress) (i : Nat) (d : Slot) : State :=
  (s.warnIf (devicesOfSlot p i d).2).nextDevices { p with devices := (devicesOfSlot p i d).1 } i

/-- A range as check 7 wants it (R5, R10). -/
def DeviceRange.valid (r : DeviceRange) : Bool :=
  decide (1 ≤ r.low) && decide (r.high ≤ 65534) && decide (r.low ≤ r.high)

/-- The ranges counted of the range slot (R4, Table 11-2). -/
def rangesOf (count : Nat) (d : Slot) : List DeviceRange :=
  (List.range count).map (rangeOf d)

/-- The range slot is taken: the ranges' part of check 7 (R5, R10). -/
def State.loadRangeSlot (s : State) (p : LoadProgress) (d : Slot) : State :=
  if (rangesOf p.header.rangeCount d).all DeviceRange.valid then
    s.loadDirectory { p with ranges := rangesOf p.header.rangeCount d }
  else s.enterFaulted .badRange

/-- A directory entry follows those before it as R13 wants it. -/
def dirEntryValid (recordArea : Nat) (before : List DirEntry) (e : DirEntry) : Bool :=
  decide (e.time ≤ Config.maxTime) && decide (e.slot < recordArea) && before.all fun x => decide (x.time < e.time)

/-- The first `n` entries of a directory slot from entry `j` join the copy, unless one is not as R13 wants it. -/
def acceptDirectory (recordArea : Nat) (d : Slot) : Nat → Nat → List DirEntry → Option (List DirEntry)
  | 0, _, dir => some dir
  | n + 1, j, dir =>
    if dirEntryValid recordArea dir (dirEntryOf d j) then
      acceptDirectory recordArea d n (j + 1) (dir ++ [dirEntryOf d j])
    else none

/-- Directory slot `i` has been taken: the next is read while entries counted remain, or the load ends (R4, R12). -/
def State.nextDirectory (s : State) (p : LoadProgress) (i : Nat) : State :=
  if 2 * (i + 1) < p.header.directoryCount then
    s.readLoad p (.directory (i + 1)) (p.header.directoryBase + (i + 1))
  else s.finishLoad p

/-- The copy with the counted entries of directory slot `i`, unless one is not as R13 wants it. -/
def directoryOfSlot (recordArea : Nat) (p : LoadProgress) (i : Nat) (d : Slot) : Option (List DirEntry) :=
  acceptDirectory recordArea d (min 2 (p.header.directoryCount - 2 * i)) 0 p.directory

/-- Directory slot `i` is taken: the entries' part of check 8 (R12, R13). DESIGN CHOICE: notes/assumptions/42.md, each
entry is tested as its slot is taken, and the load faults at the first that is not as R13 wants it. -/
def State.loadDirectorySlot (s : State) (p : LoadProgress) (i : Nat) (d : Slot) : State :=
  match directoryOfSlot (stationBlock s.straps.archiveSize) p i d with
  | none => s.enterFaulted .badDirectory
  | some dir => s.nextDirectory { p with directory := dir } i

/-- A slot of the start-up load is taken: values are adjusted, the next check is made, and the next slot is read
or the load ends (R4, R5). -/
def State.loadAnswer (s : State) (p : LoadProgress) (d : Slot) : State :=
  match p.stage with
  | .header => s.loadHeader p d
  | .lane i => s.loadLane p i d
  | .devices i => s.loadDeviceSlot p i d
  | .ranges => s.loadRangeSlot p d
  | .directory i => s.loadDirectorySlot p i d

/-- LOAD_SLOT_ANSWER: the answer to the start-up load's outstanding read is taken word by word, and once whole it is
dealt with (R4, R171). With no such read outstanding nothing is taken (R28). -/
def execLoadSlotAnswer (words : List PortWord) (s : State) : Host.Outcome State Fault Refusal :=
  s.whenLive fun s =>
    match s.afu.request, s.rc.load with
    | some { owner := .load, .. }, some p => s.takeWords words fun d => (s.loadAnswer p d).refreshDrive
    | _, _ => s

end Sys2Proof.Machine
end

