-- ==== Sys2Proof/Machine/Lanes.lean ====
section
/-! DEFINITION. Lanes and archive fetch (Chapter 2): the start of a visit, the taking of a lane slot with the clock
and reference checks on its way to insertion (Chapters 3 and 8), and the archive timeout. -/

namespace Sys2Proof.Machine

/-- The lanes in the order a search takes them: from the rotation pointer upward, wrapping from 15 to 0 (R25). -/
def State.searchOrder (s : State) : List (Fin 16) :=
  (List.finRange 16).map fun i => s.afu.rotation + i

/-- The first READY lane of the search; a lane that holds a silent event is passed over (R25, R160). -/
def State.chooseLane (s : State) : Option (Fin 16) :=
  s.searchOrder.find? fun l => (s.lane l).state == .ready && (s.lane l).silent.isNone

/-- A visit begins on lane l with the read for its slot (R26). -/
def State.beginVisit (s : State) (l : Fin 16) : State :=
  { s with afu.visitCount := 0, afu.visitEnding := false }.readLane l

/-- LANE_VISIT_START: when visits are allowed and the port is idle, the AFU visits the first READY lane of its
search; otherwise it waits (R24, R25, R26). -/
def execLaneVisitStart (s : State) : Host.Outcome State Fault Refusal :=
  s.whenLive fun s =>
    if s.visitsAllowed && s.afu.request.isNone then
      match s.chooseLane with
      | some l => s.beginVisit l
      | none => s
    else s

/-- The recorder sequence of a mark or an event is compared with the lane's last sequence, which it becomes (R34). -/
def Lane.noteSequence (x : Lane) (seq : BitVec 32) : Lane :=
  match x.lastSeq with
  | none => { x with lastSeq := some seq }
  | some last =>
    if seq = last + 1 then { x with lastSeq := some seq }
    else
      { x with
        lastSeq := some seq, gap := some (min Config.maxLostCount (x.gap.getD 0 + (seq - last - 1).toNat)) }

/-- A GAP record sets gap pending and the last sequence, and the lane passes its slot (R33). -/
def Lane.takeGap (x : Lane) (lost : Nat) (seq : BitVec 32) : Lane :=
  { x with lastSeq := some seq, gap := some (min Config.maxLostCount (x.gap.getD 0 + lost)) }.passSlot

/-- A DAMAGED or UNDECODABLE slot (R31, R40, R139): skipped in SEEKING and under PASS, trapped under HOLD. -/
def State.takeBadSlot (s : State) (l : Fin 16) (anomalies : AnomalySet) : State :=
  let x := s.lane l
  match s.rc.mode with
  | .seeking => s.setLane l x.passSlot
  | .loading | .faulted | .standby | .paused | .running | .ended | .withdrawn =>
    match x.mask.group1 with
    | .pass =>
      (s.setLane l x.passSlot).raiseFinding (laneFinding l 1 anomalies .skipped none x.readPos s.pu.windowStart)
    | .hold =>
      (s.trapAtFetch l 1 .slot).raiseFinding
        (laneFinding l 1 anomalies .heldForRelease none x.readPos s.pu.windowStart)

/-- A SYNC_MARK, its sequence already compared (R54 to R62). -/
def State.takeMark (s : State) (l : Fin 16) (stamp : BitVec 48) (reference : Nat) : State :=
  let x := s.lane l
  let raw := x.clock.rawTime stamp
  let anomalies := x.clock.markAnomalies s.ccu.stepLimit raw reference
  let applied := s.setLane l { x with clock := x.clock.applyStep raw reference }.passSlot
  if anomalies.any then
    match s.rc.mode with
    | .seeking => applied
    | .loading | .faulted | .standby | .paused | .running | .ended | .withdrawn =>
      match x.mask.group2 with
      | .pass => applied.raiseFinding (laneFinding l 2 anomalies .applied none x.readPos reference)
      | .hold =>
        (s.trapAtFetch l 2 (.mark raw reference)).raiseFinding
          (laneFinding l 2 anomalies .heldForRelease none x.readPos reference)
  else s.setLane l { x with clock := x.clock.applyMark s.ccu.driftShift raw reference }.passSlot

/-- The event goes in: the read position advances past its slot, and it is inserted, or it waits STALLED as a
released record when no entry is free (R36, R39). -/
def State.insertOrStall (s : State) (l : Fin 16) (e : HeldEvent) : State :=
  if s.queueFull then s.setLane l { (s.lane l).advance with state := .stalled, held := some (.released e) }
  else (s.setLane l (s.lane l).advance).insertEvent l e

/-- The reference checks of an event on its way to insertion, and their outcome (R140, R141, R142, R143): inserted
without an anomaly; skipped in SEEKING and under PASS; trapped under HOLD. -/
def State.referenceStage (s : State) (l : Fin 16) (e : HeldEvent) : State :=
  let x := s.lane l
  let anomalies := s.dst.referenceCheck l e.device
  if anomalies.any then
    if s.rc.mode == .seeking || x.mask.group3 == .pass then
      (s.setLane l x.passSlot).raiseFinding (laneFinding l 3 anomalies .skipped (some e.device) e.slot e.unheld)
    else
      (s.trapAtFetch l 3 (.event e)).raiseFinding
        (laneFinding l 3 anomalies .heldForRelease (some e.device) e.slot e.unheld)
  else s.insertOrStall l e

/-- An event held below the seek time becomes its lane's silent event (R51, R160). -/
def State.handOver (s : State) (l : Fin 16) (e : HeldEvent) (time : Nat) : State :=
  let x := (s.lane l).advance
  s.setLane l
    { x with
      clock := x.clock.takeEvent e time, silent := some { time := time, device := e.device, kind := e.kind },
      state := x.stateAfterSlot }

/-- A corrected event in SEEKING: handed to silent replay below the seek time, sent to insertion otherwise (R51). -/
def State.takeEventSeeking (s : State) (l : Fin 16) (e : HeldEvent) : State :=
  if (s.lane l).clock.holdTime 0 e < s.rc.seekTime then s.handOver l e ((s.lane l).clock.holdTime 0 e)
  else s.referenceStage l e

/-- A corrected event outside SEEKING: REGRESSION is dealt with by the lane's mask for group 2, then the reference
checks follow (R47, R52). -/
def State.takeEventLive (s : State) (l : Fin 16) (e : HeldEvent) : State :=
  let x := s.lane l
  if x.clock.regression e.raw then
    match x.mask.group2 with
    | .pass =>
      (s.raiseFinding (laneFinding l 2 { regression := true } .applied (some e.device) e.slot e.unheld)).referenceStage l e
    | .hold =>
      (s.trapAtFetch l 2 (.event e)).raiseFinding
        (laneFinding l 2 { regression := true } .heldForRelease (some e.device) e.slot e.unheld)
  else s.referenceStage l e

/-- An EVENT, its sequence already compared and an entry free: corrected, and on its way (R31 step 7). -/
def State.takeEvent (s : State) (l : Fin 16) (device : BitVec 16) (kind : EventKind) (stamp : BitVec 48) : State :=
  let e := (s.lane l).clock.correct device kind stamp (s.lane l).readPos
  match s.rc.mode with
  | .seeking => s.takeEventSeeking l e
  | .loading | .faulted | .standby | .paused | .running | .ended | .withdrawn => s.takeEventLive l e

/-- A lane slot is classified and acted on; the lane is READY unless the slot leaves it in another state (R31, R32). -/
def State.takeSlot (s : State) (l : Fin 16) (d : Slot) : State :=
  let x := s.lane l
  match classify d with
  | .erased => s.setLane l { x with state := .ended }
  | .damaged => s.takeBadSlot l { damaged := true }
  | .undecodable => s.takeBadSlot l { undecodable := true }
  | .gap lost seq => s.setLane l (x.takeGap lost seq)
  | .mark stamp reference seq => (s.setLane l (x.noteSequence seq)).takeMark l stamp reference
  | .event device kind stamp seq =>
    if s.queueFull then s.setLane l { x with state := .stalled }
    else (s.setLane l (x.noteSequence seq)).takeEvent l device kind stamp

/-- The answer to lane l's read has come: the port is idle, the visit count rises, and the lane is no longer
WAITING (R26, R29). -/
def State.answerTaken (s : State) (l : Fin 16) : State :=
  { (s.setLane l { s.lane l with state := .ready }).dropRead with afu.visitCount := s.afu.visitCount + 1 }

/-- The visit on lane l may read on: the lane is READY without a silent event, the visit count is below its fetch
width, and R24 allows visits and has done so throughout the read just answered (R24, R26, R160). -/
def State.mayContinue (s : State) (l : Fin 16) : Bool :=
  (s.lane l).state == .ready && (s.lane l).silent.isNone && decide (s.afu.visitCount < (s.lane l).fetchWidth)
    && s.visitsAllowed && !s.afu.visitEnding

/-- The visit on lane l continues with the next slot, or ends (R24, R26, R160). R24 lets a condition cease on the mode
changing. DESIGN CHOICE: notes/assumptions/39.md, a change between PAUSED and RUNNING is no such change. -/
def State.continueVisit (s : State) (l : Fin 16) : State :=
  if s.mayContinue l then s.readLane l else s.endVisit l

/-- LANE_SLOT_ANSWER: the answer to a lane's outstanding read is taken word by word, and once whole it is dealt with,
and the visit continues or ends (R26, R29, R31, R171). With no such read outstanding nothing is taken (R28). -/
def execLaneSlotAnswer (words : List PortWord) (s : State) : Host.Outcome State Fault Refusal :=
  s.whenLive fun s =>
    match s.afu.request with
    | some { owner := .lane l, .. } =>
      s.takeWords words fun d => (((s.answerTaken l).takeSlot l d).continueVisit l).settle
    | _ => s

/-- The retry of lane l's slot has timed out: the lane is LOST, a finding is queued, and the visit ends (R26, R30). -/
def State.loseLane (s : State) (l : Fin 16) : State :=
  (((s.setLane l { s.lane l with state := .lost }).dropRead).raiseFinding
    (laneFinding l 0 {} .laneLost none (s.lane l).readPos s.pu.windowStart)).endVisit l

/-- The failure path of a read whose retry has timed out, by its owner (R4, R19, R30). -/
def State.readFailed (s : State) (owner : ReadOwner) : State :=
  match owner with
  | .load => s.enterFaulted .archiveTimeout
  | .lane l => s.loseLane l
  | .checkpoint => s.dropRead.replayFromNominal

/-- ARCHIVE_READ_TIMEOUT: the outstanding read is abandoned; a first attempt is retried once, and a retry takes the
failure path of its owner (R4, R19, R27, R30). With no read outstanding nothing times out.
DEDUCED: notes/assumptions/22.md. -/
def execArchiveReadTimeout (s : State) : Host.Outcome State Fault Refusal :=
  s.whenLive fun s =>
    match s.afu.request with
    | none => s
    | some r => if r.retry then (s.readFailed r.owner).settle else s.issueRead r.owner r.slot true

/-- DISCARDED_ANSWER: words that answer an abandoned request carry the old tag, or come while AREQ is low, and are
discarded, changing no state, whatever they hold (R28, R171). Words whose tags are not known to differ come with the
answer commands, which compare them. DESIGN CHOICE: notes/assumptions/33.md. -/
def execDiscardedAnswer (s : State) : Host.Outcome State Fault Refusal :=
  .next s

end Sys2Proof.Machine
end

