-- ==== Sys2Proof/Machine/Release.lean ====
section
/-! DEFINITION. RELEASE (R149, R150): the end of a trap at fetch (R39, R143) and of a trap at winning (R71). -/

namespace Sys2Proof.Machine

/-- What a RELEASE asks for (R156). -/
inductive ReleaseAction where
  | skip | apply
deriving DecidableEq, Repr

/-- The action of a code; none for the undefined codes 2 and 3 (Table 11-6, R170). -/
def ReleaseAction.ofCode : Nat → Option ReleaseAction
  | 0 => some .skip
  | 1 => some .apply
  | _ => none

/-- A lane that has been released is tested against the window end (R37, R39, R150), except that a record it has
inserted has settled its state (R36). DEDUCED: notes/assumptions/20.md. -/
def State.testReleased (s : State) (l : Fin 16) : State :=
  s.setLane l ((s.lane l).passTest s.pu.windowEnd)

/-- The held item of a lane trapped at fetch is skipped: the read position advances past it (R39). -/
def State.skipHeld (s : State) (l : Fin 16) : State :=
  (s.setLane l (s.lane l).passSlot).testReleased l

/-- A trapped mark is applied as a step, and its slot is passed (R39, R61). -/
def State.applyHeldMark (s : State) (l : Fin 16) (raw : Nat) (reference : Nat) : State :=
  (s.setLane l { s.lane l with clock := (s.lane l).clock.applyStep raw reference }.passSlot).testReleased l

/-- An event trapped for group 2 is sent on to the reference checks (R39, R143). -/
def State.applyHeldEvent (s : State) (l : Fin 16) (e : HeldEvent) : State :=
  (s.referenceStage l e).testReleased l

/-- A RELEASE of a trap at fetch (Table 8-4). DEDUCED: notes/assumptions/36.md. -/
def State.releaseFetch (s : State) (l : Fin 16) (group : Nat) (action : ReleaseAction) : State :=
  match action with
  | .skip => s.skipHeld l
  | .apply =>
    match (s.lane l).held with
    | some (.mark raw reference) => s.applyHeldMark l raw reference
    | some (.event e) => if group = 2 then s.applyHeldEvent l e else s.skipHeld l
    | some .slot | some (.released _) | none => s.skipHeld l

/-- The queue's side of a RELEASE of a trap at winning (R71): APPLY sets the released mark, SKIP removes the entry,
and a freed entry acts on the lanes (R38). -/
def State.releaseEntry (s : State) (k : EntryKey) (action : ReleaseAction) : State :=
  match action with
  | .apply => s.markReleased k
  | .skip => if s.hasEntry k then (s.removeEntry k).entryFreed else s

/-- The lane that leaves a trap at winning returns to ENDED or LOST when that was its state before the trap, and is
READY, tested against the window end, otherwise (R150). -/
def Lane.leaveWinning (x : Lane) (before : LaneState) (windowEnd : Nat) : Lane :=
  match before with
  | .ended => { x with state := .ended, trap := none }
  | .lost => { x with state := .lost, trap := none }
  | .disabled | .ready | .waiting | .stalled | .passed | .trapped =>
    { x with state := .ready, trap := none }.passTest windowEnd

/-- Lane l leaves its trap at winning (R150). -/
def State.leaveWinning (s : State) (l : Fin 16) (before : LaneState) : State :=
  s.setLane l ((s.lane l).leaveWinning before s.pu.windowEnd)

/-- A RELEASE of a trap at winning (R71, R150). -/
def State.releaseWinning (s : State) (l : Fin 16) (k : EntryKey) (before : LaneState) (action : ReleaseAction) :
    State :=
  (s.releaseEntry k action).leaveWinning l before

/-- A RELEASE that names a TRAPPED lane ends its trap (R150). -/
def State.releaseLane (s : State) (l : Fin 16) (action : ReleaseAction) : State :=
  match (s.lane l).trap with
  | some (.fetch group) => s.releaseFetch l group action
  | some (.winning k before) => s.releaseWinning l k before action
  | none => s

/-- The RELEASE names this engine (R149): ALL and the numbers of no station do not (R170). -/
def State.namedAlone (s : State) (a : CommandBody) : Bool :=
  a.station.toNat == s.straps.station.toNat

/-- RELEASE: the frame is taken; when it names this engine, a TRAPPED lane and a defined action, the trap ends (R149,
R150). -/
def execRelease (s : State) : Host.Outcome State Fault Refusal :=
  s.whenLive fun s =>
    match s.frontCommand 8 with
    | none => s
    | some a =>
      match ReleaseAction.ofCode a.action.toNat with
      | none => s.popInbound
      | some action =>
        if s.namedAlone a && (s.lane a.lane.toFin).state == .trapped then
          (s.popInbound.releaseLane a.lane.toFin action).settle
        else s.popInbound

end Sys2Proof.Machine
end

