-- ==== Sys2Proof/Machine/Offers.lean ====
section
/-! DEFINITION. The frames the engine offers (R84, R87, R109): each is built from the state of its owner as it
stands when the attempt begins. -/

namespace Sys2Proof.Machine

/-- The EVENT body of a merge queue entry with the outcome of its evaluation (Table 5-2, Table 11-6, R144). -/
def Entry.body (e : Entry) (duplicate : Bool) (anomalies : AnomalySet) : EventBody :=
  { lane := BitVec.ofNat 4 e.lane.val, laneSeq := BitVec.ofNat 28 e.laneSeq, recorder := e.recorder,
    device := e.device, kind := BitVec.ofNat 4 e.kind.code, rawStamp := e.rawStamp,
    tickCode := BitVec.ofNat 2 e.tick.code, quality := BitVec.ofNat 2 e.quality.code, held := e.held,
    gapBefore := e.gapBefore.isSome, lostCount := BitVec.ofNat 16 (e.gapBefore.getD 0), duplicate := duplicate,
    released := e.released, anomalies := anomalies.group4Bits }

/-- The EVENT frame of an entry (Table 5-2). -/
def Entry.frame (own : BitVec 5) (e : Entry) (duplicate : Bool) (anomalies : AnomalySet) : Frame :=
  { key := BitVec.ofNat 40 e.time, station := own, body := .event (e.body duplicate anomalies) }

/-- The FINDING frame of a finding (Tables 5-2, 8-5 and 11-6, R152). -/
def Finding.frame (own : BitVec 5) (f : Finding) : Frame :=
  { key := BitVec.ofNat 40 f.key, station := own,
    body :=
      .finding
        { lane := BitVec.ofNat 4 f.lane.val, group := BitVec.ofNat 3 f.group, anomalies := f.anomalies.bits,
          disposition := BitVec.ofNat 3 f.disposition.code, devicePresent := f.device.isSome,
          device := f.device.getD 0#16, slot := BitVec.ofNat 32 f.slot } }

/-- The form bit of a source: 0 LANE, 1 STATION (Table 11-6). -/
def Source.form : Source → BitVec 1
  | .lane _ => 0#1
  | .station _ => 1#1

/-- The number of a source (Table 11-6). -/
def Source.number : Source → BitVec 5
  | .lane l => BitVec.ofNat 5 l.val
  | .station n => n

/-- The STATE body of a device entry; what is absent is sent as zeros (R133, Table 11-6). -/
def Device.body (d : Device) : StateBody :=
  { role := BitVec.ofNat 1 d.role.code, cls := BitVec.ofNat 2 d.cls.code, maxTravel := BitVec.ofNat 16 d.maxTravel,
    position := BitVec.ofNat 2 d.position.code, lockout := d.lockout, pickup := d.pickup,
    travelPresent := d.travelStart.isSome, travelStart := BitVec.ofNat 40 (d.travelStart.getD 0),
    lastChangePresent := d.lastChange.isSome, lastChange := BitVec.ofNat 40 (d.lastChange.getD 0),
    lastEventPresent := d.lastEvent.isSome,
    lastEventKind := d.lastEvent.elim 0#4 fun e => BitVec.ofNat 4 e.kind.code,
    lastEventTime := d.lastEvent.elim 0#40 fun e => BitVec.ofNat 40 e.time,
    sourceForm := d.lastEvent.elim 0#1 fun e => e.source.form,
    sourceNumber := d.lastEvent.elim 0#5 fun e => e.source.number,
    operations := BitVec.ofNat 16 d.operations, corroborations := BitVec.ofNat 8 d.corroborations }

/-- The STATE frame of a device entry, keyed by the device number in the low 16 bits (R133). -/
def Device.frame (own : BitVec 5) (d : Device) : Frame :=
  { key := BitVec.setWidth 40 d.number, station := own, body := .state d.body }

/-- The STATUS body: the engine's report of itself (R168, Tables 9-4 and 11-6). -/
def State.statusBody (s : State) : StatusBody :=
  { mode := BitVec.ofNat 3 s.rc.mode.code, startCause := BitVec.ofNat 1 s.rc.startCause.code,
    faultCause := BitVec.ofNat 4 s.rc.faultCause.code, timebase := BitVec.ofNat 1 s.pu.timebase.code,
    windowStart := BitVec.ofNat 40 s.pu.windowStart,
    lanesTrapped := s.laneSet fun x => x.state == .trapped, lanesEnded := s.laneSet fun x => x.state == .ended,
    lanesLost := s.laneSet fun x => x.state == .lost, lostFindings := BitVec.ofNat 8 s.cku.lostFindings,
    seekDegraded := s.rc.seekDegraded, configWarning := s.rc.configWarning }

/-- The STATUS frame (R168): keyed 0. -/
def State.statusFrame (s : State) : Frame :=
  { key := 0#40, station := s.straps.station, body := .status s.statusBody }

/-- The head of the queue, when it is a window entry (R64, R68). -/
def State.windowHead (s : State) : Option Entry :=
  match s.mq.entries with
  | [] => none
  | e :: _ => if e.time < s.pu.windowEnd then some e else none

/-- The key of the NEXT frame: the engine's earliest pending time, or NONE (R109). -/
def State.nextKey (s : State) : Nat :=
  match s.mq.entries with
  | e :: _ => e.time
  | [] =>
    if s.lanesEnded then Config.noneTime
    else if s.pu.windowEnd = Config.noneTime then Config.maxTime
    else s.pu.windowEnd

/-- The CUT of a PENDING cut record (R75, R84). -/
def State.cutOffer (s : State) : Option Outbound :=
  match s.mq.cut with
  | .pending c _ =>
    some { frame := { key := BitVec.ofNat 40 c, station := s.straps.station, body := .cut }, entry := none }
  | .absent | .taken => none

/-- The EVENT or NEXT of the emit (R68, R109). An EVENT's flags and anomaly set are settled at the end of its
stretch (R84, R89). -/
def State.emitOffer (s : State) : Outbound :=
  match s.windowHead with
  | some e => { frame := e.frame s.straps.station false {}, entry := some e.key }
  | none =>
    { frame := { key := BitVec.ofNat 40 s.nextKey, station := s.straps.station, body := .next }, entry := none }

/-- The STATUS the RC holds pending (R84, R167). -/
def State.statusOffer (s : State) : Option Outbound :=
  if s.rc.statusPending then some { frame := s.statusFrame, entry := none } else none

/-- The oldest STATE reply pending (R84, R131). -/
def State.stateOffer (s : State) : Option Outbound :=
  match s.dst.replies with
  | [] => none
  | n :: _ =>
    match s.dst.find n with
    | none => none
    | some d => some { frame := d.frame s.straps.station, entry := none }

/-- The FINDING for the oldest finding (R84, R153). -/
def State.findingOffer (s : State) : Option Outbound :=
  match s.cku.findings with
  | [] => none
  | f :: _ => some { frame := f.frame s.straps.station, entry := none }

/-- The FINDING, STATE or STATUS that is first in the order of R84. -/
def State.reportOffer (s : State) : Option Outbound :=
  s.findingOffer <|> s.stateOffer <|> s.statusOffer

/-- The frame the engine offers: the first, in the order of R84, of those its mode and phase allow (R87, Table
5-4). -/
def State.offer (s : State) : Option Outbound :=
  match s.rc.mode with
  | .loading => none
  | .standby | .seeking | .ended => s.reportOffer
  | .paused | .running =>
    match s.pu.phase with
    | .gather => s.cutOffer <|> s.reportOffer
    | .emit => some s.emitOffer
    | .suspended => s.reportOffer
  | .withdrawn | .faulted => s.statusOffer

end Sys2Proof.Machine
end

