-- ==== Sys2Proof/Machine/Bus.lean ====
section
/-! DEFINITION. The replay bus (Chapter 5): joining, contention and arbitration, the winner's stretch with the
judgement at winning (R144 to R147), failed attempts, and the end of a frame. -/

namespace Sys2Proof.Machine

/-- The join ends: the bus state becomes IDLE (R80). DEDUCED: notes/assumptions/17.md. -/
def State.endJoin (s : State) : State :=
  match s.biu.state with
  | .joining => { s with biu.state := .idle }
  | .idle | .contending | .stretching | .sending | .receiving | .vetoSlot => s

/-- JOIN_ON_CLOSE: a JOINING engine that sees a close condition becomes IDLE (R80). -/
def execJoinOnClose (s : State) : Host.Outcome State Fault Refusal :=
  s.whenLive State.endJoin

/-- JOIN_IDLE_EXPIRY: a JOINING engine becomes IDLE after 64 bit times with BCK and BDT recessive (R80). -/
def execJoinIdleExpiry (s : State) : Host.Outcome State Fault Refusal :=
  s.whenLive State.endJoin

/-- The phase after BHL is read at an open condition (R87, R107, R108, Table 6-4): a dominant line suspends EMIT, a
recessive line brings GATHER and SUSPENDED into EMIT. DEDUCED: notes/assumptions/16.md. -/
def phaseAtOpen (phase : Phase) (level : Level) : Phase :=
  match level with
  | .dominant =>
    match phase with
    | .emit => .suspended
    | .gather => .gather
    | .suspended => .suspended
  | .recessive => .emit

/-- BHL is read at the open condition, in the modes that consult the phase (R101, R107, R108). -/
def State.readAtOpen (s : State) (line : Level) : State :=
  if s.rc.mode.replaying then
    match phaseAtOpen s.pu.phase (s.readBhl line) with
    | .emit => s.enterEmit
    | .gather => { s with pu.phase := .gather }
    | .suspended => { s with pu.phase := .suspended }
  else s

/-- The engine begins an attempt with its offer, or receives: without room in its inbound queue, or without an offer
(R84, R87, R91). -/
def State.beginAttempt (s : State) : State :=
  match (if s.inboundFull then none else s.offer) with
  | some o =>
    { s with biu.state := .contending, biu.outbound := some o, biu.fullAtOpen := s.inboundFull, biu.discarding := false }
  | none =>
    { s with biu.state := .receiving, biu.outbound := none, biu.fullAtOpen := s.inboundFull, biu.discarding := false }

/-- OPEN_CONDITION: an IDLE engine reads BHL and takes part in the frame that begins, whoever gave the condition
(R79, R80, R84, R87, R107). An engine that is JOINING hears nothing. -/
def execOpenCondition (line : Level) (s : State) : Host.Outcome State Fault Refusal :=
  s.whenLive fun s =>
    match s.biu.state with
    | .idle => (s.readAtOpen line).beginAttempt.refreshDrive
    | .joining | .contending | .stretching | .sending | .receiving | .vetoSlot => s

/-- A frame is an EVENT frame. -/
def isEventFrame (f : Frame) : Bool :=
  match f.body with
  | .event _ => true
  | .command _ | .cut | .next | .finding _ | .state _ | .status _ | .invalid => false

/-- The own arbitration field is not above the lowest of the others: the contender has won (R85). -/
def wins (own : ArbField) (others : Option ArbField) : Bool :=
  match others with
  | none => true
  | some a => decide (own.value ≤ a.value)

/-- The field that a receiver hears is of class 7, the invalid class (R83). -/
def invalidField (others : Option ArbField) : Bool :=
  match others with
  | none => false
  | some a => a.cls == 7#3

/-- ARBITRATION_COMPLETE: a contender has won, and enters STRETCHING with an EVENT and SENDING otherwise, or has lost
and receives; a receiver learns the class (R83, R85, R88). -/
def execArbitrationComplete (others : Option ArbField) (s : State) : Host.Outcome State Fault Refusal :=
  s.whenLive fun s =>
    match s.biu.state with
    | .contending =>
      match s.biu.outbound with
      | none => s
      | some o =>
        if wins o.frame.arbitration others then
          { s with biu.state := if isEventFrame o.frame then .stretching else .sending }
        else { s with biu.state := .receiving, biu.outbound := none, biu.discarding := invalidField others }
    | .receiving => { s with biu.discarding := invalidField others }
    | .joining | .idle | .stretching | .sending | .vetoSlot => s

/-- What the evaluation at winning decides (R144). -/
inductive WinOutcome where
  /-- The frame is sent with its DUPLICATE flag and anomaly set; the flag says that a HOLD was not taken (R147). -/
  | send (duplicate : Bool) (anomalies : AnomalySet) (holdNotTaken : Bool)
  /-- The entry is held for its anomalies. -/
  | hold (anomalies : AnomalySet)
deriving DecidableEq, Repr

/-- The markers of an entry as group 4 anomalies (R146). -/
def Entry.markerAnomalies (e : Entry) : AnomalySet :=
  { held := e.held, gapBefore := e.gapBefore.isSome }

/-- The entry is a duplicate by the table as it stands (R145). -/
def State.isDuplicate (s : State) (e : Entry) : Bool :=
  match s.dst.find e.device with
  | none => false
  | some dev => duplicateTest s.cku.tolerance dev e

/-- The group 4 anomalies of an entry by the table as it stands (R146). -/
def State.winAnomalies (s : State) (e : Entry) : AnomalySet :=
  match s.dst.find e.device with
  | none => e.markerAnomalies
  | some dev => sequenceCheck dev e

/-- The outcome at winning (R144, Table 8-3). A lane that holds a released record is not trapped (R147). -/
def State.evaluate (s : State) (e : Entry) : WinOutcome :=
  if s.isDuplicate e then .send true {} false
  else
    let a := s.winAnomalies e
    if !a.any || e.released || (s.lane e.lane).mask.group4 == .pass then .send false a false
    else if (s.lane e.lane).releasedRecord.isSome then .send false a true
    else .hold a

/-- The finding of an entry at winning (Table 8-5). -/
def Entry.finding (e : Entry) (anomalies : AnomalySet) (disposition : Disposition) : Finding :=
  laneFinding e.lane 4 anomalies disposition (some e.device) e.slot e.time

/-- The body is sent with the flags and the anomaly set found (R89, R144). -/
def State.sendEvent (s : State) (e : Entry) (duplicate : Bool) (anomalies : AnomalySet) : State :=
  { s with
    biu.state := .sending
    biu.outbound := some { frame := e.frame s.straps.station duplicate anomalies, entry := some e.key } }

/-- The outstanding read is lane l's (R147). -/
def State.readsLane (s : State) (l : Fin 16) : Bool :=
  match s.afu.request with
  | some { owner := .lane l', .. } => l' == l
  | _ => false

/-- Lane l's outstanding read is abandoned, and the visit on it is over (R147, R28).
DEDUCED: notes/assumptions/21.md. -/
def State.abandonVisit (s : State) (l : Fin 16) : State :=
  if s.readsLane l then s.dropRead.endVisit l else s

/-- Lane l becomes TRAPPED at winning, holding the entry with a key, and its trap record notes its state before the
trap (R147, R148). -/
def State.trapLane (s : State) (l : Fin 16) (k : EntryKey) : State :=
  s.setLane l { s.lane l with state := .trapped, held := none, trap := some (.winning k (s.lane l).state) }

/-- The trap at winning (R147): the entry stays in the queue, its lane becomes TRAPPED holding it, a trap record and
a finding are made, and the frame is aborted. The drive of BHL follows the trap (R103). -/
def State.trapAtWinning (s : State) (e : Entry) (anomalies : AnomalySet) : State :=
  (((s.trapLane e.lane e.key).abandonVisit e.lane).raiseFinding (e.finding anomalies .heldForRelease)).busIdle

/-- What the evaluation decided is carried out (R89, R144, R147). -/
def State.actOnWin (s : State) (e : Entry) : State :=
  match s.evaluate e with
  | .send duplicate anomalies false => s.sendEvent e duplicate anomalies
  | .send duplicate anomalies true =>
    (s.sendEvent e duplicate anomalies).raiseFinding (e.finding anomalies .applied)
  | .hold anomalies => s.trapAtWinning e anomalies

/-- The entry of the engine's EVENT frame, when the test of R89 passes. -/
def State.sendable (s : State) (o : Outbound) (line : Level) : Option Entry :=
  match o.entry with
  | none => none
  | some k =>
    match s.findEntry k with
    | none => none
    | some e =>
      if s.rc.mode.replaying && s.pu.phase == .emit && s.readBhl line == .recessive && decide (e.time < s.pu.windowEnd)
      then some e else none

/-- A dominant reading of BHL in EMIT suspends the engine (R108). -/
def State.suspendOn (s : State) (level : Level) : State :=
  match level with
  | .recessive => s
  | .dominant =>
    if s.rc.mode.replaying && s.pu.phase == .emit then { s with pu.phase := .suspended } else s

/-- The stretch ends: the frame is sent, held, or aborted without being evaluated (R89).
DEDUCED: notes/assumptions/15.md. -/
def State.endStretch (s : State) (o : Outbound) (line : Level) : State :=
  match s.sendable o line with
  | some e => s.actOnWin e
  | none => (s.suspendOn (s.readBhl line)).busIdle

/-- STRETCH_END: with its inbound queue empty, the winner of an EVENT frame ends its stretch (R89). The stretch lasts
while frames wait in the inbound queue (R88). -/
def execStretchEnd (line : Level) (s : State) : Host.Outcome State Fault Refusal :=
  s.whenLive fun s =>
    match s.biu.state, s.biu.outbound, s.biu.inbound with
    | .stretching, some o, [] => (s.endStretch o line).refreshDrive
    | _, _, _ => s

/-- BIT_ERROR: a transmitter that reads back a wrong bit of its body or check octet aborts, and the attempt has
failed (R86, R97). -/
def execBitError (s : State) : Host.Outcome State Fault Refusal :=
  s.whenLive fun s =>
    match s.biu.state with
    | .sending => s.busIdle.failAttempt.refreshDrive
    | .joining | .idle | .contending | .stretching | .receiving | .vetoSlot => s

/-- ABORT_CONDITION_HEARD: the frame ends unsent; the attempt of a transmitter in its body or check octet has failed
(R79, R86). An abort condition is a close condition, so it ends a join (R79, R80). A stretch holds BCK dominant, so no
condition can be given in it. DESIGN CHOICE: notes/assumptions/38.md, an abort that another station gives in the veto
slot of the engine's own frame, where the bus state still stands at SENDING, counts as a failed attempt too. -/
def execAbortConditionHeard (s : State) : Host.Outcome State Fault Refusal :=
  s.whenLive fun s =>
    match s.biu.state with
    | .sending => s.busIdle.failAttempt.refreshDrive
    | .contending | .receiving | .vetoSlot => s.busIdle
    | .joining => s.endJoin
    | .idle | .stretching => s

/-- BUS_ABANDON_TIMEOUT: BCK recessive for 16 bit times in mid-frame ends the frame as aborted; met during the
engine's own frame, its attempt has failed (R79, R86). A stretch holds BCK dominant and does not meet it.
DEDUCED: notes/assumptions/18.md. -/
def execBusAbandonTimeout (s : State) : Host.Outcome State Fault Refusal :=
  s.whenLive fun s =>
    match s.biu.state with
    | .contending | .sending => s.busIdle.failAttempt.refreshDrive
    | .receiving | .vetoSlot => s.busIdle
    | .joining | .idle | .stretching => s

/-- The engine drives the veto slot of a frame it receives (R81, R91). -/
def State.drivesVeto (s : State) (h : HeardFrame) : Bool :=
  s.rc.mode.vetoes && (!h.intact || s.biu.fullAtOpen)

/-- The frame that is received is discarded as of an invalid class (R83). -/
def State.discards (s : State) (h : HeardFrame) : Bool :=
  s.biu.discarding ||
    match h.frame.body with
    | .invalid => true
    | .command _ | .cut | .event _ | .next | .finding _ | .state _ | .status _ => false

/-- The veto count rises by 1 (R96). -/
def State.raiseVeto (s : State) : State :=
  { s with biu.vetoCount := s.biu.vetoCount + 1 }

/-- The veto count after the veto slot of a frame the engine receives, and withdrawal at the eighth (R96, R98). -/
def State.countVeto (s : State) (drove : Bool) : State :=
  if s.rc.mode.vetoes then
    if drove then if Config.vetoLimit ≤ s.biu.vetoCount + 1 then s.raiseVeto.withdraw else s.raiseVeto
    else { s with biu.vetoCount := 0 }
  else s

/-- The SEEK time of an accepted frame that rejoins a WITHDRAWN engine (R99). -/
def rejoinTime (f : Frame) : Option Nat :=
  match f.body with
  | .command a => if commandCode f = 4 then some (seekArg a) else none
  | .cut | .event _ | .next | .finding _ | .state _ | .status _ | .invalid => none

/-- The rejoin: the counts are 0, and the SEEK is applied as any accepted SEEK (R99, R166).
DEDUCED: notes/assumptions/29.md. -/
def State.rejoin (s : State) (t : Nat) : State :=
  { s with biu.vetoCount := 0, biu.failureCount := 0 }.beginSeek t

/-- An accepted frame whose check octet the engine finds correct, and that it has room for, by mode (R93, R99). -/
def State.queueAccepted (s : State) (f : Frame) : State :=
  match s.rc.mode with
  | .standby | .seeking | .paused | .running | .ended => s.pushInbound f
  | .withdrawn =>
    match rejoinTime f with
    | some t => s.rejoin t
    | none => s
  | .loading | .faulted => s

/-- A frame of another station is accepted (R92, R93, R99, R100): discarded by this engine alone when its check octet
fails or its inbound queue has no room; the sign of a duplicate station number; otherwise taken by mode.
DEDUCED: notes/assumptions/14.md. -/
def State.receiveAccepted (s : State) (h : HeardFrame) : State :=
  if !h.intact || (s.rc.mode.takesFrames && s.inboundFull) then s
  else if h.frame.station == s.straps.station && s.rc.mode != .faulted then s.enterFaulted .duplicateNumber
  else s.queueAccepted h.frame

/-- The transmitter settles its offer at the acceptance of its frame (R69, R92, R153, R131, R167). -/
def State.settleOffer (s : State) (o : Outbound) : State :=
  match o.frame.body with
  | .event _ =>
    match o.entry with
    | none => s
    | some k => if s.hasEntry k then (s.removeEntry k).entryFreed else s
  | .finding _ => { s with cku.findings := s.cku.findings.tail }
  | .state _ => { s with dst.replies := s.dst.replies.filter fun n => n != o.frame.key.setWidth 16 }
  | .status _ => { s with rc.statusPending := false }
  | .command _ | .cut | .next | .invalid => s

/-- The frame is over, the failure count is 0, and the offer is settled (R92, R97). -/
def State.ownSettled (s : State) (o : Outbound) : State :=
  { s.busIdle with biu.failureCount := 0 }.settleOffer o

/-- The engine's own frame is accepted (R92, R97): it enters the engine's own inbound queue in the modes that queue
frames (R93, R99). -/
def State.ownAccepted (s : State) (o : Outbound) : State :=
  if s.rc.mode.takesFrames then (s.ownSettled o).pushInbound o.frame else s.ownSettled o

/-- The veto slot of a frame that the engine receives is past, and no other station drove it (R91, R92, R96). -/
def State.heardAccepted (s : State) (h : HeardFrame) : State :=
  if s.discards h then s.busIdle
  else if s.drivesVeto h then s.busIdle.countVeto true
  else (s.busIdle.countVeto false).receiveAccepted h

/-- The veto slot of a frame that the engine receives read dominant (R91, R92, R96). -/
def State.heardVetoed (s : State) (h : HeardFrame) : State :=
  if s.discards h then s.busIdle else s.busIdle.countVeto (s.drivesVeto h)

/-- FRAME_ACCEPTED: a frame closes, and no other station drove its veto slot (R92). The transmitter's own frame, or
the frame heard, is dealt with; a receiver that drives the slot itself has vetoed the frame (R91). The close condition
ends a join (R80). DEDUCED: notes/assumptions/13.md. -/
def execFrameAccepted (h : HeardFrame) (s : State) : Host.Outcome State Fault Refusal :=
  s.whenLive fun s =>
    match s.biu.state, s.biu.outbound with
    | .sending, some o | .vetoSlot, some o => (s.ownAccepted o).settle
    | .receiving, _ | .vetoSlot, none => (s.heardAccepted h).settle
    | .joining, _ => s.endJoin
    | .sending, none | .idle, _ | .contending, _ | .stretching, _ => s

/-- FRAME_VETOED: a frame closes whose veto slot read dominant; no station applies it (R92). A vetoed frame leaves the
transmitter's offer and its failure count as they were. The close condition ends a join (R80). -/
def execFrameVetoed (h : HeardFrame) (s : State) : Host.Outcome State Fault Refusal :=
  s.whenLive fun s =>
    match s.biu.state, s.biu.outbound with
    | .sending, some _ | .vetoSlot, some _ => s.busIdle
    | .receiving, _ | .vetoSlot, none => (s.heardVetoed h).refreshDrive
    | .joining, _ => s.endJoin
    | .sending, none | .idle, _ | .contending, _ | .stretching, _ => s

/-- UNACCEPTED_FRAME_CLOSE: a close condition ends a frame that cannot be accepted, which every station treats as
aborted; no count changes (R82, R83, R79). The close condition ends a join (R80). DEDUCED: notes/assumptions/19.md. -/
def execUnacceptedFrameClose (s : State) : Host.Outcome State Fault Refusal :=
  s.whenLive fun s =>
    match s.biu.state with
    | .receiving | .sending | .vetoSlot => s.busIdle
    | .joining => s.endJoin
    | .idle | .contending | .stretching => s

end Sys2Proof.Machine
end

