-- ==== Sys2Proof/Machine/Epoch.lean ====
section
/-! DEFINITION. The frames other than commands that the engine takes from its inbound queue (R76, R95, R110, R123),
the hold line (R107, R108), the close pulse (R105), pacing (R115, R116) and the timebase (R117 to R119). -/

namespace Sys2Proof.Machine

/-- An accepted CUT may be adopted in this mode and phase (R76). -/
def State.adoptsCuts (s : State) : Bool :=
  s.rc.mode == .seeking || (s.rc.mode.replaying && s.pu.phase == .gather)

/-- A CUT is adopted when it lies strictly inside the window: the window end falls to it, and the lanes are tested
against it (R37, R76). -/
def State.adoptCut (s : State) (c : Nat) : State :=
  if s.adoptsCuts && decide (s.pu.windowStart < c) && decide (c < s.pu.windowEnd) then
    { s with pu.windowEnd := c }.retestLanes
  else s

/-- The finding of a forced cut (R77). -/
def State.forcedCutFinding (s : State) (l : Fin 16) : Finding :=
  laneFinding l 0 {} .forcedCut none (s.lane l).readPos s.pu.windowStart

/-- The engine's own cut is adopted under the test of R76, and the record becomes TAKEN, which ends the visits of the
gather (R24, R75). -/
def State.adoptOwnCut (s : State) (c : Nat) : State :=
  { s.adoptCut c with mq.cut := .taken }.ceaseVisits

/-- The engine's own CUT is taken while its cut record is PENDING (R75, R77). -/
def State.takeOwnCut (s : State) (c : Nat) (forcedLane : Option (Fin 16)) : State :=
  match forcedLane with
  | none => s.adoptOwnCut c
  | some l => (s.adoptOwnCut c).raiseFinding ((s.adoptOwnCut c).forcedCutFinding l)

/-- A CUT frame is taken (R75, R76, R95). -/
def State.takeCut (s : State) (f : Frame) : State :=
  match s.mq.cut with
  | .pending _ forcedLane =>
    if f.station == s.straps.station then s.takeOwnCut f.key.toNat forcedLane else s.adoptCut f.key.toNat
  | .absent | .taken => s.adoptCut f.key.toNat

/-- CUT_TAKEN: the CUT frame at the front of the inbound queue is taken (R75, R76). -/
def execCutTaken (s : State) : Host.Outcome State Fault Refusal :=
  s.whenLive fun s =>
    match s.frontFrame with
    | none => s
    | some f =>
      match f.body with
      | .cut => (s.popInbound.takeCut f).settle
      | .command _ | .event _ | .next | .finding _ | .state _ | .status _ | .invalid => s

/-- The engine applies EVENT frames and acts on NEXT frames: PAUSED or RUNNING, in EMIT or SUSPENDED (R110, R123). -/
def State.inEmit (s : State) : Bool :=
  s.rc.mode.replaying && s.pu.phase != .gather

/-- EVENT_TAKEN: the EVENT frame at the front of the inbound queue is applied to the device table in EMIT or
SUSPENDED, and dropped otherwise (R123). -/
def execEventTaken (s : State) : Host.Outcome State Fault Refusal :=
  s.whenLive fun s =>
    match s.frontFrame with
    | none => s
    | some f =>
      match f.body with
      | .event e =>
        if s.inEmit then { s.popInbound with dst := s.dst.applyFrame s.straps.station f e } else s.popInbound
      | .command _ | .cut | .next | .finding _ | .state _ | .status _ | .invalid => s

/-- The budget after a close: in RUNNING a number falls by 1 (R111). -/
def Budget.afterClose (b : Budget) (mode : Mode) : Budget :=
  match b with
  | .unlimited => .unlimited
  | .epochs n => if mode == .running then .epochs (n - 1) else .epochs n

/-- The mode after a close: PAUSED when the budget has reached 0 or a pause was pending (R111). -/
def State.modeAfterClose (s : State) : Mode :=
  if s.pu.pausePending || (s.rc.mode == .running && s.pu.budget.afterClose s.rc.mode == .epochs 0) then .paused
  else s.rc.mode

/-- The window start after a close by NEXT(n) (R102, R111). -/
def State.nextStart (s : State) (n : Nat) : Nat :=
  min (max s.pu.windowEnd n) Config.maxTime

/-- An accepted NEXT(n) closes the epoch (R111). -/
def State.closeEpoch (s : State) (n : Nat) : State :=
  { s with
    pu.windowStart := s.nextStart n, pu.windowEnd := min (s.nextStart n + s.pu.span) Config.noneTime
    mq.cut := .absent
    pu.budget := s.pu.budget.afterClose s.rc.mode, rc.mode := s.modeAfterClose, pu.pausePending := false
    pu.phase := .gather, pu.closePulse := true, pu.paceTimer := 0 }.retestLanes

/-- An accepted NEXT(NONE) ends the history (R112, R165). -/
def State.endHistory (s : State) : State :=
  { s with rc.mode := .ended, mq.cut := .absent, pu.pausePending := false, pu.phase := .gather }

/-- NEXT_TAKEN: the NEXT frame at the front of the inbound queue closes the epoch in EMIT or SUSPENDED, and is ignored
otherwise (R110, R111, R112). -/
def execNextTaken (s : State) : Host.Outcome State Fault Refusal :=
  s.whenLive fun s =>
    match s.frontFrame with
    | none => s
    | some f =>
      match f.body with
      | .next =>
        if s.inEmit then
          if f.key.toNat = Config.noneTime then s.popInbound.endHistory.settle
          else (s.popInbound.closeEpoch f.key.toNat).settle
        else s.popInbound.refreshDrive
      | .command _ | .cut | .event _ | .finding _ | .state _ | .status _ | .invalid => s

/-- REPORT_FRAME_TAKEN: the FINDING, STATE or STATUS frame at the front of the inbound queue is taken and dropped
without effect (R95). -/
def execReportFrameTaken (s : State) : Host.Outcome State Fault Refusal :=
  s.whenLive fun s =>
    match s.frontFrame with
    | none => s
    | some f =>
      match f.body with
      | .finding _ | .state _ | .status _ => s.popInbound
      | .command _ | .cut | .event _ | .next | .invalid => s

/-- CLOSE_PULSE_END: after 4 bit times the close pulse ends, and the drive follows the release conditions (R105).
DEDUCED: notes/assumptions/27.md. -/
def execClosePulseEnd (s : State) : Host.Outcome State Fault Refusal :=
  s.whenLive fun s => { s with pu.closePulse := false }.refreshDrive

/-- PACE_TIME_MET: the pace timer has counted up to the pace time, and the drive follows (R105, R115, R116).
DESIGN CHOICE: notes/assumptions/4.md. -/
def execPaceTimeMet (s : State) : Host.Outcome State Fault Refusal :=
  s.whenLive fun s =>
    { s with pu.paceTimer := max s.pu.paceTimer (min s.paceTime Config.maxPaceTimer) }.refreshDrive

/-- The phase after BHL rises (R107, R108). -/
def State.rise (s : State) : State :=
  if s.rc.mode.replaying && s.pu.drive == .released then s.enterEmit else s

/-- BHL_RISE: an engine PAUSED or RUNNING that releases the line and sees it rise enters EMIT from GATHER and from
SUSPENDED (R107, R108). While the engine drives the line it cannot rise. -/
def execBhlRise (s : State) : Host.Outcome State Fault Refusal :=
  s.whenLive fun s => s.rise.refreshDrive

/-- BHL_DOMINANT_READ: an engine in EMIT that reads BHL dominant enters SUSPENDED (R108). -/
def execBhlDominantRead (s : State) : Host.Outcome State Fault Refusal :=
  s.whenLive fun s => (s.suspendOn .dominant).refreshDrive

/-- REFERENCE_LOST: after 10 µs without a reference edge the timebase falls back to INTERNAL (R117, R119). -/
def execReferenceLost (s : State) : Host.Outcome State Fault Refusal :=
  s.whenLive fun s =>
    match s.pu.timebase with
    | .reference => { s with pu.timebase := .internal }.placeStatus
    | .internal => s

/-- REFERENCE_RESTORED: after 10 ms of continuous reference edges the timebase returns to REFERENCE (R118, R119). -/
def execReferenceRestored (s : State) : Host.Outcome State Fault Refusal :=
  s.whenLive fun s =>
    match s.pu.timebase with
    | .internal => { s with pu.timebase := .reference }.placeStatus
    | .reference => s

/-- One microsecond of wall time with no command waiting: the pace timer counts, in every mode, and saturates (R115).
DESIGN CHOICE (notes/assumptions/4.md): this is what a step does on an empty queue. -/
def State.tick (s : State) : State :=
  if s.inReset then s
  else { s with pu.paceTimer := min Config.maxPaceTimer (s.pu.paceTimer + 1) }.refreshDrive

end Sys2Proof.Machine
end

