-- ==== Sys2Proof/Machine/Commands.lean ====
section
/-! DEFINITION. The console commands that Replay Control takes, SEEK, HALT and RELEASE apart (R113, R132, R156, R157,
R163, R169). Each takes the COMMAND frame at the front of the inbound queue. -/

namespace Sys2Proof.Machine

/-- RUN (R113, R163): ignored in STANDBY and ENDED. -/
def State.doRun (s : State) : State :=
  match s.rc.mode with
  | .seeking => { s with rc.modeAfterSeek := .running, pu.budget := .unlimited }
  | .paused => { s with rc.mode := .running, pu.budget := .unlimited }
  | .running => { s with pu.budget := .unlimited, pu.pausePending := false }
  | .loading | .faulted | .standby | .ended | .withdrawn => s

/-- RUN: the frame is taken and acted on (R113, R163). -/
def execRun (s : State) : Host.Outcome State Fault Refusal :=
  s.whenLive fun s =>
    match s.frontCommand 1 with
    | some _ => s.popInbound.doRun.refreshDrive
    | none => s

/-- PAUSE (R113, R114, R163): at once in GATHER, pending in EMIT and SUSPENDED. -/
def State.doPause (s : State) : State :=
  match s.rc.mode with
  | .seeking => { s with rc.modeAfterSeek := .paused }
  | .running =>
    match s.pu.phase with
    | .gather => { s with rc.mode := .paused }
    | .emit | .suspended => { s with pu.pausePending := true }
  | .paused | .loading | .faulted | .standby | .ended | .withdrawn => s

/-- PAUSE: the frame is taken and acted on (R113, R114, R163). -/
def execPause (s : State) : Host.Outcome State Fault Refusal :=
  s.whenLive fun s =>
    match s.frontCommand 2 with
    | some _ => s.popInbound.doPause.refreshDrive
    | none => s

/-- STEP(n) (R113, R163): ignored in STANDBY and ENDED. -/
def State.doStep (s : State) (n : Nat) : State :=
  match s.rc.mode with
  | .seeking => { s with rc.modeAfterSeek := .running, pu.budget := .epochs n }
  | .paused => { s with rc.mode := .running, pu.budget := .epochs n }
  | .running => { s with pu.budget := .epochs n, pu.pausePending := false }
  | .loading | .faulted | .standby | .ended | .withdrawn => s

/-- STEP: the frame is taken and acted on (R113, R156, R163). -/
def execStep (s : State) : Host.Outcome State Fault Refusal :=
  s.whenLive fun s =>
    match s.frontCommand 3 with
    | some a => (s.popInbound.doStep (stepArg a)).refreshDrive
    | none => s

/-- EPOCH: the epoch span is set; the current window is left as it stands (R157). -/
def execEpoch (s : State) : Host.Outcome State Fault Refusal :=
  s.whenLive fun s =>
    match s.frontCommand 6 with
    | some a => { s.popInbound with pu.span := epochArg a }
    | none => s

/-- RATE: the pace factor is set, and the pace test is made again at once (R116, R157). -/
def execRate (s : State) : Host.Outcome State Fault Refusal :=
  s.whenLive fun s =>
    match s.frontCommand 7 with
    | some a => { s.popInbound with pu.pace := rateArg a }.refreshDrive
    | none => s

/-- QUERY(d) (R132): d joins the reply list when it is held as OWNED and is not in the list. A number above 65,534
finds no entry (R170). -/
def Dst.query (d : Dst) (n : Nat) : Dst :=
  if n ≤ 65534 then
    match d.find (BitVec.ofNat 16 n) with
    | none => d
    | some dev =>
      if dev.role == .owned && !d.replies.contains dev.number then { d with replies := d.replies ++ [dev.number] }
      else d
  else d

/-- QUERY: the frame is taken and passed to the DST (R132). -/
def execQuery (s : State) : Host.Outcome State Fault Refusal :=
  s.whenLive fun s =>
    match s.frontCommand 9 with
    | some a => { s.popInbound with dst := s.dst.query a.numeric.toNat }
    | none => s

/-- A station argument names this engine, or ALL (R156, R169, Table 11-6). -/
def State.named (s : State) (a : CommandBody) : Bool :=
  a.station.toNat == s.straps.station.toNat || a.station == 63#6

/-- POLL: the frame is taken; a POLL that names the engine or ALL places a STATUS pending (R169). -/
def execPoll (s : State) : Host.Outcome State Fault Refusal :=
  s.whenLive fun s =>
    match s.frontCommand 10 with
    | some a => if s.named a then s.popInbound.placeStatus else s.popInbound
    | none => s

/-- The frame is a COMMAND whose code the engine does not define (R156, Table 11-7). -/
def undefinedCommandFrame (f : Frame) : Bool :=
  match f.body with
  | .command _ => commandCode f == 0 || decide (10 < commandCode f)
  | .cut | .event _ | .next | .finding _ | .state _ | .status _ | .invalid => false

/-- UNDEFINED_COMMAND: the frame is taken and ignored (R156). -/
def execUndefinedCommand (s : State) : Host.Outcome State Fault Refusal :=
  s.whenLive fun s =>
    match s.frontFrame with
    | some f => if undefinedCommandFrame f then s.popInbound else s
    | none => s

end Sys2Proof.Machine
end

