-- ==== Sys2Proof/Machine/Dispatch.lean ====
section
/-! DEFINITION. What each command does: one arm per command. -/

namespace Sys2Proof.Machine

def exec (i : Instr) (s : State) : Host.Outcome State Fault Refusal :=
  match i with
  | .powerOnReset => Sys2Proof.Machine.execPowerOnReset s
  | .pinReset => Sys2Proof.Machine.execPinReset s
  | .resetEnd straps referenceEdge => Sys2Proof.Machine.execResetEnd straps referenceEdge s
  | .loadSlotAnswer words => Sys2Proof.Machine.execLoadSlotAnswer words s
  | .archiveReadTimeout => Sys2Proof.Machine.execArchiveReadTimeout s
  | .laneVisitStart => Sys2Proof.Machine.execLaneVisitStart s
  | .laneSlotAnswer words => Sys2Proof.Machine.execLaneSlotAnswer words s
  | .checkpointSlotAnswer words => Sys2Proof.Machine.execCheckpointSlotAnswer words s
  | .joinOnClose => Sys2Proof.Machine.execJoinOnClose s
  | .joinIdleExpiry => Sys2Proof.Machine.execJoinIdleExpiry s
  | .openCondition line => Sys2Proof.Machine.execOpenCondition line s
  | .arbitrationComplete others => Sys2Proof.Machine.execArbitrationComplete others s
  | .stretchEnd line => Sys2Proof.Machine.execStretchEnd line s
  | .bitError => Sys2Proof.Machine.execBitError s
  | .abortConditionHeard => Sys2Proof.Machine.execAbortConditionHeard s
  | .busAbandonTimeout => Sys2Proof.Machine.execBusAbandonTimeout s
  | .frameAccepted heard => Sys2Proof.Machine.execFrameAccepted heard s
  | .frameVetoed heard => Sys2Proof.Machine.execFrameVetoed heard s
  | .cutTaken => Sys2Proof.Machine.execCutTaken s
  | .eventTaken => Sys2Proof.Machine.execEventTaken s
  | .nextTaken => Sys2Proof.Machine.execNextTaken s
  | .reportFrameTaken => Sys2Proof.Machine.execReportFrameTaken s
  | .run => Sys2Proof.Machine.execRun s
  | .pause => Sys2Proof.Machine.execPause s
  | .step => Sys2Proof.Machine.execStep s
  | .seek => Sys2Proof.Machine.execSeek s
  | .halt => Sys2Proof.Machine.execHalt s
  | .epoch => Sys2Proof.Machine.execEpoch s
  | .rate => Sys2Proof.Machine.execRate s
  | .release => Sys2Proof.Machine.execRelease s
  | .query => Sys2Proof.Machine.execQuery s
  | .poll => Sys2Proof.Machine.execPoll s
  | .undefinedCommand => Sys2Proof.Machine.execUndefinedCommand s
  | .closePulseEnd => Sys2Proof.Machine.execClosePulseEnd s
  | .paceTimeMet => Sys2Proof.Machine.execPaceTimeMet s
  | .bhlRise => Sys2Proof.Machine.execBhlRise s
  | .bhlDominantRead => Sys2Proof.Machine.execBhlDominantRead s
  | .referenceLost => Sys2Proof.Machine.execReferenceLost s
  | .referenceRestored => Sys2Proof.Machine.execReferenceRestored s
  | .unacceptedFrameClose => Sys2Proof.Machine.execUnacceptedFrameClose s
  | .discardedAnswer => Sys2Proof.Machine.execDiscardedAnswer s

end Sys2Proof.Machine
end

