-- ==== Sys2Proof/Safety.lean ====
section
/-! DEFINITION. What a state of the engine is expected to satisfy always, in the terms the claims use: the bounds of
its queues and counts, the shape of its window, the hold line, the order of its merge queue, its device table, its
traps, and the place of every archive read. Before them, the situations in which the claims run a command. -/

namespace Sys2Proof.Machine

/-- The engine takes frames from its inbound queue, and `f` is at its front with `rest` behind it (R93, R95). -/
structure State.Takes (s : State) (f : Frame) (rest : List Frame) : Prop where
  live : s.inReset = false
  mode : s.rc.mode.takesFrames = true
  front : s.biu.inbound = f :: rest

/-- The frame is a COMMAND of a code, with its arguments (R156). -/
structure Frame.Commands (f : Frame) (code : Nat) (a : CommandBody) : Prop where
  body : f.body = .command a
  code : commandCode f = code

/-- Outside SEEKING, the slot that answers lane l's outstanding read is taken (R29, R31). -/
structure State.Answers (s : State) (l : Fin 16) : Prop where
  live : s.inReset = false
  mode : s.rc.mode ≠ .seeking
  silent : (s.lane l).silent = none
  request : ∃ n retry, s.afu.request = some { owner := .lane l, slot := n, retry := retry }

/-- The words on the port that bear the current tag, behind those already taken, begin with the eight words of slot
`d`, bytes 0 to 3 first, most significant byte first (R171). -/
def State.Brings (s : State) (words : List PortWord) (d : Slot) : Prop :=
  (s.afu.words ++ (words.filter fun w => w.echo == s.afu.atag).map PortWord.data).take 8 =
    (List.range 8).map fun i => d.extractLsb' (32 * (7 - i)) 32

/-- A silent replay that goes on whatever becomes of lane l: another lane, READY and below the seek time, keeps the
silent front waiting and the seek incomplete (R159, R161, R162). -/
structure State.SeekGoesOn (s : State) (l : Fin 16) : Prop where
  mode : s.rc.mode = .seeking
  checkpoint : s.afu.checkpoint = none
  other : ∃ m, m ≠ l ∧ (s.lane m).state = .ready ∧ (s.lane m).silent = none ∧
    (s.lane m).clock.lastCorrected < s.rc.seekTime

/-- A seek that stands as it is until something changes it: a checkpoint load in progress, or a silent replay in which a
lane is still read, and either the silent front is empty or it waits for that lane (R159, R161, R162). -/
def State.SeekWaits (s : State) : Prop :=
  s.afu.checkpoint ≠ none ∨
    ∃ m, ((s.lane m).state = .ready ∨ (s.lane m).state = .waiting) ∧
      ((∀ k, (s.lane k).silent = none) ∨
        (s.lane m).silent = none ∧ (s.lane m).clock.lastCorrected < s.rc.seekTime)

/-- A lane that the silent front does not wait for (R161). -/
def Lane.LetsTheFrontApply (x : Lane) (seekTime : Nat) : Prop :=
  x.silent ≠ none ∨ x.state = .disabled ∨ x.state = .passed ∨ x.state = .ended ∨ x.state = .lost ∨
    x.state = .stalled ∨ seekTime ≤ x.clock.lastCorrected

/-- The device entries once lane l's silent event has been applied to them (R125, R135). -/
def SilentEvent.appliedTo (e : SilentEvent) (l : Fin 16) (devices : List Device) : List Device :=
  devices.map fun d =>
    if d.number = e.device then
      { d.applyKind e.kind e.time with lastEvent := some { kind := e.kind, time := e.time, source := .lane l } }
    else d

/-- In SEEKING, the slot that answers lane l's outstanding read is taken, and the silent replay goes on (R29, R31). -/
structure State.AnswersInSeek (s : State) (l : Fin 16) : Prop where
  live : s.inReset = false
  seek : s.SeekGoesOn l
  silent : (s.lane l).silent = none
  request : ∃ n retry, s.afu.request = some { owner := .lane l, slot := n, retry := retry }

/-- The slot that answers lane l's outstanding read is taken, outside SEEKING or in a silent replay that goes on. -/
def State.AnswersLane (s : State) (l : Fin 16) : Prop :=
  s.Answers l ∨ s.AnswersInSeek l

/-- The two conditions in which the AFU makes visits (R24). -/
def State.MakesVisits (s : State) : Prop :=
  (s.rc.mode = .paused ∨ s.rc.mode = .running) ∧ s.pu.phase = .gather ∧ s.mq.cut ≠ .taken ∨
    s.rc.mode = .seeking ∧ s.afu.checkpoint = none

/-- The outstanding archive read is a lane's (R26). -/
def State.LaneReadOutstanding (s : State) : Prop :=
  ∃ r l, s.afu.request = some r ∧ r.owner = .lane l

/-- The visit in progress on a lane may read another slot after the one it takes: the visit count stays below the
lane's fetch width, and the AFU makes visits and has not ceased to since the read was issued (R24, R26). -/
def State.MayReadOn (s : State) (l : Fin 16) : Prop :=
  s.afu.visitCount + 1 < (s.lane l).fetchWidth ∧ s.MakesVisits ∧ s.afu.visitEnding = false

/-- Lane l's slot has been taken from state `s`, leaving the lane as `x`: READY, its visit goes on with the next slot
when it may; otherwise the visit ends and the rotation moves past the lane (R25, R26). No other lane has changed. -/
structure State.TakesSlot (s t : State) (l : Fin 16) (x : Lane) : Prop where
  goesOn : x.state = .ready → s.MayReadOn l →
    t.lane l = { x with state := .waiting } ∧ t.afu.rotation = s.afu.rotation ∧
      t.afu.request = some { owner := .lane l, slot := x.base + x.readPos, retry := false } ∧
      t.afu.atag = !s.afu.atag ∧ t.afu.aadr = BitVec.ofNat 27 (x.base + x.readPos)
  ends : ¬(x.state = .ready ∧ s.MayReadOn l) →
    t.lane l = x ∧ t.afu.rotation = l + 1 ∧ t.afu.request = none ∧ t.afu.atag = s.afu.atag ∧ t.afu.aadr = s.afu.aadr
  others : ∀ m, m ≠ l → t.lane m = s.lane m
  visitCount : t.afu.visitCount = s.afu.visitCount + 1
  kept : t.afu.directory = s.afu.directory ∧ t.afu.checkpoint = s.afu.checkpoint
  words : t.afu.words = []
  visitEnding : t.afu.visitEnding = false

/-- A finding has been raised: queued behind the others, or discarded and counted when eight are queued (R153, R154). -/
def Cku.Raises (before after : Cku) (f : Finding) : Prop :=
  if before.findings.length < 8 then after = { before with findings := before.findings ++ [f] }
  else after = { before with lostFindings := min 255 (before.lostFindings + 1) }

/-- Blocks that the taking of a lane's slot does not change while no seek completes and no silent event is applied: all
but the lanes and the port, the merge queue, the finding queue, and the drive of the hold line. -/
structure State.OnlyLanesAndQueues (s t : State) : Prop where
  inReset : t.inReset = s.inReset
  straps : t.straps = s.straps
  ccu : t.ccu = s.ccu
  biu : t.biu = s.biu
  pu : t.pu = { s.pu with drive := t.pu.drive }
  dst : t.dst = s.dst
  rc : t.rc = s.rc
  pending : t.pending = s.pending

/-- Every configured lane is PASSED, ENDED or LOST, or the engine's own cut is TAKEN (R104). -/
def State.Gathered (s : State) : Prop :=
  (∀ l, (s.lane l).state = .disabled ∨ (s.lane l).state = .passed ∨ (s.lane l).state = .ended ∨
    (s.lane l).state = .lost) ∨ s.mq.cut = .taken

/-- The pace timer is at least the pace time: at least sixteenths of p times the window, rounded up (R116). -/
def State.PaceTestMet (s : State) : Prop :=
  (s.pu.windowEnd - s.pu.windowStart) * s.pu.pace ≤ 16 * s.pu.paceTimer

/-- The engine is to drive BHL dominant: in SEEKING; in GATHER, PAUSED, or RUNNING until the close pulse is over, the
engine gathered with no lane TRAPPED, and the pace test met; in EMIT and SUSPENDED while a lane is TRAPPED or an
accepted NEXT waits (R103, Table 6-3, R105). -/
def State.HoldsLine (s : State) : Prop :=
  s.rc.mode = .seeking ∨ (s.rc.mode = .paused ∧ s.pu.phase = .gather) ∨
    (s.rc.mode = .running ∧ s.pu.phase = .gather ∧
      (s.pu.closePulse = true ∨ ¬s.Gathered ∨ (∃ l, (s.lane l).state = .trapped) ∨ ¬s.PaceTestMet)) ∨
    ((s.rc.mode = .paused ∨ s.rc.mode = .running) ∧ s.pu.phase ≠ .gather ∧
      ((∃ l, (s.lane l).state = .trapped) ∨ ∃ f ∈ s.biu.inbound, f.body = .next))

/-- The engine hears a frame through to its end: no transmitter, and the frame is of a valid class (R83, R92). -/
structure State.Hears (s : State) (h : HeardFrame) : Prop where
  live : s.inReset = false
  receiving : s.biu.state = .receiving
  outbound : s.biu.outbound = none
  valid : s.biu.discarding = false ∧ h.frame.body ≠ .invalid

/-- Lane `w` has inserted an event it held into `entries`, its read position then at `pos`, under a window from `start`
to `stop`: the hold gives the time, the entry takes the lane's count and its gap pending, and the lane is ENDED at its
slot count, PASSED at the window end, and READY otherwise (R35, R36, R50, R63). -/
structure State.Inserts (s t : State) (w : Fin 16) (e : HeldEvent) (pos start stop : Nat) (entries : List Entry) :
    Prop where
  lane : ∀ time, time = max e.unheld (max (s.lane w).clock.lastCorrected start) →
    t.lane w = { s.lane w with
      readPos := pos, held := none, trap := none, gap := none, insertions := (s.lane w).insertions + 1
      clock := { (s.lane w).clock with lastRaw := e.raw, lastCorrected := time }
      state := if (s.lane w).slotCount ≤ pos then .ended else if stop ≤ time then .passed else .ready }
  queue : ∀ time, time = max e.unheld (max (s.lane w).clock.lastCorrected start) →
    t.mq.entries = insertEntry
      { time := time, lane := w, laneSeq := (s.lane w).insertions, recorder := (s.lane w).recorder, slot := e.slot,
        device := e.device, kind := e.kind, rawStamp := e.rawStamp, tick := (s.lane w).clock.tick,
        quality := e.quality, held := decide (e.unheld < time) || e.clamped, gapBefore := (s.lane w).gap,
        released := false } entries

/-- A merge queue entry has been freed, leaving the queue as `entries`: every STALLED lane without a released record is
READY, and the lowest-numbered of those with one inserts it when an entry is free. Lanes in `apart` are not spoken of
(R38). -/
structure State.FreesEntry (s t : State) (entries : List Entry) (apart : Fin 16 → Prop) : Prop where
  stalled : ∀ l, ¬apart l → (s.lane l).state = .stalled → (∀ e, (s.lane l).held ≠ some (.released e)) →
    t.lane l = { s.lane l with state := .ready }
  others : ∀ l, ¬apart l → (s.lane l).state ≠ .stalled → t.lane l = s.lane l
  unclaimed : 256 ≤ entries.length ∨
      (∀ l e, (s.lane l).state = .stalled → (s.lane l).held ≠ some (.released e)) →
    t.mq.entries = entries ∧
      ∀ l e, (s.lane l).state = .stalled → (s.lane l).held = some (.released e) → t.lane l = s.lane l
  claimed : ∀ w e, entries.length < 256 → (s.lane w).state = .stalled → (s.lane w).held = some (.released e) →
    (∀ l g, l < w → (s.lane l).state = .stalled → (s.lane l).held ≠ some (.released g)) →
    s.Inserts t w e (s.lane w).readPos s.pu.windowStart s.pu.windowEnd entries ∧
      ∀ l g, w < l → (s.lane l).state = .stalled → (s.lane l).held = some (.released g) → t.lane l = s.lane l

/-- A configured lane as a seek sets it when no sub-record does (R20, R45). -/
def Lane.withoutSub (x : Lane) : Lane :=
  { x with
    readPos := 0, lastSeq := none, gap := none
    clock := { x.clock with
      offset := x.clock.nominalOffset, drift := x.clock.nominalDrift, referenceRaw := 0, markCount := 0, lastRaw := 0
      lastCorrected := 0, lastMarkOffset := x.clock.nominalOffset, lastMarkRaw := 0 }
    state := if x.slotCount = 0 then .ended else .ready }

/-- A configured lane as its lane sub-record sets it (R20). -/
def Lane.afterSub (x : Lane) (sub : LaneSub) : Lane :=
  { x with
    readPos := sub.nextSlot, lastSeq := sub.lastSeq, gap := if sub.gapPending then some 0 else none
    clock := { x.clock with
      offset := max (-549755813887) (min 549755813887 sub.offset), drift := max (-500000) (min 500000 sub.drift)
      referenceRaw := sub.referenceRaw, markCount := min 2 sub.markCount, lastRaw := sub.lastRaw
      lastCorrected := min sub.lastCorrected 1099511627774
      lastMarkOffset := max (-549755813887) (min 549755813887 sub.offset), lastMarkRaw := sub.referenceRaw }
    state := if sub.nextSlot < x.slotCount then .ready else .ended }

/-- A device entry as a seek sets it when no sub-record does (R21, R122). -/
def Device.withoutSub (x : Device) : Device :=
  { x with
    position := .unknown, lockout := false, pickup := false, travelStart := none, lastChange := none
    lastEvent := none, operations := 0, corroborations := 0 }

/-- A device entry as a device sub-record sets it (R21). -/
def Device.afterSub (x : Device) (sub : DeviceSub) : Device :=
  { x with
    position := sub.position, lockout := sub.lockout, pickup := sub.pickup
    travelStart := if sub.position = .travel then some sub.travelStart else none
    lastChange := none, lastEvent := none, operations := sub.operations, corroborations := 0 }

/-- Lane l as a checkpoint load with these lane sub-records, in record order, leaves it, after the test of R37 against
the window end: a configured lane is set by the first sub-record that names it, or as if no checkpoint existed, and a
READY lane whose last corrected time has reached the window end is PASSED (R20, R159). -/
def Lane.afterLoad (x : Lane) (subs : List LaneSub) (l : Fin 16) (windowEnd : Nat) : Lane :=
  if x.state = .disabled then x
  else
    let y := match subs.find? fun sub => sub.lane = l.val with
      | some sub => x.afterSub sub
      | none => x.withoutSub
    if y.state = .ready ∧ windowEnd ≤ y.clock.lastCorrected then { y with state := .passed } else y

/-- A checkpoint load goes on with the next slot of its record, its progress as `c` (R19). -/
structure State.CheckpointReads (s t : State) (c : CheckpointLoad) : Prop where
  port : t.afu = { s.afu with
    lanes := t.afu.lanes, checkpoint := some c
    request := some { owner := .checkpoint, slot := c.entry.slot + c.taken, retry := false }
    atag := !s.afu.atag, aadr := BitVec.ofNat 27 (c.entry.slot + c.taken), words := [] }
  kept : t.rc = s.rc ∧ t.mq.entries = s.mq.entries ∧ t.biu = s.biu ∧ t.cku = s.cku ∧ t.ccu = s.ccu
  cut : s.mq.cut = .absent → t.mq.cut = .absent
  drive : t.pu = { s.pu with drive := .dominant }

/-- A checkpoint load has ended with these sub-records, in record order: every configured lane and every device entry
is set, and the port is idle (R20, R21, R159). Without sub-records this is the end of an unusable checkpoint's load,
and of a seek without a checkpoint (R19, R134). -/
structure State.LoadSets (s t : State) (lanes : List LaneSub) (devices : List DeviceSub) : Prop where
  lanes : ∀ l, t.lane l = (s.lane l).afterLoad lanes l s.pu.windowEnd
  devices : t.dst = { s.dst with
    devices := s.dst.devices.map fun x =>
      match devices.find? fun sub => sub.device = x.number with
      | some sub => x.afterSub sub
      | none => x.withoutSub }
  port : t.afu = { s.afu with lanes := t.afu.lanes, checkpoint := none, request := none, words := [] }
  kept : t.mq.entries = s.mq.entries ∧ t.biu = s.biu ∧ t.cku = s.cku ∧ t.ccu = s.ccu

/-- The seek is complete: it ends in the mode-after-seek, in GATHER with a close pulse and the pace timer at 0, BHL
driven; SEEK_DEGRADED is as given (R105, R115, R120, R162). -/
structure State.SeekCompletes (s t : State) (degraded : Bool) : Prop where
  rc : t.rc = { s.rc with
    mode := match s.rc.modeAfterSeek with
      | .paused => .paused
      | .running => .running
    seekDegraded := degraded }
  pu : t.pu = { s.pu with phase := .gather, closePulse := true, paceTimer := 0, drive := .dominant }

/-- The silent events `events`, each with its lane, have been applied to the device table in their order, the silent front
is empty, and the seek is complete with its last visit on lane l (R135, R161, R162). -/
structure State.DrainsAndCompletes (s t : State) (l : Fin 16) (events : List (Fin 16 × SilentEvent)) : Prop where
  completes : s.SeekCompletes t s.rc.seekDegraded
  table : t.dst = { s.dst with
    devices := events.foldl (fun devices x => x.2.appliedTo x.1 devices) s.dst.devices }
  others : ∀ k, k ≠ l → t.lane k = { s.lane k with silent := none }
  port : t.afu.request = none ∧ t.afu.words = [] ∧ t.afu.rotation = l + 1 ∧ t.afu.visitEnding = false
  kept : t.biu = s.biu ∧ t.ccu = s.ccu

/-- The decision at the end of a checkpoint load (R159): with a usable checkpoint at exactly the seek time the seek
completes at once; otherwise SEEK_DEGRADED becomes set, and the seek goes on while some lane is READY. -/
structure State.SeekDecides (s t : State) (atSeekTime : Prop) : Prop where
  atTime : atSeekTime → s.SeekCompletes t s.rc.seekDegraded
  goesOn : ¬atSeekTime → (∃ l, (t.lane l).state = .ready) →
    t.rc = { s.rc with seekDegraded := true } ∧ t.pu = { s.pu with drive := .dominant }
  atOnce : ¬atSeekTime → (∀ l, (t.lane l).state ≠ .ready) → s.SeekCompletes t true

/-- A seek to a time has set the blocks, its load still to begin (R158). -/
structure State.SeekSetsBlocks (s u : State) (time : Nat) : Prop where
  rc : u.rc = { s.rc with mode := .seeking, modeAfterSeek := .paused, seekTime := time, seekDegraded := false }
  pu : u.pu = { s.pu with
    windowStart := time, windowEnd := min (time + s.pu.span) 1099511627775, phase := .gather
    pausePending := false, budget := .unlimited, drive := .dominant }
  mq : u.mq = { entries := [], cut := .absent }
  kept : u.biu = s.biu ∧ u.cku = s.cku ∧ u.dst = s.dst ∧ u.ccu = s.ccu
  port : u.afu = { s.afu with
    lanes := u.afu.lanes, rotation := 0, checkpoint := none, request := none, words := [], visitEnding := false }
  lanes : ∀ l, u.lane l =
    if (s.lane l).state = .disabled then s.lane l
    else { s.lane l with state := .ready, insertions := 0, held := none, trap := none, silent := none }

/-- A seek to a time has begun: the blocks are set, and the load of the latest checkpoint at or below the time has begun;
without one, lanes and device table are set as such a seek sets them, and the seek decides (R158, R159). -/
def State.Seeks (s t : State) (time : Nat) : Prop :=
  ∃ u : State, s.SeekSetsBlocks u time ∧
    (∀ (e : DirEntry) (earlier later : List DirEntry), s.afu.directory = earlier ++ e :: later → e.time ≤ time →
      (∀ x ∈ later, time < x.time) →
      t = { u with
        afu.checkpoint := t.afu.checkpoint
        afu.request := some { owner := .checkpoint, slot := e.slot, retry := false }
        afu.atag := !s.afu.atag
        afu.aadr := BitVec.ofNat 27 e.slot } ∧
      ∃ c, t.afu.checkpoint = some c ∧ c.entry = e ∧ c.taken = 0 ∧ c.firstSlot = none ∧ c.lanes = [] ∧
        c.devices = []) ∧
    ((∀ x ∈ s.afu.directory, time < x.time) →
      (∀ l, (s.lane l).state = .disabled → (s.lane l).held = none ∧ (s.lane l).silent = none) →
      u.LoadSets t [] [] ∧ u.SeekDecides t False)

/-- The entry for lane l's released record, when the lane leaves PASSED for a window from `start` to `stop` (R37). -/
def State.resumed (s : State) (start stop : Nat) (l : Fin 16) : Option Entry :=
  match (s.lane l).state, (s.lane l).held with
  | .passed, some (.released e) =>
    if (s.lane l).clock.lastCorrected < stop then
      let time := max e.unheld (max (s.lane l).clock.lastCorrected start)
      some
        { time := time, lane := l, laneSeq := (s.lane l).insertions, recorder := (s.lane l).recorder, slot := e.slot,
          device := e.device, kind := e.kind, rawStamp := e.rawStamp, tick := (s.lane l).clock.tick,
          quality := e.quality, held := decide (e.unheld < time) || e.clamped, gapBefore := (s.lane l).gap,
          released := false }
    else none
  | _, _ => none

/-- The entries of the released records that lanes leaving PASSED insert: in lane order, as many as are free (R37). -/
def State.resumedEntries (s : State) (start stop : Nat) : List Entry :=
  ((List.finRange 16).filterMap (s.resumed start stop)).take (256 - s.mq.entries.length)

/-- A start-up load that ends in FAULTED: no configuration is kept, and one STATUS is pending (R5, R6). -/
structure State.LoadFaults (t : State) (cause : FaultCause) : Prop where
  mode : t.rc.mode = .faulted
  cause : t.rc.faultCause = cause
  status : t.rc.statusPending = true
  ended : t.rc.load = none ∧ t.afu.request = none
  lanes : ∀ l, t.lane l = Lane.disabled
  table : t.dst = { devices := [], ranges := [], replies := [] }
  settings : t.ccu = { driftShift := 0, stepLimit := 0 } ∧ t.cku.tolerance = 0

/-- A start-up load that goes on with the read of a slot at a stage, its progress otherwise as `p` (R4). -/
structure State.LoadReads (s t : State) (p : LoadProgress) (stage : LoadStage) (slot : Nat) : Prop where
  mode : t.rc.mode = s.rc.mode ∧ t.rc.faultCause = s.rc.faultCause
  load : t.rc.load = some { p with stage := stage }
  port : t.afu = { s.afu with
    request := some { owner := .load, slot := slot, retry := false }, atag := !s.afu.atag
    aadr := BitVec.ofNat 27 slot, words := [] }
  kept : t.ccu = s.ccu ∧ t.mq = s.mq ∧ t.biu = s.biu ∧ t.dst = s.dst ∧ t.cku = s.cku

/-- A start-up load that ends in STANDBY, with what the valid station block `p` gives: lanes, clock models and masks,
device table and ranges, settings and directory copy (R6, R7, R11, R12, R23, R45, R122). -/
structure State.LoadEnds (s t : State) (p : LoadProgress) : Prop where
  mode : t.rc.mode = .standby ∧ t.rc.faultCause = s.rc.faultCause
  status : t.rc.statusPending = true
  ended : t.rc.load = none ∧ t.afu.request = none
  queue : t.mq = { entries := [], cut := .absent }
  directory : t.afu.directory = p.directory
  table : t.dst = { s.dst with devices := p.devices, ranges := p.ranges }
  settings : t.ccu = { driftShift := p.header.driftShift, stepLimit := p.header.stepLimit } ∧
    t.cku = { s.cku with tolerance := p.header.tolerance }
  lanes : ∀ l : Fin 16, match p.lanes[l.val]? with
    | none => t.lane l = Lane.disabled
    | some c => t.lane l =
        { state := if c.slotCount = 0 then .ended else .ready, base := c.base, slotCount := c.slotCount
          fetchWidth := c.fetchWidth, recorder := c.recorder, readPos := 0, lastSeq := none, gap := none
          insertions := 0, held := none, mask := c.mask, trap := none, silent := none
          clock :=
            { tick := c.tick, lambda := c.lambda, nominalOffset := c.nominalOffset, nominalDrift := c.nominalDrift
              offset := c.nominalOffset, drift := c.nominalDrift, referenceRaw := 0, markCount := 0, lastRaw := 0
              lastCorrected := 0, lastMarkOffset := c.nominalOffset, lastMarkRaw := 0 } }

/-- How a start-up load goes on after check 7: by the directory's count and place (check 8), to its first slot, to the
end of a block without a directory, or to BAD_DIRECTORY (R4, R12, R13; notes/assumptions/42.md). -/
def State.AfterCheckSeven (s t : State) (p : LoadProgress) : Prop :=
  if 4096 < p.header.directoryCount then t.LoadFaults .badDirectory
  else if p.header.directoryCount = 0 then s.LoadEnds t p
  else if stationBlock s.straps.archiveSize < p.header.directoryBase + (p.header.directoryCount + 1) / 2 then
    t.LoadFaults .badDirectory
  else s.LoadReads t p (.directory 0) p.header.directoryBase

/-- How a start-up load goes on after the device list: by the range count, to BAD_RANGE, the range slot, or the
directory (R4, R5, R10). -/
def State.AfterDeviceList (s t : State) (p : LoadProgress) : Prop :=
  if 4 < p.header.rangeCount then t.LoadFaults .badRange
  else if p.header.rangeCount = 0 then s.AfterCheckSeven t p
  else s.LoadReads t p .ranges (stationBlock s.straps.archiveSize + 17)

/-- The engine has withdrawn: its window, span, pace and budget stay, its lanes keep everything but silent events, its
merge queue and findings stay, and one STATUS is pending (R98, R42, R120). -/
structure State.Withdraws (s t : State) : Prop where
  rc : t.rc = { s.rc with mode := .withdrawn, statusPending := true }
  biu : t.biu = { s.biu with
    state := .idle, outbound := none, inbound := [], vetoCount := 0, failureCount := 0 }
  pu : t.pu = { s.pu with phase := .gather, pausePending := false, drive := .released }
  port : t.afu = { s.afu with
    lanes := t.afu.lanes, request := none, words := [], checkpoint := none, visitEnding := false }
  lanes : ∀ l, t.lane l = { s.lane l with silent := none }
  mq : t.mq = { s.mq with cut := .absent }
  dst : t.dst = { s.dst with replies := [] }
  cku : t.cku = s.cku

/-- Every queue keeps to its capacity and every saturating count to its range (R64, R94, R96, R97, R115, R153, R154). -/
structure State.WithinBounds (s : State) : Prop where
  entries : s.mq.entries.length ≤ 256
  inbound : s.biu.inbound.length ≤ 16
  vetoes : s.biu.vetoCount ≤ 8
  failures : s.biu.failureCount ≤ 16
  findings : s.cku.findings.length ≤ 8
  lostFindings : s.cku.lostFindings ≤ 255
  paceTimer : s.pu.paceTimer ≤ 16777215

/-- The window is never empty, never wider than 1,000,000 µs, and within the study scale, and the epoch span is within
its range (R101, R102). -/
structure State.WindowSound (s : State) : Prop where
  startBelowEnd : s.pu.windowStart < s.pu.windowEnd
  width : s.pu.windowEnd ≤ s.pu.windowStart + 1000000
  top : s.pu.windowEnd ≤ 1099511627775
  spanLow : 10 ≤ s.pu.span
  spanHigh : s.pu.span ≤ 1000000

/-- The archive port serves one owner, the one the mode allows, it holds fewer than eight words and none without a
request, nothing is in progress during a reset, and a lane's read outlasts the condition for visits only in a visit that
ends with it (R3, R4, R19, R24, R26, R28, R171). -/
structure State.PortSound (s : State) : Prop where
  loading : s.rc.load.isSome = true → s.rc.mode = .loading
  seeking : s.afu.checkpoint.isSome = true → s.rc.mode = .seeking
  forLoad : ∀ r, s.afu.request = some r → r.owner = .load → s.rc.load.isSome = true
  forCheckpoint : ∀ r, s.afu.request = some r → r.owner = .checkpoint → s.afu.checkpoint.isSome = true
  forLane : ∀ r l, s.afu.request = some r → r.owner = .lane l →
    (s.lane l).state = .waiting ∧
      (s.rc.mode = .seeking ∨ s.rc.mode = .paused ∨ s.rc.mode = .running ∨ s.rc.mode = .ended)
  words : s.afu.words.length < 8 ∧ (s.afu.request = none → s.afu.words = [])
  visits : ∀ r l, s.afu.request = some r → r.owner = .lane l → s.MakesVisits ∨ s.afu.visitEnding = true
  ending : s.afu.visitEnding = true → ∃ r l, s.afu.request = some r ∧ r.owner = .lane l
  resting : s.inReset = true →
    s.rc.mode = .loading ∧ s.rc.load = none ∧ s.afu.checkpoint = none ∧ s.afu.request = none

/-- The engine drives BHL exactly when its mode, its phase and its other inputs call for it (R103, R105), and outside
RUNNING the phase is GATHER (R101, R113). -/
structure State.HoldLineSound (s : State) : Prop where
  drive : s.pu.drive = .dominant ↔ s.HoldsLine
  phase : s.rc.mode ≠ .running → s.pu.phase = .gather

/-- The merge queue stands in ascending order of key, no two entries share lane and lane sequence, and every lane
sequence in it was given by its lane's insertion count (R36, R64). -/
structure State.QueueOrdered (s : State) : Prop where
  ascending : s.mq.entries.Pairwise fun a b => a.key.before b.key = true
  distinct : s.mq.entries.Pairwise fun a b => ¬(a.lane = b.lane ∧ a.laneSeq = b.laneSeq)
  counted : ∀ e ∈ s.mq.entries, e.laneSeq < (s.lane e.lane).insertions

/-- A device entry keeps its counts in range, and has a travel start exactly while its position is TRAVEL (R121,
R127). -/
structure Device.Sound (d : Device) : Prop where
  operations : d.operations ≤ 65535
  corroborations : d.corroborations ≤ 255
  travel : d.travelStart.isSome = true ↔ d.position = .travel

/-- A list of device entries fit to be the device table (R121). -/
structure SoundDevices (devices : List Device) : Prop where
  capacity : devices.length ≤ 1024
  distinct : devices.Pairwise fun a b => a.number ≠ b.number
  each : ∀ d ∈ devices, d.Sound

/-- The device table is sound, so are the entries a start-up load has accepted and the sub-records a checkpoint load
has read, and no number stands twice in the reply list (R9, R19, R121, R131). -/
structure State.TableSound (s : State) : Prop where
  table : SoundDevices s.dst.devices
  replies : s.dst.replies.Nodup
  loading : ∀ p, s.rc.load = some p → SoundDevices p.devices
  staged : ∀ c, s.afu.checkpoint = some c → ∀ sub ∈ c.devices, sub.operations ≤ 65535

/-- What a lane holds fits its state (R148): it has a trap record exactly while TRAPPED; trapped at fetch it holds the
trapped item; trapped at winning it holds no item but its entry; otherwise it holds at most a released record, and
that only while STALLED or PASSED. -/
structure Lane.TrapSound (x : Lane) : Prop where
  trapped : x.state = .trapped ↔ x.trap.isSome = true
  fetch : ∀ g, x.trap = some (.fetch g) → x.held.isSome = true ∧ x.releasedRecord = none
  winning : ∀ k b, x.trap = some (.winning k b) → x.held = none
  free : x.trap = none →
    x.held = none ∨ (x.releasedRecord.isSome = true ∧ (x.state = .stalled ∨ x.state = .passed))

/-- Every lane's trap is sound, and in LOADING, STANDBY and SEEKING no lane is trapped or holds an item (R40, R41,
R148, R149). -/
structure State.TrapsSound (s : State) : Prop where
  each : ∀ l, (s.lane l).TrapSound
  clear : s.rc.mode = .loading ∨ s.rc.mode = .standby ∨ s.rc.mode = .seeking →
    ∀ l, (s.lane l).held = none ∧ (s.lane l).trap = none

/-- A lane that will read again has a slot left to read (R18, R36): READY or WAITING; STALLED or PASSED without a
released record; trapped at fetch; or trapped at winning from a state that its release makes READY. -/
structure Lane.HasSlot (x : Lane) : Prop where
  reading : x.state = .ready ∨ x.state = .waiting → x.readPos < x.slotCount
  resting : x.state = .stalled ∨ x.state = .passed → x.releasedRecord = none → x.readPos < x.slotCount
  fetch : ∀ g, x.trap = some (.fetch g) → x.readPos < x.slotCount
  winning : ∀ k b, x.trap = some (.winning k b) → b ≠ .ended → b ≠ .lost → x.readPos < x.slotCount

/-- A start-up load reads and accepts only what lies within the record area, whose slots number `area` (R5, R8, R13). -/
structure LoadProgress.Sound (p : LoadProgress) (area : Nat) : Prop where
  lanes : p.header.laneCount ≤ 16
  regions : ∀ c ∈ p.lanes, c.base + c.slotCount ≤ area
  devices : ∀ i, p.stage = .devices i → p.header.deviceCount ≤ 4096
  directory : ∀ i, p.stage = .directory i → p.header.directoryBase + (p.header.directoryCount + 1) / 2 ≤ area
  entries : ∀ e ∈ p.directory, e.slot < area

/-- Every archive read the engine issues is for a slot of the archive (R1), because regions, directory and checkpoint
lie within the record area and no lane reads past its region. -/
structure State.ReadsSound (s : State) : Prop where
  request : ∀ r, s.afu.request = some r → r.slot < archiveSlots s.straps.archiveSize ∧ s.afu.aadr.toNat = r.slot
  regions : ∀ l, (s.lane l).base + (s.lane l).slotCount ≤ stationBlock s.straps.archiveSize
  lanes : s.rc.mode.replaying = true ∨ (s.rc.mode = .seeking ∧ s.afu.checkpoint = none) → ∀ l, (s.lane l).HasSlot
  configured : ∀ e ∈ s.mq.entries, (s.lane e.lane).configured = true
  directory : ∀ e ∈ s.afu.directory, e.slot < stationBlock s.straps.archiveSize
  checkpoint : ∀ c, s.afu.checkpoint = some c → c.entry.slot < stationBlock s.straps.archiveSize ∧
    (c.taken ≠ 0 → c.entry.slot + c.slots ≤ stationBlock s.straps.archiveSize)
  loading : ∀ p, s.rc.load = some p → p.Sound (stationBlock s.straps.archiveSize)
  empty : s.inReset = true → s.afu.directory = [] ∧ ∀ l, s.lane l = Lane.disabled

end Sys2Proof.Machine
end

