-- ==== Sys2Proof/Certificates/Slice0/Obligations.lean ====
section
/-! DEFINITION. The statements for the provers. -/

open Sys2Proof Sys2Proof.Machine

/-! The machine. -/

/-- One step runs the command at the front of the queue on the state with the queue's rest. The queue is the model's own
(notes/assumptions/1.md). -/
def Obligations.StepRunsTheFrontCommand : Prop :=
  ∀ (c : Instr) (rest : List Instr) (s : State), s.pending = c :: rest →
    step s = exec c { s with pending := rest }

/-- On an empty queue a microsecond of wall time passes, and a reset in progress lets nothing happen: the model's
choice (notes/assumptions/4.md). -/
def Obligations.EmptyQueuePassesOneMicrosecond : Prop :=
  ∀ s : State, s.pending = [] →
    (s.inReset = true → step s = .next s) ∧
    (s.inReset = false →
      step s = .next { s with pu.paceTimer := min 16777215 (s.pu.paceTimer + 1) }.refreshDrive)

/-- Every command completes in every state, and none touches the commands that wait behind it. In a state that cannot see
a command, completing means changing nothing (notes/assumptions/5.md). -/
def Obligations.EveryCommandAnswersAndLeavesTheQueue : Prop :=
  ∀ (c : Instr) (s : State), ∃ t, exec c s = .next t ∧ t.pending = s.pending

/-! Resets. -/

/-- The values that R3 and the blocks' own rules give for a reset. -/
def Obligations.ResetLeavesTheValuesTheRulesGive : Prop :=
  (State.reset.rc.mode = .loading ∧ State.reset.rc.modeAfterSeek = .paused ∧ State.reset.rc.startCause = .powerOn ∧
    State.reset.rc.faultCause = .none ∧ State.reset.rc.configWarning = false ∧
    State.reset.rc.seekDegraded = false ∧ State.reset.rc.seekTime = 0 ∧ State.reset.rc.statusPending = false) ∧
  ((∀ l, (State.reset.lane l).state = .disabled ∧ (State.reset.lane l).held = none ∧
      (State.reset.lane l).trap = none ∧ (State.reset.lane l).silent = none) ∧
    State.reset.afu.rotation = 0 ∧ State.reset.afu.request = none ∧ State.reset.afu.atag = false) ∧
  (State.reset.mq.entries = [] ∧ State.reset.mq.cut = .absent) ∧
  (State.reset.biu.state = .joining ∧ State.reset.biu.inbound = [] ∧ State.reset.biu.vetoCount = 0 ∧
    State.reset.biu.failureCount = 0) ∧
  (State.reset.pu.windowStart = 0 ∧ State.reset.pu.windowEnd = 1000 ∧ State.reset.pu.span = 1000 ∧
    State.reset.pu.pace = 0 ∧ State.reset.pu.budget = .unlimited ∧ State.reset.pu.pausePending = false ∧
    State.reset.pu.phase = .gather ∧ State.reset.pu.drive = .released ∧ State.reset.pu.closePulse = false ∧
    State.reset.pu.paceTimer = 0) ∧
  (State.reset.dst.devices = [] ∧ State.reset.dst.ranges = [] ∧ State.reset.dst.replies = []) ∧
  (State.reset.cku.findings = [] ∧ State.reset.cku.lostFindings = 0)

/-- Both resets take every block to its reset values from any state, and record their start cause; a pin held during
a reset in progress leaves the start cause of that reset. The queue of commands is the model's own and stays. The
pin reset during a reset follows notes/assumptions/30.md, and the values that no rule gives follow 3.md. -/
def Obligations.ResetsReturnEveryBlockToItsResetValues : Prop :=
  ∀ s : State,
    exec .powerOnReset s = .next { State.reset with pending := s.pending } ∧
    exec .pinReset s =
      .next { State.reset with
        rc.startCause := if s.inReset then s.rc.startCause else .pin
        pending := s.pending }

/-- While the engine remains in reset, no command but a reset or the end of the reset changes it. That a command
then changes nothing is the model's choice (notes/assumptions/5.md). -/
def Obligations.AResetInProgressHoldsTheEngine : Prop :=
  ∀ (c : Instr) (s : State), s.inReset = true → c ≠ .powerOnReset → c ≠ .pinReset →
    (∀ straps edge, c ≠ .resetEnd straps edge) → exec c s = .next s

/-- The end of a reset samples the straps and the timebase, and the start-up load reads the header slot of the station
block. -/
def Obligations.ResetEndSamplesStrapsAndReadsTheHeader : Prop :=
  ∀ (straps : Straps) (edge : Bool) (s : State), s.inReset = true →
    ∃ t, exec (.resetEnd straps edge) s = .next t ∧ t.inReset = false ∧ t.straps = straps ∧
      t.pu = { s.pu with timebase := if edge then .reference else .internal } ∧
      t.afu = { s.afu with
        request := some { owner := .load, slot := stationBlock straps.archiveSize, retry := false }
        atag := !s.afu.atag
        aadr := BitVec.ofNat 27 (stationBlock straps.archiveSize)
        words := [] } ∧
      (∃ p, t.rc = { s.rc with load := some p } ∧ p.stage = .header ∧ p.lanes = [] ∧ p.devices = [] ∧
        p.ranges = [] ∧ p.directory = []) ∧
      t.ccu = s.ccu ∧ t.mq = s.mq ∧ t.biu = s.biu ∧ t.dst = s.dst ∧ t.cku = s.cku ∧ t.pending = s.pending

/-! The start-up load. -/

/-- The header slot: k is adjusted, checks 1 and 2 are made in that order, and a header that passes them leads to
the first lane entry's slot. That the adjustment stands when a check fails follows notes/assumptions/24.md; the
settings that a failed check leaves 26.md; that every word under the tag is the header's 41.md. -/
def Obligations.HeaderSlotPassesChecksOneAndTwo : Prop :=
  ∀ (words : List PortWord) (d : Slot) (s : State) (p : LoadProgress) (n : Nat) (retry : Bool), s.inReset = false →
    s.Brings words d → s.afu.request = some { owner := .load, slot := n, retry := retry } → s.rc.load = some p →
    p.stage = .header →
    ∃ t, exec (.loadSlotAnswer words) s = .next t ∧
      t.rc.configWarning = (s.rc.configWarning || decide (4 < natAt d 10 1)) ∧
      (natAt d 0 4 ≠ 0x640 → t.LoadFaults .badFormat) ∧
      (natAt d 0 4 = 0x640 → (natAt d 4 1 = 0 ∨ 16 < natAt d 4 1) → t.LoadFaults .badLaneCount) ∧
      (natAt d 0 4 = 0x640 → 1 ≤ natAt d 4 1 → natAt d 4 1 ≤ 16 →
        s.LoadReads t { p with
          header :=
            { laneCount := natAt d 4 1, deviceCount := natAt d 5 2, rangeCount := natAt d 7 1,
              tolerance := natAt d 8 2, driftShift := min 4 (natAt d 10 1), stepLimit := natAt d 11 3,
              directoryBase := natAt d 14 4, directoryCount := natAt d 18 2 } }
          (.lane 0) (stationBlock s.straps.archiveSize + 1))

/-- A lane entry: its values are adjusted, and checks 3 and 4 are made in that order. An entry that passes them leads
to the next lane entry's slot; the last one leads to check 5, that no two regions share a slot, then to check 6 and to
the first slot of the device list, or, without devices, to what follows the list. That the adjustments stand when a
check fails follows notes/assumptions/24.md; the settings that a failed check leaves 26.md; when the parts of check 8 are
made 42.md. -/
def Obligations.LaneEntryPassesChecksThreeAndFour : Prop :=
  ∀ (words : List PortWord) (d : Slot) (s : State) (p : LoadProgress) (i n : Nat) (retry : Bool), s.inReset = false →
    s.Brings words d → s.afu.request = some { owner := .load, slot := n, retry := retry } → s.rc.load = some p →
    p.stage = .lane i →
    ∃ t, exec (.loadSlotAnswer words) s = .next t ∧
      (t.rc.configWarning = true ↔
        s.rc.configWarning = true ∨ intAt d 15 5 < -549755813887 ∨ intAt d 20 4 < -500000 ∨ 500000 < intAt d 20 4 ∨
          natAt d 24 1 = 0 ∨ 8 < natAt d 24 1) ∧
      (3 < natAt d 12 1 → t.LoadFaults .badLaneEntry) ∧
      (natAt d 12 1 ≤ 3 → stationBlock s.straps.archiveSize < natAt d 4 4 + natAt d 8 4 → t.LoadFaults .badRegion) ∧
      (natAt d 12 1 ≤ 3 → natAt d 4 4 + natAt d 8 4 ≤ stationBlock s.straps.archiveSize →
        ∃ c : LaneConfig, c.recorder = bytesAt d 0 4 ∧ c.base = natAt d 4 4 ∧ c.slotCount = natAt d 8 4 ∧
          c.tick.code = natAt d 12 1 ∧ c.lambda = natAt d 13 2 ∧
          c.nominalOffset = max (-549755813887) (intAt d 15 5) ∧
          c.nominalDrift = max (-500000) (min 500000 (intAt d 20 4)) ∧
          c.fetchWidth = max 1 (min 8 (natAt d 24 1)) ∧
          (c.mask.group1 = .hold ↔ (bytesAt d 25 1).getLsbD 0 = true) ∧
          (c.mask.group2 = .hold ↔ (bytesAt d 25 1).getLsbD 1 = true) ∧
          (c.mask.group3 = .hold ↔ (bytesAt d 25 1).getLsbD 2 = true) ∧
          (c.mask.group4 = .hold ↔ (bytesAt d 25 1).getLsbD 3 = true) ∧
          (i + 1 < p.header.laneCount →
            s.LoadReads t { p with lanes := p.lanes ++ [c] } (.lane (i + 1))
              (stationBlock s.straps.archiveSize + (i + 2))) ∧
          (p.header.laneCount ≤ i + 1 → ∀ q, q = { p with lanes := p.lanes ++ [c] } →
            ((∃ (j k slot : Nat) (a b : LaneConfig), j < k ∧ q.lanes[j]? = some a ∧ q.lanes[k]? = some b ∧
                a.base ≤ slot ∧ slot < a.base + a.slotCount ∧ b.base ≤ slot ∧ slot < b.base + b.slotCount) →
              t.LoadFaults .regionOverlap) ∧
            ((∀ (j k slot : Nat) (a b : LaneConfig), j < k → q.lanes[j]? = some a → q.lanes[k]? = some b →
                ¬(a.base ≤ slot ∧ slot < a.base + a.slotCount ∧ b.base ≤ slot ∧ slot < b.base + b.slotCount)) →
              if 4096 < p.header.deviceCount then t.LoadFaults .badDeviceList
              else if p.header.deviceCount = 0 then s.AfterDeviceList t q
              else s.LoadReads t q (.devices 0) (stationBlock s.straps.archiveSize + 18))))

/-- The later parts of the station block. A device slot: each entry counted is accepted behind those before it, or
ignored with CONFIG_WARNING, for its number, its codes, a number already held, or a full table; the next device slot
follows, or what comes after the list. The range slot: every range as check 7 wants it, or BAD_RANGE. A directory slot:
every entry as R13 wants it, or BAD_DIRECTORY; the last ends the load in STANDBY with the accepted configuration in
place. That the parts of a valid block are set together follows notes/assumptions/25.md; the settings that a failed
check leaves 26.md; when the parts of check 8 are made 42.md. -/
def Obligations.LastDirectoryEntryEndsTheLoad : Prop :=
  ∀ (words : List PortWord) (d : Slot) (s : State) (p : LoadProgress) (n : Nat) (retry : Bool), s.inReset = false →
    s.Brings words d → s.afu.request = some { owner := .load, slot := n, retry := retry } → s.rc.load = some p →
    ∃ t, exec (.loadSlotAnswer words) s = .next t ∧
      (∀ i count devices, p.stage = .devices i → count = min 4 (p.header.deviceCount - 4 * i) →
        devices = (List.range count).foldl (fun table j =>
          if natAt d (8 * j) 2 = 0 ∨ natAt d (8 * j) 2 = 65535 ∨ 1 < natAt d (8 * j + 2) 1 ∨ 2 < natAt d (8 * j + 3) 1 ∨
              (∃ x ∈ table, x.number.toNat = natAt d (8 * j) 2) ∨ 1024 ≤ table.length then table
          else table ++ [
            { number := bytesAt d (8 * j) 2
              role := if natAt d (8 * j + 2) 1 = 0 then .owned else .watched
              cls := if natAt d (8 * j + 3) 1 = 0 then .breaker else if natAt d (8 * j + 3) 1 = 1 then .disconnector
                else .switch
              maxTravel := natAt d (8 * j + 4) 2, position := .unknown, lockout := false, pickup := false
              travelStart := none, lastChange := none, lastEvent := none, operations := 0, corroborations := 0 }])
          p.devices →
        (t.rc.configWarning = true ↔ s.rc.configWarning = true ∨ devices.length < p.devices.length + count) ∧
        (if 4 * (i + 1) < p.header.deviceCount then
          s.LoadReads t { p with devices := devices } (.devices (i + 1))
            (stationBlock s.straps.archiveSize + (18 + (i + 1)))
        else s.AfterDeviceList t { p with devices := devices })) ∧
      (∀ ranges, p.stage = .ranges →
        ranges = (List.range p.header.rangeCount).map (fun j =>
          { low := natAt d (8 * j) 2, high := natAt d (8 * j + 2) 2, mask := bytesAt d (8 * j + 4) 2 }) →
        t.rc.configWarning = s.rc.configWarning ∧
        (if ∀ r ∈ ranges, 1 ≤ r.low ∧ r.high ≤ 65534 ∧ r.low ≤ r.high then
          s.AfterCheckSeven t { p with ranges := ranges }
        else t.LoadFaults .badRange)) ∧
      (∀ i count entries, p.stage = .directory i → count = min 2 (p.header.directoryCount - 2 * i) →
        entries = (List.range count).map (fun j => { time := natAt d (16 * j) 5, slot := natAt d (16 * j + 5) 4 }) →
        t.rc.configWarning = s.rc.configWarning ∧
        (if (∀ e ∈ entries, e.time ≤ 1099511627774 ∧ e.slot < stationBlock s.straps.archiveSize) ∧
            (∀ e ∈ entries, ∀ x ∈ p.directory, x.time < e.time) ∧ entries.Pairwise (fun a b => a.time < b.time) then
          if 2 * (i + 1) < p.header.directoryCount then
            s.LoadReads t { p with directory := p.directory ++ entries } (.directory (i + 1))
              (p.header.directoryBase + (i + 1))
          else s.LoadEnds t { p with directory := p.directory ++ entries }
        else t.LoadFaults .badDirectory))

/-! Lanes and archive fetch. -/

/-- Where the AFU makes visits and the port is idle, the visit begins on the first lane from the rotation pointer upward,
wrapping, that is READY and holds no silent event, with the read for the slot at its read position; with no such lane
the AFU waits. In any other condition, and with a read outstanding, no visit begins. Whatever the command, a lane's
first read of a slot is issued only where the AFU makes visits: at the start of a visit on an idle port, or at the answer
to the lane's outstanding read, when the condition has not ceased since that was issued. That a change between PAUSED and
RUNNING is no such ceasing follows notes/assumptions/39.md. -/
def Obligations.VisitBeginsOnTheFirstReadyLane : Prop :=
  (∀ s : State, s.inReset = false → s.afu.request = none → s.MakesVisits →
    (∀ i l : Fin 16, l = s.afu.rotation + i → (s.lane l).state = .ready → (s.lane l).silent = none →
      (∀ k, k < i →
        ¬((s.lane (s.afu.rotation + k)).state = .ready ∧ (s.lane (s.afu.rotation + k)).silent = none)) →
      exec .laneVisitStart s = .next
        { s.setLane l { s.lane l with state := .waiting } with
          afu.visitCount := 0
          afu.visitEnding := false
          afu.request :=
            some { owner := .lane l, slot := (s.lane l).base + (s.lane l).readPos, retry := false }
          afu.atag := !s.afu.atag
          afu.aadr := BitVec.ofNat 27 ((s.lane l).base + (s.lane l).readPos)
          afu.words := [] }) ∧
    ((∀ l, ¬((s.lane l).state = .ready ∧ (s.lane l).silent = none)) → exec .laneVisitStart s = .next s)) ∧
  (∀ s : State, ¬s.MakesVisits ∨ s.afu.request ≠ none → exec .laneVisitStart s = .next s) ∧
  ∀ (c : Instr) (s t : State) (l : Fin 16) (n : Nat), exec c s = .next t →
    t.afu.request = some { owner := .lane l, slot := n, retry := false } →
    (t.afu.request = s.afu.request ∧ t.afu.atag = s.afu.atag) ∨
      s.MakesVisits ∧
        (c = .laneVisitStart ∧ s.afu.request = none ∨
          (∃ words m retry, c = .laneSlotAnswer words ∧
              s.afu.request = some { owner := .lane l, slot := m, retry := retry }) ∧
            s.afu.visitEnding = false)

/-- A first attempt that times out is issued again for the same slot, marked as a retry and with a changed tag, the
words already taken for it discarded; nothing else changes. On the port, while a read is outstanding, a word is taken
when its echo equals the tag, and fewer than eight words are kept and change nothing else, whichever block the read is
for; words of which none bears the tag, or that come without a request, change nothing, and no more does a discarded
answer. That a retry is made whatever the phase follows notes/assumptions/22.md; how the words reach an answer
command 33.md; that the tag alone decides, for the first read after a reset too, 41.md. -/
def Obligations.FirstTimeoutRetriesAndLateAnswersChangeNothing : Prop :=
  (∀ (s : State) (owner : ReadOwner) (n : Nat), s.inReset = false →
    s.afu.request = some { owner := owner, slot := n, retry := false } →
    exec .archiveReadTimeout s = .next { s with
      afu.request := some { owner := owner, slot := n, retry := true }
      afu.atag := !s.afu.atag
      afu.aadr := BitVec.ofNat 27 n
      afu.words := [] }) ∧
  (∀ (s : State) (words : List PortWord) (r : Request) (taken : List (BitVec 32)) (c : Instr), s.inReset = false →
    s.afu.request = some r → taken = s.afu.words ++ (words.filter fun w => w.echo == s.afu.atag).map PortWord.data →
    taken.length < 8 →
    (c = .loadSlotAnswer words ∧ r.owner = .load ∧ s.rc.load.isSome = true ∨
      c = .laneSlotAnswer words ∧ (∃ l, r.owner = .lane l) ∨
      c = .checkpointSlotAnswer words ∧ r.owner = .checkpoint ∧ s.afu.checkpoint.isSome = true) →
    exec c s = .next { s with afu.words := taken }) ∧
  (∀ (s : State) (words : List PortWord), s.afu.words.length < 8 →
    ((∀ w ∈ words, w.echo ≠ s.afu.atag) ∨ s.afu.request = none) →
    exec (.loadSlotAnswer words) s = .next s ∧ exec (.laneSlotAnswer words) s = .next s ∧
      exec (.checkpointSlotAnswer words) s = .next s) ∧
  ∀ s : State, exec .discardedAnswer s = .next s

/-- A retry of a lane's slot that times out loses the lane: it is LOST with all else kept, a LANE_LOST finding is
raised for the slot and the window start, and the visit ends; in SEEKING too. A retry of the start-up load that times
out ends the load at once in FAULTED with ARCHIVE_TIMEOUT: no lane is configured, the device table is empty, the
settings are gone, and one STATUS is pending; the window, the counts and the timebase stay. What the entry to FAULTED
keeps follows notes/assumptions/26.md. -/
def Obligations.SecondTimeoutLosesTheLaneOrFaultsTheLoad : Prop :=
  (∀ (s : State) (l : Fin 16) (n : Nat), s.inReset = false → s.rc.mode ≠ .seeking ∨ s.SeekGoesOn l →
    s.afu.request = some { owner := .lane l, slot := n, retry := true } →
    ∃ t, exec .archiveReadTimeout s = .next t ∧ t.lane l = { s.lane l with state := .lost } ∧
      (∀ m, m ≠ l → t.lane m = s.lane m) ∧
      t.afu = { s.afu with lanes := t.afu.lanes, request := none, words := [], rotation := l + 1, visitEnding := false } ∧
      t.mq.entries = s.mq.entries ∧
      s.cku.Raises t.cku
        { lane := l, group := 0, anomalies := {}, disposition := .laneLost, device := none,
          slot := (s.lane l).readPos, key := s.pu.windowStart } ∧
      s.OnlyLanesAndQueues t) ∧
  ∀ (s : State) (n : Nat), s.inReset = false → s.afu.request = some { owner := .load, slot := n, retry := true } →
    ∃ t, exec .archiveReadTimeout s = .next t ∧
      t.rc = { s.rc with mode := .faulted, faultCause := .archiveTimeout, statusPending := true, load := none } ∧
      (∀ l, t.lane l = Lane.disabled) ∧ t.afu.request = none ∧ t.mq.entries = [] ∧ t.mq.cut = .absent ∧
      t.dst = { devices := [], ranges := [], replies := [] } ∧
      t.cku = { s.cku with findings := [], tolerance := 0 } ∧ t.ccu = { driftShift := 0, stepLimit := 0 } ∧
      t.biu = { s.biu with inbound := [] } ∧
      t.pu = { s.pu with phase := .gather, pausePending := false, drive := .released } ∧
      t.straps = s.straps ∧ t.pending = s.pending

/-- An erased slot ends the lane and is not passed, and an EVENT that finds 256 entries stalls the lane and is left
entirely untaken, in a silent replay too. When the lane that stalls was the last that could insert, in the gather of an
engine PAUSED or RUNNING without a cut record, a cut becomes PENDING at the greater of the least last corrected time of
the lanes that hold the engine back and the window start plus 1, forced when that least time is at or below the window
start, for the lowest-numbered lane that has it. A PENDING cut is withdrawn when the lane that ends was the last that
held the engine back and no CUT of the engine's own waits in its inbound queue. The lane of a forced cut and the own
CUT that waits follow notes/assumptions/32.md and 12.md; a cut above the window end is as the formula has it, 40.md. -/
def Obligations.ErasedSlotEndsAndFullQueueStalls : Prop :=
  ∀ (words : List PortWord) (d : Slot) (s : State) (l : Fin 16), s.AnswersLane l → s.Brings words d →
    (d = BitVec.allOnes 256 →
      ∃ t, exec (.laneSlotAnswer words) s = .next t ∧ s.TakesSlot t l { s.lane l with state := .ended } ∧
        t.mq.entries = s.mq.entries ∧ t.cku = s.cku ∧ s.OnlyLanesAndQueues t ∧
        ∀ c forced, s.mq.cut = .pending c forced →
          t.mq.cut =
            if (∀ m, m ≠ l → (s.lane m).state = .disabled ∨ (s.lane m).state = .passed ∨ (s.lane m).state = .ended ∨
                (s.lane m).state = .lost) ∧
              (∀ f ∈ s.biu.inbound, f.body = .cut → f.station ≠ s.straps.station) then .absent
            else s.mq.cut) ∧
    (∀ device kind stamp seq, classify d = .event device kind stamp seq → 256 ≤ s.mq.entries.length →
      ∃ t, exec (.laneSlotAnswer words) s = .next t ∧ s.TakesSlot t l { s.lane l with state := .stalled } ∧
        t.mq.entries = s.mq.entries ∧ t.cku = s.cku ∧ s.OnlyLanesAndQueues t ∧
        ((s.rc.mode = .paused ∨ s.rc.mode = .running) → s.pu.phase = .gather → s.mq.cut = .absent →
          ((∃ m, m ≠ l ∧ ((s.lane m).state = .ready ∨ (s.lane m).state = .waiting)) → t.mq.cut = .absent) ∧
          ((∀ m, m ≠ l → (s.lane m).state ≠ .ready ∧ (s.lane m).state ≠ .waiting) →
            ∀ (w : Fin 16) (least : Nat), least = (s.lane w).clock.lastCorrected →
              (w = l ∨ (s.lane w).state = .stalled ∨ (s.lane w).state = .trapped) →
              (∀ m, m = l ∨ (s.lane m).state = .stalled ∨ (s.lane m).state = .trapped →
                least ≤ (s.lane m).clock.lastCorrected ∧ (m < w → least < (s.lane m).clock.lastCorrected)) →
              t.mq.cut = .pending (max least (s.pu.windowStart + 1))
                (if least ≤ s.pu.windowStart then some w else none))))

/-- The fields of a slot, most significant byte first, and the classes of R14 by its bytes; and a DAMAGED or UNDECODABLE
slot that a lane reads. Under PASS it is skipped with a finding, and the lane ends at its slot count; under HOLD the
lane is TRAPPED holding it, its read position left at it, with a finding HELD_FOR_RELEASE; in SEEKING it is skipped
without a finding. -/
def Obligations.BadSlotIsSkippedOrHeld : Prop :=
  (∀ (d : Slot) (xor : Nat), xor = (List.range 32).foldl (fun acc i => acc ^^^ natAt d i 1) 0 →
    (∀ lo n, lo + n ≤ 32 → natAt d lo n = d.toNat / 256 ^ (32 - lo - n) % 256 ^ n) ∧
    (classify d = .erased ↔ ∀ i < 32, natAt d i 1 = 255) ∧
    (classify d = .damaged ↔ xor ≠ 0) ∧
    (classify d = .undecodable ↔ xor = 0 ∧ (∃ i < 32, natAt d i 1 ≠ 255) ∧
      (natAt d 0 1 = 0 ∨ 3 < natAt d 0 1 ∨
        (natAt d 0 1 = 1 ∧ (natAt d 1 1 = 0 ∨ 10 < natAt d 1 1 ∨ natAt d 2 2 = 0 ∨ natAt d 2 2 = 65535 ∨
          ∃ i, 14 ≤ i ∧ i ≤ 30 ∧ natAt d i 1 ≠ 0)) ∨
        (natAt d 0 1 = 2 ∧ (natAt d 14 5 = 1099511627775 ∨
          ∃ i, (1 ≤ i ∧ i ≤ 3 ∨ 19 ≤ i ∧ i ≤ 30) ∧ natAt d i 1 ≠ 0)) ∨
        (natAt d 0 1 = 3 ∧ (natAt d 2 2 = 0 ∨
          ∃ i, (i = 1 ∨ 4 ≤ i ∧ i ≤ 9 ∨ 14 ≤ i ∧ i ≤ 30) ∧ natAt d i 1 ≠ 0)))) ∧
    (∀ device kind stamp seq, classify d = .event device kind stamp seq ↔
      xor = 0 ∧ natAt d 0 1 = 1 ∧ 1 ≤ natAt d 1 1 ∧
        [EventKind.pickup, .dropout, .trip, .openCmd, .closeCmd, .opened, .closed, .travel, .lockout,
          .lockoutReset][natAt d 1 1 - 1]? = some kind ∧
        device.toNat = natAt d 2 2 ∧ 1 ≤ natAt d 2 2 ∧ natAt d 2 2 ≤ 65534 ∧ stamp.toNat = natAt d 4 6 ∧
        seq.toNat = natAt d 10 4 ∧ ∀ i, 14 ≤ i → i ≤ 30 → natAt d i 1 = 0) ∧
    (∀ stamp reference seq, classify d = .mark stamp reference seq ↔
      xor = 0 ∧ natAt d 0 1 = 2 ∧ stamp.toNat = natAt d 4 6 ∧ seq.toNat = natAt d 10 4 ∧ reference = natAt d 14 5 ∧
        natAt d 14 5 ≠ 1099511627775 ∧ ∀ i, (1 ≤ i ∧ i ≤ 3 ∨ 19 ≤ i ∧ i ≤ 30) → natAt d i 1 = 0) ∧
    (∀ lost seq, classify d = .gap lost seq ↔
      xor = 0 ∧ natAt d 0 1 = 3 ∧ lost = natAt d 2 2 ∧ 1 ≤ natAt d 2 2 ∧ seq.toNat = natAt d 10 4 ∧
        ∀ i, (i = 1 ∨ 4 ≤ i ∧ i ≤ 9 ∨ 14 ≤ i ∧ i ≤ 30) → natAt d i 1 = 0)) ∧
  ∀ (words : List PortWord) (d : Slot) (s : State) (l : Fin 16) (a : AnomalySet), s.AnswersLane l → s.Brings words d →
    (classify d = .damaged ∧ a = { damaged := true } ∨ classify d = .undecodable ∧ a = { undecodable := true }) →
    ∃ t, exec (.laneSlotAnswer words) s = .next t ∧ t.mq.entries = s.mq.entries ∧ s.OnlyLanesAndQueues t ∧
      (s.rc.mode = .seeking ∨ (s.lane l).mask.group1 = .pass →
        s.TakesSlot t l { s.lane l with
          readPos := (s.lane l).readPos + 1, held := none, trap := none
          state := if (s.lane l).slotCount ≤ (s.lane l).readPos + 1 then .ended else .ready }) ∧
      (s.rc.mode = .seeking → t.cku = s.cku) ∧
      (s.rc.mode ≠ .seeking → (s.lane l).mask.group1 = .pass →
        s.cku.Raises t.cku
          { lane := l, group := 1, anomalies := a, disposition := .skipped, device := none,
            slot := (s.lane l).readPos, key := s.pu.windowStart }) ∧
      (s.rc.mode ≠ .seeking → (s.lane l).mask.group1 = .hold →
        s.TakesSlot t l { s.lane l with state := .trapped, held := some .slot, trap := some (.fetch 1) } ∧
        s.cku.Raises t.cku
          { lane := l, group := 1, anomalies := a, disposition := .heldForRelease, device := none,
            slot := (s.lane l).readPos, key := s.pu.windowStart })

/-- A GAP record adds its lost count to gap pending, saturating at 65,535, sets the last sequence to its own, and is
passed. -/
def Obligations.GapRecordAddsToGapPending : Prop :=
  ∀ (words : List PortWord) (d : Slot) (s : State) (l : Fin 16) (lost : Nat) (seq : BitVec 32), s.AnswersLane l →
    s.Brings words d → classify d = .gap lost seq →
    ∃ t, exec (.laneSlotAnswer words) s = .next t ∧
      s.TakesSlot t l { s.lane l with
        lastSeq := some seq
        gap := some (min 65535 ((s.lane l).gap.getD 0 + lost))
        readPos := (s.lane l).readPos + 1, held := none, trap := none
        state := if (s.lane l).slotCount ≤ (s.lane l).readPos + 1 then .ended else .ready } ∧
      t.mq.entries = s.mq.entries ∧ t.cku = s.cku ∧ s.OnlyLanesAndQueues t

/-- A mark without a clock anomaly: the drift is estimated and filtered when an estimate is due, the offset becomes
the clamped measurement, and reference raw, last mark, mark count and last raw follow; the slot is passed. In SEEKING
the same. -/
def Obligations.SyncMarkWithoutAnomalyIsApplied : Prop :=
  ∀ (words : List PortWord) (d : Slot) (s : State) (l : Fin 16) (stamp : BitVec 48) (reference raw : Nat)
    (seq : BitVec 32) (c : ClockModel) (m drift : Int),
    s.AnswersLane l → s.Brings words d → classify d = .mark stamp reference seq → c = (s.lane l).clock →
    raw = stamp.toNat * c.tick.micros → m = (reference : Int) - raw → c.lastRaw ≤ raw →
    (s.ccu.stepLimit = 0 ∨
      |m - (c.offset + divNearest (c.drift * ((raw : Int) - c.referenceRaw)) 1000000000)| ≤ s.ccu.stepLimit) →
    drift =
      (if 1 ≤ c.markCount ∧ c.lastMarkRaw + 1000000 ≤ raw then
        c.drift + (max (-500000) (min 500000 (divNearest ((m - c.lastMarkOffset) * 1000000000) (raw - c.lastMarkRaw)))
          - c.drift).tdiv (2 ^ s.ccu.driftShift)
      else c.drift) →
    ∃ t, exec (.laneSlotAnswer words) s = .next t ∧
      s.TakesSlot t l { (s.lane l).noteSequence seq with
        clock := { c with
          offset := max (-549755813887) (min 549755813887 m)
          drift := drift
          referenceRaw := raw
          lastMarkOffset := max (-549755813887) (min 549755813887 m)
          lastMarkRaw := raw
          markCount := min 2 (c.markCount + 1)
          lastRaw := raw }
        readPos := (s.lane l).readPos + 1, held := none, trap := none
        state := if (s.lane l).slotCount ≤ (s.lane l).readPos + 1 then .ended else .ready } ∧
      t.mq.entries = s.mq.entries ∧ t.cku = s.cku ∧ s.OnlyLanesAndQueues t

/-- A mark with a clock anomaly: under PASS it is applied as a step and a finding APPLIED is raised; under HOLD the
model is unchanged, the lane is TRAPPED holding the mark, and a finding HELD_FOR_RELEASE is raised; in SEEKING it is
applied as a step whatever the mask, without a finding. -/
def Obligations.SyncMarkWithAnomalyIsSteppedOrHeld : Prop :=
  ∀ (words : List PortWord) (d : Slot) (s : State) (l : Fin 16) (stamp : BitVec 48) (reference raw : Nat)
    (seq : BitVec 32) (c : ClockModel) (m : Int) (a : AnomalySet),
    s.AnswersLane l → s.Brings words d → classify d = .mark stamp reference seq → c = (s.lane l).clock →
    raw = stamp.toNat * c.tick.micros → m = (reference : Int) - raw →
    a = { regression := decide (raw < c.lastRaw),
          clockStep := decide (s.ccu.stepLimit ≠ 0 ∧ (s.ccu.stepLimit : Int) <
            |m - (c.offset + divNearest (c.drift * ((raw : Int) - c.referenceRaw)) 1000000000)|) } →
    (a.regression = true ∨ a.clockStep = true) →
    ∃ t, exec (.laneSlotAnswer words) s = .next t ∧ t.mq.entries = s.mq.entries ∧ s.OnlyLanesAndQueues t ∧
      (s.rc.mode = .seeking ∨ (s.lane l).mask.group2 = .pass →
        s.TakesSlot t l { (s.lane l).noteSequence seq with
          clock := { c with
            offset := max (-549755813887) (min 549755813887 m)
            referenceRaw := raw
            lastMarkOffset := max (-549755813887) (min 549755813887 m)
            lastMarkRaw := raw
            markCount := 1
            lastRaw := raw }
          readPos := (s.lane l).readPos + 1, held := none, trap := none
          state := if (s.lane l).slotCount ≤ (s.lane l).readPos + 1 then .ended else .ready }) ∧
      (s.rc.mode = .seeking → t.cku = s.cku) ∧
      (s.rc.mode ≠ .seeking → (s.lane l).mask.group2 = .pass →
        s.cku.Raises t.cku
          { lane := l, group := 2, anomalies := a, disposition := .applied, device := none,
            slot := (s.lane l).readPos, key := reference }) ∧
      (s.rc.mode ≠ .seeking → (s.lane l).mask.group2 = .hold →
        s.TakesSlot t l { (s.lane l).noteSequence seq with
          state := .trapped, held := some (.mark raw reference), trap := some (.fetch 2) } ∧
        s.cku.Raises t.cku
          { lane := l, group := 2, anomalies := a, disposition := .heldForRelease, device := none,
            slot := (s.lane l).readPos, key := reference })

/-- An EVENT without an anomaly and with an entry free is corrected, held and inserted: its time is the greatest of the
clamped unheld time, the lane's last corrected time and the window start, and its entry carries the lane's insertion
count and takes over gap pending. The lane ends at its slot count, passes at the window end, and stays READY
otherwise. In SEEKING the window start is left out, the event goes this way when its held time is at or above the seek
time, and a regression has no effect. -/
def Obligations.EventIsCorrectedHeldAndInserted : Prop :=
  ∀ (words : List PortWord) (d : Slot) (s : State) (l : Fin 16) (device : BitVec 16) (kind : EventKind)
    (stamp : BitVec 48) (seq : BitVec 32) (x : Lane) (raw unheld time : Nat) (exact' : Int),
    s.AnswersLane l → s.Brings words d → classify d = .event device kind stamp seq → s.mq.entries.length < 256 →
    x = s.lane l → raw = stamp.toNat * x.clock.tick.micros → (s.rc.mode = .seeking ∨ x.clock.lastRaw ≤ raw) →
    (∃ dev ∈ s.dst.devices, dev.number = device) →
    (s.dst.ranges = [] ∨
      ∃ r ∈ s.dst.ranges, r.low ≤ device.toNat ∧ device.toNat ≤ r.high ∧ r.mask.getLsbD l.val = true) →
    exact' = raw + x.clock.offset + divNearest (x.clock.drift * ((raw : Int) - x.clock.referenceRaw)) 1000000000
      - x.clock.lambda →
    (unheld : Int) = max 0 (min 1099511627774 exact') →
    time = max unheld (max x.clock.lastCorrected (if s.rc.mode = .seeking then 0 else s.pu.windowStart)) →
    (s.rc.mode = .seeking → s.rc.seekTime ≤ time) →
    ∃ t, exec (.laneSlotAnswer words) s = .next t ∧
      s.TakesSlot t l { x with
        lastSeq := some seq, gap := none, insertions := x.insertions + 1
        clock := { x.clock with lastRaw := raw, lastCorrected := time }
        readPos := x.readPos + 1, held := none, trap := none
        state :=
          if x.slotCount ≤ x.readPos + 1 then .ended else if s.pu.windowEnd ≤ time then .passed else .ready } ∧
      t.mq.entries = insertEntry
        { time := time, lane := l, laneSeq := x.insertions, recorder := x.recorder, slot := x.readPos,
          device := device, kind := kind, rawStamp := stamp, tick := x.clock.tick,
          quality :=
            if x.clock.markCount = 0 then .nominal else if x.clock.markCount = 1 then .offsetOnly else .tracking
          held := decide (unheld < time) || decide ((unheld : Int) ≠ exact')
          gapBefore := (x.noteSequence seq).gap, released := false } s.mq.entries ∧
      t.cku = s.cku ∧ s.OnlyLanesAndQueues t

/-- The recorder sequence of a mark or an event: no gap after an absent last sequence or after the successor of the
last, wrapping from 2^32 − 1 to 0; any other value q after s adds q − s − 1 modulo 2^32 to the lost count, saturating
at 65,535. The last sequence becomes the record's, and nothing else of the lane changes. -/
def Obligations.SequenceJumpsAreCounted : Prop :=
  ∀ (x : Lane) (seq : BitVec 32),
    (x.lastSeq = none → x.noteSequence seq = { x with lastSeq := some seq }) ∧
    (∀ last, x.lastSeq = some last → seq.toNat = (last.toNat + 1) % 2 ^ 32 →
      x.noteSequence seq = { x with lastSeq := some seq }) ∧
    (∀ last, x.lastSeq = some last → seq.toNat ≠ (last.toNat + 1) % 2 ^ 32 →
      x.noteSequence seq = { x with
        lastSeq := some seq
        gap := some (min 65535 (x.gap.getD 0 + (seq.toNat + 2 ^ 32 - last.toNat - 1) % 2 ^ 32)) })

/-- An EVENT with an anomaly before its insertion: REGRESSION under HOLD traps the lane with the corrected event as its
item; REGRESSION under PASS raises a finding APPLIED, and the event goes on to the reference checks and to its
insertion. A device that the table does not hold, or that no configured range allows the lane to report, is skipped
under PASS and trapped under HOLD, after a regression too. In SEEKING an event at or above the seek time with such a
device is skipped whatever the mask, and a regression has no effect. -/
def Obligations.EventWithAnomalyIsHeldOrSkipped : Prop :=
  ∀ (words : List PortWord) (d : Slot) (s : State) (l : Fin 16) (device : BitVec 16) (kind : EventKind)
    (stamp : BitVec 48) (seq : BitVec 32) (x : Lane) (e : HeldEvent) (a : AnomalySet),
    s.AnswersLane l → s.Brings words d → classify d = .event device kind stamp seq → s.mq.entries.length < 256 →
    x = s.lane l → e = x.clock.correct device kind stamp x.readPos →
    a = { unknownDevice := decide (∀ dev ∈ s.dst.devices, dev.number ≠ device),
          outOfRange := decide (s.dst.ranges ≠ [] ∧
            ∀ r ∈ s.dst.ranges, r.low ≤ device.toNat → device.toNat ≤ r.high → r.mask.getLsbD l.val = false) } →
    (s.rc.mode = .seeking → s.rc.seekTime ≤ max e.unheld x.clock.lastCorrected) →
    ∃ t, exec (.laneSlotAnswer words) s = .next t ∧ s.OnlyLanesAndQueues t ∧
      (s.rc.mode ≠ .seeking → e.raw < x.clock.lastRaw → x.mask.group2 = .hold →
        s.TakesSlot t l { x.noteSequence seq with
          state := .trapped, held := some (.event e), trap := some (.fetch 2) } ∧
        s.cku.Raises t.cku
          { lane := l, group := 2, anomalies := { regression := true }, disposition := .heldForRelease,
            device := some device, slot := x.readPos, key := e.unheld } ∧
        t.mq.entries = s.mq.entries) ∧
      ∀ k : Cku,
        (s.rc.mode ≠ .seeking ∧ e.raw < x.clock.lastRaw ∧ x.mask.group2 = .pass ∧
            s.cku.Raises k
              { lane := l, group := 2, anomalies := { regression := true }, disposition := .applied,
                device := some device, slot := x.readPos, key := e.unheld } ∨
          (s.rc.mode = .seeking ∨ x.clock.lastRaw ≤ e.raw) ∧ k = s.cku) →
        ((a.unknownDevice = true ∨ a.outOfRange = true) → (s.rc.mode = .seeking ∨ x.mask.group3 = .pass) →
          s.TakesSlot t l { x.noteSequence seq with
            readPos := x.readPos + 1, held := none, trap := none
            state := if x.slotCount ≤ x.readPos + 1 then .ended else .ready } ∧
          k.Raises t.cku
            { lane := l, group := 3, anomalies := a, disposition := .skipped, device := some device,
              slot := x.readPos, key := e.unheld } ∧
          t.mq.entries = s.mq.entries) ∧
        ((a.unknownDevice = true ∨ a.outOfRange = true) → s.rc.mode ≠ .seeking → x.mask.group3 = .hold →
          s.TakesSlot t l { x.noteSequence seq with
            state := .trapped, held := some (.event e), trap := some (.fetch 3) } ∧
          k.Raises t.cku
            { lane := l, group := 3, anomalies := a, disposition := .heldForRelease, device := some device,
              slot := x.readPos, key := e.unheld } ∧
          t.mq.entries = s.mq.entries) ∧
        (a.unknownDevice = false → a.outOfRange = false → ∀ time,
          time = max e.unheld (max x.clock.lastCorrected (if s.rc.mode = .seeking then 0 else s.pu.windowStart)) →
          s.TakesSlot t l { x with
            lastSeq := some seq, gap := none, insertions := x.insertions + 1
            clock := { x.clock with lastRaw := e.raw, lastCorrected := time }
            readPos := x.readPos + 1, held := none, trap := none
            state :=
              if x.slotCount ≤ x.readPos + 1 then .ended else if s.pu.windowEnd ≤ time then .passed else .ready } ∧
          t.cku = k ∧
          t.mq.entries = insertEntry
            { time := time, lane := l, laneSeq := x.insertions, recorder := x.recorder, slot := x.readPos,
              device := device, kind := kind, rawStamp := stamp, tick := x.clock.tick, quality := e.quality
              held := decide (e.unheld < time) || e.clamped, gapBefore := (x.noteSequence seq).gap
              released := false } s.mq.entries)

/-- In SEEKING an event held below the seek time becomes its lane's silent event, its slot passed. While another lane
keeps the silent front waiting, nothing is applied. When every other lane lets the front apply, the silent event with the
lowest held time, and between equal times the one of the lower lane, is applied to the device table and leaves the front;
its lane, READY and below the seek time again, then keeps the front waiting. -/
def Obligations.EventBelowTheSeekTimeIsHandedToSilentReplay : Prop :=
  ∀ (words : List PortWord) (d : Slot) (s : State) (l : Fin 16) (n : Nat) (retry : Bool) (device : BitVec 16)
    (kind : EventKind) (stamp : BitVec 48) (seq : BitVec 32) (x : Lane) (raw unheld time : Nat)
    (handed : Fin 16 → Lane),
    s.inReset = false → s.rc.mode = .seeking → s.afu.checkpoint = none →
    s.afu.request = some { owner := .lane l, slot := n, retry := retry } →
    s.Brings words d → classify d = .event device kind stamp seq → s.mq.entries.length < 256 → x = s.lane l →
    raw = stamp.toNat * x.clock.tick.micros →
    (unheld : Int) = max 0 (min 1099511627774
      (raw + x.clock.offset + divNearest (x.clock.drift * ((raw : Int) - x.clock.referenceRaw)) 1000000000
        - x.clock.lambda)) →
    time = max unheld x.clock.lastCorrected → time < s.rc.seekTime →
    (∀ m, m ≠ l → handed m = s.lane m) →
    handed l = { x.noteSequence seq with
      clock := { x.clock with lastRaw := raw, lastCorrected := time }
      readPos := x.readPos + 1, held := none, trap := none
      silent := some { time := time, device := device, kind := kind }
      state := if x.slotCount ≤ x.readPos + 1 then .ended else .ready } →
    ∃ t, exec (.laneSlotAnswer words) s = .next t ∧
      (s.SeekGoesOn l → (∀ m, t.lane m = handed m) ∧ t.dst = s.dst ∧ t.rc = s.rc) ∧
      (∀ (w : Fin 16) (e : SilentEvent), (∀ m, m ≠ l → (s.lane m).LetsTheFrontApply s.rc.seekTime) →
        (handed w).silent = some e →
        (∀ m g, (handed m).silent = some g → e.time ≤ g.time ∧ (m < w → e.time < g.time)) →
        (handed w).state = .ready → (handed w).clock.lastCorrected < s.rc.seekTime →
        (∀ m, t.lane m = if m = w then { handed w with silent := none } else handed m) ∧
          t.dst = { s.dst with devices := e.appliedTo w s.dst.devices } ∧ t.rc = s.rc) ∧
      t.afu.request = none ∧ t.afu.rotation = l + 1 ∧ t.afu.visitEnding = false ∧
      t.mq.entries = s.mq.entries ∧ t.cku = s.cku ∧ t.biu = s.biu ∧ t.ccu = s.ccu

/-! The seek. -/

/-- A checkpoint's slot that keeps the checkpoint usable: the header with its counts, the first and the second slot of a
lane sub-record, or a device sub-record. While slots remain, the next is read, and the slot sets the lane or the device
of a sub-record that is the first to name it. The last slot ends the load: every configured lane and every device entry
is set by its first sub-record in record order, or as if no checkpoint existed; at exactly the seek time the seek
completes at once, and below it SEEK_DEGRADED is set and the silent replay begins. That a sub-record sets what it names
as it is read follows notes/assumptions/23.md, that the pulse starts within the command 10.md. -/
def Obligations.UsableCheckpointHeaderLeadsToTheNextSlot : Prop :=
  ∀ (words : List PortWord) (d : Slot) (s : State) (c c' : CheckpointLoad) (lane : Option LaneSub)
    (device : Option DeviceSub) (n : Nat) (retry : Bool), s.inReset = false → s.Brings words d →
    s.afu.request = some { owner := .checkpoint, slot := n, retry := retry } → s.afu.checkpoint = some c →
    s.rc.mode = .seeking → d ≠ BitVec.allOnes 256 → xorBytes d = 0#8 →
    (c.taken = 0 ∧ natAt d 0 5 = c.entry.time ∧ natAt d 5 1 ≤ 16 ∧ natAt d 6 2 ≤ 1024 ∧
        c.entry.slot + (1 + 2 * natAt d 5 1 + natAt d 6 2) ≤ stationBlock s.straps.archiveSize ∧
        c' = { c with laneCount := natAt d 5 1, deviceCount := natAt d 6 2, taken := 1 } ∧ lane = none ∧
        device = none ∨
      1 ≤ c.taken ∧ c.taken ≤ 2 * c.laneCount ∧ c.firstSlot = none ∧ natAt d 0 1 ≤ 15 ∧
        c' = { c with firstSlot := some d, taken := c.taken + 1 } ∧ lane = none ∧ device = none ∨
      1 ≤ c.taken ∧ c.taken ≤ 2 * c.laneCount ∧ (∃ (first : Slot) (sub : LaneSub), c.firstSlot = some first ∧
        sub =
          { lane := natAt first 0 1, nextSlot := natAt first 1 4, offset := intAt first 5 5, drift := intAt first 10 4
            referenceRaw := natAt first 14 8, markCount := natAt first 22 1, lastRaw := natAt d 0 8
            lastCorrected := natAt d 8 5, lastSeq := if natAt d 13 1 = 0 then none else some (bytesAt d 14 4)
            gapPending := decide (natAt d 18 1 ≠ 0) } ∧
        c' = { c with firstSlot := none, lanes := sub :: c.lanes, taken := c.taken + 1 } ∧ lane = some sub) ∧
        device = none ∨
      2 * c.laneCount < c.taken ∧ 1 ≤ natAt d 0 2 ∧ natAt d 0 2 ≤ 65534 ∧ (∃ sub : DeviceSub,
        [Position.opened, .closed, .travel, .unknown][natAt d 2 1]? = some sub.position ∧
        sub =
          { device := bytesAt d 0 2, position := sub.position, lockout := (bytesAt d 3 1).getLsbD 0
            pickup := (bytesAt d 3 1).getLsbD 1, operations := natAt d 4 2, travelStart := natAt d 6 5 } ∧
        c' = { c with devices := sub :: c.devices, taken := c.taken + 1 } ∧ device = some sub) ∧ lane = none) →
    ∃ t, exec (.checkpointSlotAnswer words) s = .next t ∧
      (c'.taken < 1 + 2 * c'.laneCount + c'.deviceCount →
        s.CheckpointReads t c' ∧
        (∀ l, t.lane l = match lane with
          | none => s.lane l
          | some sub =>
            if (s.lane l).state ≠ .disabled ∧ sub.lane = l.val ∧ (∀ x ∈ c.lanes, x.lane ≠ sub.lane) then
              (s.lane l).afterSub sub
            else s.lane l) ∧
        t.dst = match device with
          | none => s.dst
          | some sub =>
            if ∀ x ∈ c.devices, x.device ≠ sub.device then
              { s.dst with
                devices := s.dst.devices.map fun x => if x.number = sub.device then x.afterSub sub else x }
            else s.dst) ∧
      (1 + 2 * c'.laneCount + c'.deviceCount ≤ c'.taken →
        (∀ l, (s.lane l).silent = none ∧ (s.lane l).held = none) →
        s.LoadSets t c'.lanes.reverse c'.devices.reverse ∧ s.SeekDecides t (c.entry.time = s.rc.seekTime))

/-- What makes a checkpoint unusable: a slot that is erased or fails its byte XOR, a header with another study time, too
many sub-records or an extent beyond the record area, a lane sub-record for no lane, a device sub-record without a
device number or a defined position code, and a slot that times out twice. Its reading stops, SEEK_DEGRADED is set, every
configured lane and every device entry is set as if no checkpoint existed, and the silent replay begins. -/
def Obligations.UnusableCheckpointLeavesNominalValues : Prop :=
  ∀ (words : List PortWord) (d : Slot) (s : State) (c : CheckpointLoad) (n : Nat) (retry : Bool), s.inReset = false →
    s.afu.request = some { owner := .checkpoint, slot := n, retry := retry } → s.afu.checkpoint = some c →
    s.rc.mode = .seeking → (∀ l, (s.lane l).silent = none ∧ (s.lane l).held = none) →
    (s.Brings words d →
      (d = BitVec.allOnes 256 ∨ xorBytes d ≠ 0#8 ∨
        c.taken = 0 ∧ (natAt d 0 5 ≠ c.entry.time ∨ 16 < natAt d 5 1 ∨ 1024 < natAt d 6 2 ∨
          stationBlock s.straps.archiveSize < c.entry.slot + (1 + 2 * natAt d 5 1 + natAt d 6 2)) ∨
        1 ≤ c.taken ∧ c.taken ≤ 2 * c.laneCount ∧ c.firstSlot = none ∧ 16 ≤ natAt d 0 1 ∨
        2 * c.laneCount < c.taken ∧ (natAt d 0 2 = 0 ∨ natAt d 0 2 = 65535 ∨ 3 < natAt d 2 1)) →
      ∃ t, exec (.checkpointSlotAnswer words) s = .next t ∧ s.LoadSets t [] [] ∧ s.SeekDecides t False) ∧
    (retry = true → ∃ t, exec .archiveReadTimeout s = .next t ∧ s.LoadSets t [] [] ∧ s.SeekDecides t False)

/-! The hold line and the seek's end. -/

/-- After the close pulse, when the pace time is met, and when the line rises or is read dominant, the engine drives
BHL exactly as mode, phase and the release conditions call for. A rise takes a PAUSED or RUNNING engine that
releases the line into EMIT, from GATHER and from SUSPENDED, and a visit whose read is outstanding then ends with that
read; a dominant line takes an engine in EMIT into SUSPENDED. Nothing else changes. The effect of the pace time on the
timer, the reading of a NEXT in wait and the engine's own drive follow notes/assumptions/4.md, 31.md and 9.md. -/
def Obligations.HoldLineAndPhaseFollowTheirInputs : Prop :=
  ∀ s : State, s.inReset = false →
    (∃ t, exec .closePulseEnd s = .next t ∧
      t = { s with pu := { s.pu with closePulse := false, drive := t.pu.drive } } ∧
      (t.pu.drive = .dominant ↔ t.HoldsLine)) ∧
    ((s.pu.windowEnd - s.pu.windowStart) * s.pu.pace ≤ 16 * 16777215 →
      ∃ t, exec .paceTimeMet s = .next t ∧
        t = { s with pu := { s.pu with paceTimer := t.pu.paceTimer, drive := t.pu.drive } } ∧
        s.pu.paceTimer ≤ t.pu.paceTimer ∧ (s.PaceTestMet → t.pu.paceTimer = s.pu.paceTimer) ∧ t.PaceTestMet ∧
        (t.pu.drive = .dominant ↔ t.HoldsLine)) ∧
    (∃ t, exec .bhlRise s = .next t ∧
      t = { s with
        pu := { s.pu with phase := t.pu.phase, drive := t.pu.drive }
        afu := { s.afu with visitEnding := t.afu.visitEnding } } ∧
      t.pu.phase =
        (if (s.rc.mode = .paused ∨ s.rc.mode = .running) ∧ s.pu.drive = .released then .emit else s.pu.phase) ∧
      (t.afu.visitEnding = true ↔ s.afu.visitEnding = true ∨
        (s.rc.mode = .paused ∨ s.rc.mode = .running) ∧ s.pu.drive = .released ∧ s.LaneReadOutstanding) ∧
      (t.pu.drive = .dominant ↔ t.HoldsLine)) ∧
    ∃ t, exec .bhlDominantRead s = .next t ∧
      t = { s with pu := { s.pu with phase := t.pu.phase, drive := t.pu.drive } } ∧
      t.pu.phase =
        (if (s.rc.mode = .paused ∨ s.rc.mode = .running) ∧ s.pu.phase = .emit then .suspended else s.pu.phase) ∧
      (t.pu.drive = .dominant ↔ t.HoldsLine)

/-- In SEEKING, the last lane still read ends: at an erased slot, at an insertion that passes its region's last slot or
reaches the window end, at a second timeout, which loses it with a finding, or at its region's last slot, be that bad, a
GAP record, a mark, an event skipped with a finding, or one below the seek time, which then joins the silent front. Every
silent event left then reaches the device table in ascending order of held time, and between equal times of lane, and the
seek completes in the mode-after-seek, in GATHER with a close pulse. That all this comes about within the command follows
notes/assumptions/10.md. -/
def Obligations.LastLaneEndingDrainsTheFrontAndCompletesTheSeek : Prop :=
  ∀ (s : State) (l : Fin 16) (n : Nat) (retry : Bool) (events : List (Fin 16 × SilentEvent)) (x : Lane),
    s.inReset = false → s.rc.mode = .seeking → s.afu.checkpoint = none →
    s.afu.request = some { owner := .lane l, slot := n, retry := retry } → x = s.lane l →
    (∀ k, k ≠ l → (s.lane k).state ≠ .ready ∧ (s.lane k).state ≠ .waiting ∧ (s.lane k).state ≠ .trapped) →
    (∀ k e, (k, e) ∈ events ↔ (s.lane k).silent = some e) →
    events.Pairwise (fun a b => a.2.time < b.2.time ∨ a.2.time = b.2.time ∧ a.1 < b.1) →
    (∀ words, s.Brings words (BitVec.allOnes 256) →
      ∃ t, exec (.laneSlotAnswer words) s = .next t ∧ s.DrainsAndCompletes t l events ∧
        t.lane l = { x with state := .ended, silent := none } ∧ t.mq.entries = s.mq.entries ∧ t.cku = s.cku) ∧
    (∀ (words : List PortWord) (d : Slot) (device : BitVec 16) (kind : EventKind) (stamp : BitVec 48)
      (seq : BitVec 32) (e : HeldEvent) (time : Nat), s.Brings words d → classify d = .event device kind stamp seq →
      s.mq.entries.length < 256 → e = x.clock.correct device kind stamp x.readPos →
      time = max e.unheld x.clock.lastCorrected → s.rc.seekTime ≤ time →
      (∃ dev ∈ s.dst.devices, dev.number = device) →
      (s.dst.ranges = [] ∨
        ∃ r ∈ s.dst.ranges, r.low ≤ device.toNat ∧ device.toNat ≤ r.high ∧ r.mask.getLsbD l.val = true) →
      x.slotCount ≤ x.readPos + 1 ∨ s.pu.windowEnd ≤ time →
      ∃ t, exec (.laneSlotAnswer words) s = .next t ∧ s.DrainsAndCompletes t l events ∧
        t.lane l = { x with
          lastSeq := some seq, gap := none, insertions := x.insertions + 1
          clock := { x.clock with lastRaw := e.raw, lastCorrected := time }
          readPos := x.readPos + 1, held := none, trap := none, silent := none
          state := if x.slotCount ≤ x.readPos + 1 then .ended else .passed } ∧
        t.mq.entries = insertEntry
          { time := time, lane := l, laneSeq := x.insertions, recorder := x.recorder, slot := x.readPos,
            device := device, kind := kind, rawStamp := stamp, tick := x.clock.tick, quality := e.quality
            held := decide (e.unheld < time) || e.clamped, gapBefore := (x.noteSequence seq).gap
            released := false } s.mq.entries ∧
        t.cku = s.cku) ∧
    (retry = true →
      ∃ t, exec .archiveReadTimeout s = .next t ∧ s.DrainsAndCompletes t l events ∧
        t.lane l = { x with state := .lost, silent := none } ∧ t.mq.entries = s.mq.entries ∧
        s.cku.Raises t.cku
          { lane := l, group := 0, anomalies := {}, disposition := .laneLost, device := none, slot := x.readPos
            key := s.pu.windowStart }) ∧
    (∀ (words : List PortWord) (d : Slot), s.Brings words d → x.slotCount ≤ x.readPos + 1 →
      (∀ y : Lane,
        ((classify d = .damaged ∨ classify d = .undecodable) ∧ y = x ∨
          (∃ lost seq, classify d = .gap lost seq ∧
            y = { x with lastSeq := some seq, gap := some (min 65535 (x.gap.getD 0 + lost)) }) ∨
          ∃ stamp reference seq raw, classify d = .mark stamp reference seq ∧ raw = x.clock.rawTime stamp ∧
            y = { x.noteSequence seq with
              clock := if (x.clock.markAnomalies s.ccu.stepLimit raw reference).any then x.clock.applyStep raw reference
                else x.clock.applyMark s.ccu.driftShift raw reference }) →
        ∃ t, exec (.laneSlotAnswer words) s = .next t ∧ s.DrainsAndCompletes t l events ∧
          t.lane l = { y with
            readPos := x.readPos + 1, held := none, trap := none, silent := none, state := .ended } ∧
          t.mq.entries = s.mq.entries ∧ t.cku = s.cku) ∧
      ∀ (device : BitVec 16) (kind : EventKind) (stamp : BitVec 48) (seq : BitVec 32) (e : HeldEvent) (time : Nat)
        (a : AnomalySet), classify d = .event device kind stamp seq → s.mq.entries.length < 256 →
        e = x.clock.correct device kind stamp x.readPos → time = max e.unheld x.clock.lastCorrected →
        a = { unknownDevice := decide (∀ dev ∈ s.dst.devices, dev.number ≠ device),
              outOfRange := decide (s.dst.ranges ≠ [] ∧
                ∀ r ∈ s.dst.ranges, r.low ≤ device.toNat → device.toNat ≤ r.high → r.mask.getLsbD l.val = false) } →
        (s.rc.seekTime ≤ time → (a.unknownDevice = true ∨ a.outOfRange = true) →
          ∃ t, exec (.laneSlotAnswer words) s = .next t ∧ s.DrainsAndCompletes t l events ∧
            t.lane l = { x.noteSequence seq with
              readPos := x.readPos + 1, held := none, trap := none, silent := none, state := .ended } ∧
            t.mq.entries = s.mq.entries ∧
            s.cku.Raises t.cku
              { lane := l, group := 3, anomalies := a, disposition := .skipped, device := some device,
                slot := x.readPos, key := e.unheld }) ∧
        (time < s.rc.seekTime → ∀ front : List (Fin 16 × SilentEvent),
          (∀ k g, (k, g) ∈ front ↔
            if k = l then g = { time := time, device := device, kind := kind } else (s.lane k).silent = some g) →
          front.Pairwise (fun a b => a.2.time < b.2.time ∨ a.2.time = b.2.time ∧ a.1 < b.1) →
          ∃ t, exec (.laneSlotAnswer words) s = .next t ∧ s.DrainsAndCompletes t l front ∧
            t.lane l = { x.noteSequence seq with
              clock := { x.clock with lastRaw := e.raw, lastCorrected := time }
              readPos := x.readPos + 1, held := none, trap := none, silent := none, state := .ended } ∧
            t.mq.entries = s.mq.entries ∧ t.cku = s.cku))

/-! The replay bus. -/

/-- A JOINING engine becomes IDLE at a close condition and after 64 idle bit times; and a frame that a receiver
hears aborted, abandoned or closed too early returns the bus to IDLE with nothing else changed. That the early close
changes no count follows notes/assumptions/19.md. -/
def Obligations.JoinAndUnacceptedFramesEndInIdle : Prop :=
  ∀ s : State, s.inReset = false →
    (s.biu.state = .joining →
      exec .joinOnClose s = .next { s with biu := { s.biu with state := .idle } } ∧
      exec .joinIdleExpiry s = .next { s with biu := { s.biu with state := .idle } }) ∧
    (s.biu.state = .receiving →
      exec .abortConditionHeard s = .next { s with biu := { s.biu with state := .idle, outbound := none } } ∧
      exec .busAbandonTimeout s = .next { s with biu := { s.biu with state := .idle, outbound := none } } ∧
      exec .unacceptedFrameClose s = .next { s with biu := { s.biu with state := .idle, outbound := none } })

/-- An open condition at which a PAUSED or RUNNING engine reads BHL recessive finds it in EMIT, contending with the
EVENT of a window head, or with the NEXT of its earliest pending time, and a visit whose read is outstanding then ends
with that read; one at which an engine in EMIT reads BHL dominant suspends it, and it offers no EVENT, NEXT or CUT.
That SUSPENDED ends at an open condition with BHL recessive, as Table 6-4 has it, follows notes/assumptions/16.md. -/
def Obligations.OpenConditionInEmitOffersTheEarliestPendingTime : Prop :=
  ∀ (line : Level) (s : State), s.inReset = false → s.biu.state = .idle →
    (s.rc.mode = .paused ∨ s.rc.mode = .running) → s.biu.inbound.length < 16 →
    ∃ t, exec (.openCondition line) s = .next t ∧ t.afu = { s.afu with visitEnding := t.afu.visitEnding } ∧
      t.mq = s.mq ∧ t.rc = s.rc ∧ t.dst = s.dst ∧ t.cku = s.cku ∧
      (line = .recessive → s.pu.drive = .released →
        t.pu = { s.pu with phase := .emit, drive := t.pu.drive } ∧
        (t.afu.visitEnding = true ↔ s.afu.visitEnding = true ∨ s.LaneReadOutstanding) ∧
        ∃ o, t.biu = { s.biu with state := .contending, outbound := some o, fullAtOpen := false, discarding := false } ∧
          (∀ e q, s.mq.entries = e :: q → e.time < s.pu.windowEnd →
            o = { frame := e.frame s.straps.station false {}, entry := some e.key }) ∧
          (∀ e q, s.mq.entries = e :: q → s.pu.windowEnd ≤ e.time →
            o = { frame := { key := BitVec.ofNat 40 e.time, station := s.straps.station, body := .next },
                  entry := none }) ∧
          (s.mq.entries = [] →
            (∃ l, (s.lane l).state ≠ .disabled ∧ (s.lane l).state ≠ .ended ∧ (s.lane l).state ≠ .lost) →
            o = { frame :=
                    { key := if s.pu.windowEnd = 1099511627775 then 1099511627774#40 else BitVec.ofNat 40 s.pu.windowEnd,
                      station := s.straps.station, body := .next },
                  entry := none }) ∧
          (s.mq.entries = [] →
            (∀ l, (s.lane l).state = .disabled ∨ (s.lane l).state = .ended ∨ (s.lane l).state = .lost) →
            o = { frame := { key := 1099511627775#40, station := s.straps.station, body := .next },
                  entry := none })) ∧
      (line = .dominant ∨ s.pu.drive = .dominant → s.pu.phase = .emit →
        t.pu = { s.pu with phase := .suspended, drive := t.pu.drive } ∧ t.afu = s.afu ∧
        ∀ o, t.biu.outbound = some o →
          o.frame.body.classCode = 4#3 ∨ o.frame.body.classCode = 5#3 ∨ o.frame.body.classCode = 6#3)

/-- What an IDLE engine offers at an open condition outside EMIT: the CUT of a PENDING cut in GATHER, then the oldest
finding, the oldest STATE reply, and the pending STATUS; only the STATUS in WITHDRAWN and FAULTED; nothing in LOADING or
with a full inbound queue. Without an offer it receives. And what the bodies of these frames carry. The codes of role,
class and position in a STATE body follow notes/assumptions/11.md. -/
def Obligations.OpenConditionOffersInTheOrderOfTheBus : Prop :=
  (∀ s : State, ∃ r : StatusBody,
    s.statusFrame = { key := 0#40, station := s.straps.station, body := .status r } ∧
    [Mode.loading, .faulted, .standby, .seeking, .paused, .running, .ended, .withdrawn][r.mode.toNat]? =
      some s.rc.mode ∧
    [StartCause.powerOn, .pin][r.startCause.toNat]? = some s.rc.startCause ∧
    [FaultCause.none, .badFormat, .badLaneCount, .badLaneEntry, .badRegion, .regionOverlap, .badDeviceList, .badRange,
      .badDirectory, .archiveTimeout, .duplicateNumber][r.faultCause.toNat]? = some s.rc.faultCause ∧
    [Timebase.reference, .internal][r.timebase.toNat]? = some s.pu.timebase ∧
    r.windowStart = BitVec.ofNat 40 s.pu.windowStart ∧
    (∀ l : Fin 16, (r.lanesTrapped.getLsbD l.val = true ↔ (s.lane l).state = .trapped) ∧
      (r.lanesEnded.getLsbD l.val = true ↔ (s.lane l).state = .ended) ∧
      (r.lanesLost.getLsbD l.val = true ↔ (s.lane l).state = .lost)) ∧
    r.lostFindings = BitVec.ofNat 8 s.cku.lostFindings ∧ r.seekDegraded = s.rc.seekDegraded ∧
    r.configWarning = s.rc.configWarning) ∧
  (∀ (own : BitVec 5) (f : Finding), ∃ b : FindingBody,
    f.frame own = { key := BitVec.ofNat 40 f.key, station := own, body := .finding b } ∧ b.lane.toNat = f.lane.val ∧
    b.group = BitVec.ofNat 3 f.group ∧
    (List.range 12).map b.anomalies.getMsbD =
      [f.anomalies.damaged, f.anomalies.undecodable, f.anomalies.regression, f.anomalies.clockStep,
        f.anomalies.unknownDevice, f.anomalies.outOfRange, f.anomalies.redundant, f.anomalies.lockoutClose,
        f.anomalies.noPickup, f.anomalies.overtime, f.anomalies.held, f.anomalies.gapBefore] ∧
    [Disposition.heldForRelease, .skipped, .applied, .laneLost, .forcedCut][b.disposition.toNat]? =
      some f.disposition ∧
    (match f.device with
      | none => b.devicePresent = false ∧ b.device = 0#16
      | some n => b.devicePresent = true ∧ b.device = n) ∧
    b.slot = BitVec.ofNat 32 f.slot) ∧
  (∀ (own : BitVec 5) (d : Device), ∃ b : StateBody,
    d.frame own = { key := d.number.setWidth 40, station := own, body := .state b } ∧
    [Role.owned, .watched][b.role.toNat]? = some d.role ∧
    [DeviceClass.breaker, .disconnector, .switch][b.cls.toNat]? = some d.cls ∧
    b.maxTravel = BitVec.ofNat 16 d.maxTravel ∧
    [Position.opened, .closed, .travel, .unknown][b.position.toNat]? = some d.position ∧ b.lockout = d.lockout ∧
    b.pickup = d.pickup ∧
    (match d.travelStart with
      | none => b.travelPresent = false ∧ b.travelStart = 0#40
      | some time => b.travelPresent = true ∧ b.travelStart = BitVec.ofNat 40 time) ∧
    (match d.lastChange with
      | none => b.lastChangePresent = false ∧ b.lastChange = 0#40
      | some time => b.lastChangePresent = true ∧ b.lastChange = BitVec.ofNat 40 time) ∧
    (match d.lastEvent with
      | none => b.lastEventPresent = false ∧ b.lastEventKind = 0#4 ∧ b.lastEventTime = 0#40 ∧ b.sourceForm = 0#1 ∧
        b.sourceNumber = 0#5
      | some e => b.lastEventPresent = true ∧ 1 ≤ b.lastEventKind.toNat ∧
        [EventKind.pickup, .dropout, .trip, .openCmd, .closeCmd, .opened, .closed, .travel, .lockout,
          .lockoutReset][b.lastEventKind.toNat - 1]? = some e.kind ∧
        b.lastEventTime = BitVec.ofNat 40 e.time ∧
        match e.source with
        | .lane l => b.sourceForm = 0#1 ∧ b.sourceNumber.toNat = l.val
        | .station n => b.sourceForm = 1#1 ∧ b.sourceNumber = n) ∧
    b.operations = BitVec.ofNat 16 d.operations ∧ b.corroborations = BitVec.ofNat 8 d.corroborations) ∧
  ∀ (line : Level) (s : State), s.inReset = false → s.biu.state = .idle →
    ((s.rc.mode = .paused ∨ s.rc.mode = .running) →
      s.pu.phase ≠ .emit ∧ (line = .dominant ∨ s.pu.drive = .dominant)) →
    ∃ t offer, exec (.openCondition line) s = .next t ∧
      t = { s with
        pu := { s.pu with drive := t.pu.drive }
        biu := { s.biu with
          state := if offer = none then .receiving else .contending
          outbound := offer
          fullAtOpen := decide (16 ≤ s.biu.inbound.length)
          discarding := false } } ∧
      (16 ≤ s.biu.inbound.length ∨ s.rc.mode = .loading → offer = none) ∧
      (s.biu.inbound.length < 16 → (s.rc.mode = .withdrawn ∨ s.rc.mode = .faulted) →
        offer = if s.rc.statusPending then some { frame := s.statusFrame, entry := none } else none) ∧
      (s.biu.inbound.length < 16 → (s.rc.mode = .paused ∨ s.rc.mode = .running) → s.pu.phase = .gather →
        ∀ c forced, s.mq.cut = .pending c forced →
          offer = some
            { frame := { key := BitVec.ofNat 40 c, station := s.straps.station, body := .cut }, entry := none }) ∧
      (s.biu.inbound.length < 16 →
        (s.rc.mode = .standby ∨ s.rc.mode = .seeking ∨ s.rc.mode = .ended ∨
          (s.rc.mode = .paused ∨ s.rc.mode = .running) ∧
            (s.pu.phase = .suspended ∨ ∀ c forced, s.mq.cut ≠ .pending c forced)) →
        (∀ f rest, s.cku.findings = f :: rest → offer = some { frame := f.frame s.straps.station, entry := none }) ∧
        (∀ n rest d, s.cku.findings = [] → s.dst.replies = n :: rest → s.dst.find n = some d →
          offer = some { frame := d.frame s.straps.station, entry := none }) ∧
        (s.cku.findings = [] → s.dst.replies = [] →
          offer = if s.rc.statusPending then some { frame := s.statusFrame, entry := none } else none))

/-- Arbitration: a contender whose field is not above the lowest of the others has won, an EVENT stretching and any
other frame being sent; a contender with a higher field receives. A receiver learns whether the class is the invalid
class 7. Fields compare by class, then key, then station. -/
def Obligations.ArbitrationIsWonByTheLowestField : Prop :=
  (∀ (others : Option ArbField) (s : State) (o : Outbound), s.inReset = false → s.biu.state = .contending →
    s.biu.outbound = some o →
    ((∀ a, others = some a → o.frame.arbitration.value ≤ a.value) →
      exec (.arbitrationComplete others) s = .next { s with
        biu := { s.biu with state := if o.frame.body.classCode = 2#3 then .stretching else .sending } }) ∧
    (∀ a, others = some a → a.value < o.frame.arbitration.value →
      exec (.arbitrationComplete others) s = .next { s with
        biu := { s.biu with state := .receiving, outbound := none, discarding := decide (a.cls = 7#3) } })) ∧
  (∀ (others : Option ArbField) (s : State), s.inReset = false → s.biu.state = .receiving →
    exec (.arbitrationComplete others) s = .next { s with
      biu := { s.biu with discarding := decide (∃ a, others = some a ∧ a.cls = 7#3) } }) ∧
  ∀ a b : ArbField, a.value < b.value ↔
    a.cls < b.cls ∨ (a.cls = b.cls ∧ (a.key < b.key ∨ (a.key = b.key ∧ a.station < b.station)))

/-- The end of a stretch that may still be sent: a duplicate is sent as one; an event without anomalies, released, or
under PASS is sent with what was found; under HOLD the frame is aborted and the entry's lane is TRAPPED with a finding
HELD_FOR_RELEASE, unless the lane holds a released record, when the frame is sent with a finding APPLIED. And what the
frame carries: every field of the entry but its time, which is the key, and its slot index, with the DUPLICATE flag and
the anomaly set. That the phase stays EMIT after the trap follows notes/assumptions/15.md. -/
def Obligations.StretchEndJudgesTheWinningEvent : Prop :=
  (∀ (own : BitVec 5) (e : Entry) (duplicate : Bool) (a : AnomalySet), ∃ b : EventBody,
    e.frame own duplicate a = { key := BitVec.ofNat 40 e.time, station := own, body := .event b } ∧
    b.lane.toNat = e.lane.val ∧ b.laneSeq = BitVec.ofNat 28 e.laneSeq ∧ b.recorder = e.recorder ∧
    b.device = e.device ∧ 1 ≤ b.kind.toNat ∧
    [EventKind.pickup, .dropout, .trip, .openCmd, .closeCmd, .opened, .closed, .travel, .lockout,
      .lockoutReset][b.kind.toNat - 1]? = some e.kind ∧
    b.rawStamp = e.rawStamp ∧ [TickUnit.us1, .us10, .us100, .us1000][b.tickCode.toNat]? = some e.tick ∧
    [Quality.nominal, .offsetOnly, .tracking][b.quality.toNat]? = some e.quality ∧ b.held = e.held ∧
    (match e.gapBefore with
      | none => b.gapBefore = false ∧ b.lostCount = 0#16
      | some lost => b.gapBefore = true ∧ b.lostCount = BitVec.ofNat 16 lost) ∧
    b.duplicate = duplicate ∧ b.released = e.released ∧
    (List.range 6).map b.anomalies.getMsbD =
      [a.redundant, a.lockoutClose, a.noPickup, a.overtime, a.held, a.gapBefore]) ∧
  ∀ (s : State) (o : Outbound) (e : Entry) (dev : Device) (a : AnomalySet) (duplicate : Prop), s.inReset = false →
    s.biu.state = .stretching → s.biu.outbound = some o → s.biu.inbound = [] → o.entry = some e.key →
    s.findEntry e.key = some e → (s.rc.mode = .paused ∨ s.rc.mode = .running) → s.pu.phase = .emit →
    s.pu.drive = .released → e.time < s.pu.windowEnd → s.dst.find e.device = some dev →
    (duplicate ↔ ∃ last, dev.lastEvent = some last ∧ last.kind = e.kind ∧
      |(e.time : Int) - last.time| ≤ s.cku.tolerance ∧ last.source ≠ .lane e.lane) →
    (a.damaged = false ∧ a.undecodable = false ∧ a.regression = false ∧ a.clockStep = false ∧
      a.unknownDevice = false ∧ a.outOfRange = false) →
    (a.redundant = true ↔ e.kind = .opened ∧ dev.position = .opened ∨ e.kind = .closed ∧ dev.position = .closed) →
    (a.lockoutClose = true ↔ (e.kind = .closed ∨ e.kind = .closeCmd) ∧ dev.lockout = true) →
    (a.noPickup = true ↔ e.kind = .trip ∧ dev.pickup = false) →
    (a.overtime = true ↔ (e.kind = .opened ∨ e.kind = .closed) ∧ dev.position = .travel ∧ dev.maxTravel ≠ 0 ∧
      ∃ start, dev.travelStart = some start ∧ start + dev.maxTravel * 1000 < e.time) →
    (a.held = e.held ∧ a.gapBefore = e.gapBefore.isSome) →
    ∃ t, exec (.stretchEnd .recessive) s = .next t ∧ t.mq = s.mq ∧ t.dst = s.dst ∧ t.rc = s.rc ∧
      t.pu = { s.pu with drive := t.pu.drive } ∧
      (duplicate →
        t.biu = { s.biu with
          state := .sending, outbound := some { frame := e.frame s.straps.station true {}, entry := some e.key } } ∧
        t.afu = s.afu ∧ t.cku = s.cku) ∧
      (¬duplicate → (a = {} ∨ e.released = true ∨ (s.lane e.lane).mask.group4 = .pass) →
        t.biu = { s.biu with
          state := .sending, outbound := some { frame := e.frame s.straps.station false a, entry := some e.key } } ∧
        t.afu = s.afu ∧ t.cku = s.cku) ∧
      (¬duplicate → a ≠ {} → e.released = false → (s.lane e.lane).mask.group4 = .hold →
        (s.lane e.lane).releasedRecord = none →
        t.biu = { s.biu with state := .idle, outbound := none } ∧
        t.lane e.lane =
          { s.lane e.lane with state := .trapped, held := none, trap := some (.winning e.key (s.lane e.lane).state) } ∧
        (∀ l, l ≠ e.lane → t.lane l = s.lane l) ∧ t.pu.drive = .dominant ∧
        s.cku.Raises t.cku
          { lane := e.lane, group := 4, anomalies := a, disposition := .heldForRelease, device := some e.device,
            slot := e.slot, key := e.time }) ∧
      (¬duplicate → a ≠ {} → e.released = false → (s.lane e.lane).mask.group4 = .hold →
        (s.lane e.lane).releasedRecord ≠ none →
        t.biu = { s.biu with
          state := .sending, outbound := some { frame := e.frame s.straps.station false a, entry := some e.key } } ∧
        t.afu = s.afu ∧
        s.cku.Raises t.cku
          { lane := e.lane, group := 4, anomalies := a, disposition := .applied, device := some e.device,
            slot := e.slot, key := e.time })

/-- The end of a stretch that may not be sent: outside the emit, past a flush, beyond the window, or with BHL read
dominant, the frame is aborted unevaluated with its entry left as it is; the abort is no failed attempt, and a
dominant line suspends an engine in EMIT. That the dominant line also suspends follows notes/assumptions/15.md. -/
def Obligations.StretchEndAbortsWhatMayNotBeSent : Prop :=
  ∀ (line : Level) (s : State) (o : Outbound) (k : EntryKey), s.inReset = false → s.biu.state = .stretching →
    s.biu.outbound = some o → s.biu.inbound = [] → o.entry = some k →
    ((s.rc.mode ≠ .paused ∧ s.rc.mode ≠ .running) ∨ s.pu.phase ≠ .emit ∨ line = .dominant ∨ s.pu.drive = .dominant ∨
      (∀ e ∈ s.mq.entries, e.key ≠ k) ∨ s.pu.windowEnd ≤ k.time) →
    ∃ t, exec (.stretchEnd line) s = .next t ∧
      t = { s with
        biu := { s.biu with state := .idle, outbound := none }
        pu := { s.pu with phase := t.pu.phase, drive := t.pu.drive } } ∧
      t.pu.phase =
        if (line = .dominant ∨ s.pu.drive = .dominant) ∧ (s.rc.mode = .paused ∨ s.rc.mode = .running) ∧
          s.pu.phase = .emit then .suspended else s.pu.phase

/-- A bit error, an abort heard while sending, and an abandonment of the engine's own frame are failed attempts: the
offer stays, the failure count rises by 1 to at most 16, at 16 the engine withdraws from the modes that take frames,
and in WITHDRAWN it gives its STATUS up. The abandonment in CONTENDING follows notes/assumptions/18.md; an abort in the
engine's own veto slot 38.md; that a withdrawal leaves a close pulse in progress and a WAITING lane as they are, 27.md
and 28.md. -/
def Obligations.FailedAttemptsAreCountedAndTheSixteenthWithdraws : Prop :=
  ∀ (s : State) (c : Instr), s.inReset = false →
    (c = .bitError ∧ s.biu.state = .sending ∨ c = .abortConditionHeard ∧ s.biu.state = .sending ∨
      c = .busAbandonTimeout ∧ (s.biu.state = .sending ∨ s.biu.state = .contending)) →
    ∃ t, exec c s = .next t ∧
      (s.biu.failureCount + 1 < 16 ∨ s.rc.mode = .loading ∨ s.rc.mode = .faulted →
        t = { s with
          biu := { s.biu with state := .idle, outbound := none, failureCount := min 16 (s.biu.failureCount + 1) }
          pu := { s.pu with drive := t.pu.drive } }) ∧
      (16 ≤ s.biu.failureCount + 1 → s.rc.mode.takesFrames = true → s.Withdraws t) ∧
      (16 ≤ s.biu.failureCount + 1 → s.rc.mode = .withdrawn →
        t = { s with
          biu := { s.biu with state := .idle, outbound := none, failureCount := 16 }
          rc := { s.rc with statusPending := false }
          pu := { s.pu with drive := t.pu.drive } })

/-- The engine's own frame is accepted: the failure count becomes 0, and its owner settles the offer. In the modes that
take frames it enters the engine's own inbound queue in its place; a STATUS in WITHDRAWN and FAULTED enters none. An
EVENT's entry leaves the merge queue, which makes the STALLED lanes READY, but for those with a released record, of which
the lowest-numbered inserts its record; a FINDING's finding, a STATE's reply or the pending STATUS is gone. That the
released record goes in at once follows notes/assumptions/37.md; that the frame of a seek that stands as it is leaves
it so, 10.md. -/
def Obligations.OwnFrameAcceptedSettlesItsOffer : Prop :=
  ∀ (h : HeardFrame) (s : State) (o : Outbound), s.inReset = false → s.biu.state = .sending →
    s.biu.outbound = some o → (s.rc.mode = .seeking → s.SeekWaits) →
    (s.rc.mode.takesFrames = true → s.biu.inbound.length < 16 →
      ∃ t, exec (.frameAccepted h) s = .next t ∧
        t.biu = { s.biu with
          state := .idle, outbound := none, failureCount := 0, inbound := s.biu.inbound ++ [o.frame] } ∧
        t.pu = { s.pu with drive := t.pu.drive } ∧ t.ccu = s.ccu ∧ t.straps = s.straps ∧
        (∀ b k, o.frame.body = .event b → o.entry = some k → (s.rc.mode = .paused ∨ s.rc.mode = .running) →
          (∃ e ∈ s.mq.entries, e.key = k) →
          t.dst = s.dst ∧ t.cku = s.cku ∧ t.rc = s.rc ∧ t.afu = { s.afu with lanes := t.afu.lanes } ∧
          s.FreesEntry t (s.mq.entries.filter fun e => e.key ≠ k) fun _ => False) ∧
        (∀ b, o.frame.body = .finding b →
          t.cku = { s.cku with findings := s.cku.findings.tail } ∧ t.mq.entries = s.mq.entries ∧
          t.afu = s.afu ∧ t.dst = s.dst ∧ t.rc = s.rc) ∧
        (∀ b, o.frame.body = .state b →
          t.dst = { s.dst with replies := s.dst.replies.filter fun n => n ≠ o.frame.key.setWidth 16 } ∧
          t.mq.entries = s.mq.entries ∧ t.afu = s.afu ∧ t.cku = s.cku ∧ t.rc = s.rc) ∧
        (∀ b, o.frame.body = .status b →
          t.rc = { s.rc with statusPending := false } ∧ t.mq.entries = s.mq.entries ∧ t.afu = s.afu ∧
          t.dst = s.dst ∧ t.cku = s.cku)) ∧
    ((s.rc.mode = .withdrawn ∨ s.rc.mode = .faulted) → ∀ b, o.frame.body = .status b →
      ∃ t, exec (.frameAccepted h) s = .next t ∧ t.mq.entries = s.mq.entries ∧
        t = { s with
          biu := { s.biu with state := .idle, outbound := none, failureCount := 0 }
          rc := { s.rc with statusPending := false }
          pu := { s.pu with drive := t.pu.drive }
          mq := t.mq })

/-- A frame of another station that the engine finds correct and has room for joins its inbound queue at the end, in
the modes that take frames, and a mode that vetoes sets the veto count to 0. A frame whose check octet fails, or for
which there is no room, in a mode that does not veto, is lost to the engine alone; LOADING discards every intact frame
of another number, and FAULTED every frame. A frame of the invalid class enters no queue and changes no count, under
any mode. That a lost frame is not tested for its station number follows notes/assumptions/14.md. -/
def Obligations.AcceptedFramesJoinTheInboundQueue : Prop :=
  (∀ (h : HeardFrame) (s : State), s.Hears h →
    (s.rc.mode.takesFrames = true → (s.rc.mode = .seeking → s.SeekWaits) → h.intact = true →
      s.biu.fullAtOpen = false → s.biu.inbound.length < 16 → h.frame.station ≠ s.straps.station →
      ∃ t, exec (.frameAccepted h) s = .next t ∧
        t.biu = { s.biu with
          state := .idle, outbound := none, inbound := s.biu.inbound ++ [h.frame]
          vetoCount :=
            if s.rc.mode = .seeking ∨ s.rc.mode = .paused ∨ s.rc.mode = .running then 0 else s.biu.vetoCount } ∧
        t.pu = { s.pu with drive := t.pu.drive } ∧ t.afu = s.afu ∧ t.mq.entries = s.mq.entries ∧ t.dst = s.dst ∧
        t.cku = s.cku ∧ t.rc = s.rc) ∧
    (s.rc.mode ≠ .seeking → s.rc.mode ≠ .paused → s.rc.mode ≠ .running →
      (∀ c forced, s.mq.cut ≠ .pending c forced) →
      (h.intact = false ∨ s.rc.mode.takesFrames = true ∧ 16 ≤ s.biu.inbound.length ∨
        s.rc.mode = .loading ∧ h.frame.station ≠ s.straps.station ∨ s.rc.mode = .faulted) →
      ∃ t, exec (.frameAccepted h) s = .next t ∧
        t = { s with
          biu := { s.biu with state := .idle, outbound := none }
          pu := { s.pu with drive := t.pu.drive } })) ∧
  ∀ (h : HeardFrame) (s : State), s.inReset = false → s.biu.state = .receiving →
    s.biu.discarding = true ∨ h.frame.body = .invalid →
    (∃ t, exec (.frameVetoed h) s = .next t ∧
      t = { s with biu := { s.biu with state := .idle, outbound := none }, pu := { s.pu with drive := t.pu.drive } }) ∧
    ((s.rc.mode = .seeking → s.SeekWaits) →
      ∃ t, exec (.frameAccepted h) s = .next t ∧ t.mq.entries = s.mq.entries ∧
        t = { s with
          biu := { s.biu with state := .idle, outbound := none }
          pu := { s.pu with drive := t.pu.drive }
          mq := t.mq })

/-- At the veto slot of a frame it receives, in a mode that vetoes: an engine that drives the slot, for a check
octet that fails or a queue full at the open condition, raises its veto count and applies nothing, and the eighth in
a row withdraws it; one that does not drive a vetoed frame's slot sets the count to 0. The transmitter of a vetoed
frame keeps its offer and its counts. That a receiver which drives the slot has vetoed the frame under either
command follows notes/assumptions/13.md; that a withdrawal leaves a close pulse in progress and a WAITING lane as they
are, 27.md and 28.md. -/
def Obligations.VetoesAreCountedAndTheEighthWithdraws : Prop :=
  (∀ (h : HeardFrame) (s : State) (c : Instr), s.Hears h →
    (s.rc.mode = .seeking ∧ s.SeekWaits ∨ s.rc.mode = .paused ∨ s.rc.mode = .running) →
    ((h.intact = false ∨ s.biu.fullAtOpen = true) → (c = .frameVetoed h ∨ c = .frameAccepted h) →
      ∃ t, exec c s = .next t ∧
        (s.biu.vetoCount + 1 < 8 →
          t.biu = { s.biu with state := .idle, outbound := none, vetoCount := s.biu.vetoCount + 1 } ∧
          t.pu = { s.pu with drive := t.pu.drive } ∧ t.afu = s.afu ∧ t.mq.entries = s.mq.entries ∧ t.dst = s.dst ∧
          t.cku = s.cku ∧ t.rc = s.rc) ∧
        (8 ≤ s.biu.vetoCount + 1 → s.Withdraws t)) ∧
    (h.intact = true → s.biu.fullAtOpen = false →
      ∃ t, exec (.frameVetoed h) s = .next t ∧
        t = { s with
          biu := { s.biu with state := .idle, outbound := none, vetoCount := 0 }
          pu := { s.pu with drive := t.pu.drive } })) ∧
  ∀ (h : HeardFrame) (s : State) (o : Outbound), s.inReset = false → s.biu.state = .sending →
    s.biu.outbound = some o →
    exec (.frameVetoed h) s = .next { s with biu := { s.biu with state := .idle, outbound := none } }

/-- An accepted frame of another transmitter that bears the engine's own station number ends in FAULTED with
DUPLICATE_NUMBER: no lane is configured, the device table and the queues are empty, and one STATUS is pending. What
the entry to FAULTED keeps follows notes/assumptions/26.md. -/
def Obligations.DuplicateStationNumberFaultsTheEngine : Prop :=
  ∀ (h : HeardFrame) (s : State), s.Hears h → h.intact = true → h.frame.station = s.straps.station →
    s.rc.mode ≠ .faulted → s.biu.fullAtOpen = false → s.biu.inbound.length < 16 →
    ∃ t, exec (.frameAccepted h) s = .next t ∧
      t.rc = { s.rc with mode := .faulted, faultCause := .duplicateNumber, statusPending := true, load := none } ∧
      (∀ l, t.lane l = Lane.disabled) ∧ t.afu.request = none ∧ t.afu.checkpoint = none ∧ t.mq.entries = [] ∧
      t.mq.cut = .absent ∧ t.dst = { devices := [], ranges := [], replies := [] } ∧
      t.cku = { s.cku with findings := [], tolerance := 0 } ∧ t.ccu = { driftShift := 0, stepLimit := 0 } ∧
      t.biu.inbound = [] ∧ t.biu.state = .idle ∧
      t.pu = { s.pu with phase := .gather, pausePending := false, drive := .released }

/-- In WITHDRAWN, the first accepted SEEK that the engine finds correct rejoins it: its counts are 0, and the seek begins
as any other, with the load of the latest checkpoint at or below its time, or, without one, from the nominal lanes and the
initial device entries. Every other accepted frame is discarded. That the SEEK is applied as it is accepted follows
notes/assumptions/29.md. -/
def Obligations.WithdrawnEngineRejoinsOnSeekAlone : Prop :=
  ∀ (h : HeardFrame) (s : State), s.Hears h → h.intact = true → h.frame.station ≠ s.straps.station →
    s.rc.mode = .withdrawn →
    (∀ a time, Frame.Commands h.frame 4 a → time = min a.numeric.toNat 1099511627774 →
      ∃ t, exec (.frameAccepted h) s = .next t ∧
        { s with biu := { s.biu with state := .idle, outbound := none, vetoCount := 0, failureCount := 0 } }.Seeks
          t time) ∧
    ((∀ a, ¬Frame.Commands h.frame 4 a) → s.mq.cut = .absent →
      ∃ t, exec (.frameAccepted h) s = .next t ∧
        t = { s with
          biu := { s.biu with state := .idle, outbound := none }
          pu := { s.pu with drive := t.pu.drive } })

/-! Frames taken from the inbound queue. -/

/-- A CUT taken in SEEKING, or in GATHER while PAUSED or RUNNING, and strictly inside the window lowers the window end to
it, and every READY or STALLED lane whose last corrected time has reached it becomes PASSED; any other CUT is taken
without effect. The engine's own CUT, taken while its record is PENDING, leaves the record TAKEN, and a forced one raises
a FORCED_CUT finding; a visit whose read is outstanding then ends with that read. A PENDING record is withdrawn when
another station's CUT leaves every lane finished. In SEEKING the clauses are for a checkpoint load, or a silent replay
that a lane keeps from ending. The lane and the slot of the finding follow notes/assumptions/32.md, and the record of a
cut in wait 12.md. -/
def Obligations.CutsAreAdoptedInsideTheWindow : Prop :=
  ∀ (s : State) (f : Frame) (rest : List Frame) (c : Nat), s.Takes f rest → f.body = .cut → c = f.key.toNat →
    (∀ l, (s.lane l).state = .passed → s.pu.windowEnd ≤ (s.lane l).clock.lastCorrected) →
    (s.rc.mode = .seeking → s.afu.checkpoint ≠ none ∨
      s.rc.seekTime ≤ s.pu.windowStart ∧ ∃ m, ((s.lane m).state = .ready ∨ (s.lane m).state = .waiting) ∧
        (s.lane m).silent = none ∧ (s.lane m).clock.lastCorrected < s.rc.seekTime) →
    ∃ t, exec .cutTaken s = .next t ∧ t.biu = { s.biu with inbound := rest } ∧ t.mq.entries = s.mq.entries ∧
      t.rc = s.rc ∧ t.dst = s.dst ∧
      t.afu = { s.afu with lanes := t.afu.lanes, visitEnding := t.afu.visitEnding } ∧
      ((∀ n forced, s.mq.cut ≠ .pending n forced) ∨ f.station ≠ s.straps.station →
        t.afu.visitEnding = s.afu.visitEnding) ∧
      ((s.rc.mode = .seeking ∨ (s.rc.mode = .paused ∨ s.rc.mode = .running) ∧ s.pu.phase = .gather) ∧
          s.pu.windowStart < c ∧ c < s.pu.windowEnd →
        t.pu = { s.pu with windowEnd := c, drive := t.pu.drive } ∧
        ∀ l, t.lane l =
          if ((s.lane l).state = .ready ∨ (s.lane l).state = .stalled) ∧ c ≤ (s.lane l).clock.lastCorrected then
            { s.lane l with state := .passed }
          else s.lane l) ∧
      (¬((s.rc.mode = .seeking ∨ (s.rc.mode = .paused ∨ s.rc.mode = .running) ∧ s.pu.phase = .gather) ∧
          s.pu.windowStart < c ∧ c < s.pu.windowEnd) →
        t.pu = { s.pu with drive := t.pu.drive } ∧ t.afu.lanes = s.afu.lanes) ∧
      (∀ n forced, s.mq.cut = .pending n forced → f.station = s.straps.station →
        t.mq.cut = .taken ∧ (t.afu.visitEnding = true ↔ s.afu.visitEnding = true ∨ s.LaneReadOutstanding) ∧
        (forced = none → t.cku = s.cku) ∧
        ∀ l, forced = some l → s.cku.Raises t.cku
          { lane := l, group := 0, anomalies := {}, disposition := .forcedCut, device := none,
            slot := (s.lane l).readPos, key := s.pu.windowStart }) ∧
      (∀ n forced, s.mq.cut = .pending n forced → f.station ≠ s.straps.station →
        t.cku = s.cku ∧ t.mq.cut =
          if (∀ l, (t.lane l).state = .disabled ∨ (t.lane l).state = .passed ∨ (t.lane l).state = .ended ∨
              (t.lane l).state = .lost) ∧ (∀ g ∈ rest, g.body = .cut → g.station ≠ s.straps.station) then .absent
          else s.mq.cut) ∧
      (s.mq.cut = .taken → t.mq.cut = .taken ∧ t.cku = s.cku) ∧
      (s.mq.cut = .absent → t.cku = s.cku ∧
        (s.mq.entries.length < 256 ∨ s.rc.mode = .seeking ∨
            (∃ l, (t.lane l).state = .ready ∨ (t.lane l).state = .waiting) → t.mq.cut = .absent))

/-- An EVENT taken while PAUSED or RUNNING in EMIT or SUSPENDED changes the entry of its device by its kind and sets
the last event; a DUPLICATE raises the corroboration count alone; a device not held, and any other mode or phase,
drops it. -/
def Obligations.EventFramesAreAppliedToTheDeviceTable : Prop :=
  ∀ (s : State) (f : Frame) (rest : List Frame) (e : EventBody) (kind : EventKind) (time : Nat), s.Takes f rest →
    f.body = .event e → e.kind.toNat = kind.code → time = f.key.toNat →
    ∃ t, exec .eventTaken s = .next t ∧
      t = { s with biu := { s.biu with inbound := rest }, dst := { s.dst with devices := t.dst.devices } } ∧
      (¬((s.rc.mode = .paused ∨ s.rc.mode = .running) ∧ s.pu.phase ≠ .gather) → t.dst.devices = s.dst.devices) ∧
      ((s.rc.mode = .paused ∨ s.rc.mode = .running) ∧ s.pu.phase ≠ .gather →
        t.dst.devices.length = s.dst.devices.length ∧
        ∀ i : Nat, ∀ d d' : Device, s.dst.devices[i]? = some d → t.dst.devices[i]? = some d' →
          (d.number ≠ e.device → d' = d) ∧
          (d.number = e.device → e.duplicate = true →
            d' = { d with corroborations := min 255 (d.corroborations + 1) }) ∧
          (d.number = e.device → e.duplicate = false →
            d'.lastEvent = some
              { kind := kind, time := time,
                source := if f.station = s.straps.station then .lane e.lane.toFin else .station f.station } ∧
            d' = { d with
              lastEvent := d'.lastEvent, position := d'.position, pickup := d'.pickup, lockout := d'.lockout
              travelStart := d'.travelStart, operations := d'.operations, lastChange := d'.lastChange } ∧
            d'.pickup = (match kind with | .pickup => true | .dropout => false | _ => d.pickup) ∧
            d'.lockout = (match kind with | .lockout => true | .lockoutReset => false | _ => d.lockout) ∧
            d'.position = (match kind with
              | .opened => .opened | .closed => .closed | .travel => .travel | _ => d.position) ∧
            d'.travelStart = (match kind with
              | .opened => none
              | .closed => none
              | .travel => if d.position = .travel then d.travelStart else some time
              | _ => d.travelStart) ∧
            ((kind = .opened ∨ kind = .closed) → d'.position = d.position →
              d'.operations = d.operations ∧ d'.lastChange = d.lastChange) ∧
            ((kind = .opened ∨ kind = .closed) → d'.position ≠ d.position → d.position = .unknown →
              d'.operations = d.operations ∧ d'.lastChange = some time) ∧
            ((kind = .opened ∨ kind = .closed) → d'.position ≠ d.position → d.position ≠ .unknown →
              d'.operations = min 65535 (d.operations + 1) ∧ d'.lastChange = some time) ∧
            (kind ≠ .opened → kind ≠ .closed →
              d'.operations = d.operations ∧ d'.lastChange = d.lastChange)))

/-- NEXT(N) closes the epoch: the window moves to the greater of its end and N, the cut record becomes ABSENT, a
numbered budget falls in RUNNING and at 0 pauses, a pending pause pauses, the phase is GATHER with a close pulse and the
pace timer at 0, and the lanes are tested against the new end. A lane that leaves PASSED with a released record inserts
it, in lane order, while entries are free, and becomes STALLED holding it otherwise. -/
def Obligations.NextClosesTheEpoch : Prop :=
  ∀ (s : State) (f : Frame) (rest : List Frame) (start stop : Nat), s.Takes f rest → f.body = .next →
    f.key.toNat ≠ 1099511627775 → (s.rc.mode = .paused ∨ s.rc.mode = .running) → s.pu.phase ≠ .gather →
    start = min (max s.pu.windowEnd f.key.toNat) 1099511627774 → stop = min (start + s.pu.span) 1099511627775 →
    ∃ t, exec .nextTaken s = .next t ∧
      t.pu = { s.pu with
        windowStart := start, windowEnd := stop, phase := .gather, closePulse := true, paceTimer := 0
        pausePending := false, drive := .dominant
        budget := match s.pu.budget with
          | .unlimited => .unlimited
          | .epochs n => if s.rc.mode = .running then .epochs (n - 1) else .epochs n } ∧
      t.rc = { s.rc with
        mode :=
          if s.pu.pausePending = true ∨ (s.rc.mode = .running ∧ t.pu.budget = .epochs 0) then .paused
          else s.rc.mode } ∧
      t.biu = { s.biu with inbound := rest } ∧ t.dst = s.dst ∧ t.cku = s.cku ∧
      t.afu = { s.afu with lanes := t.afu.lanes } ∧
      t.mq.entries = (s.resumedEntries start stop).foldl (fun q x => insertEntry x q) s.mq.entries ∧
      (t.mq.entries.length < 256 ∨ (∃ l, (t.lane l).state = .ready ∨ (t.lane l).state = .waiting) →
        t.mq.cut = .absent) ∧
      (∀ l e x, (s.lane l).held = some (.released e) → s.resumed start stop l = some x →
        t.lane l =
          if x ∈ s.resumedEntries start stop then
            { s.lane l with
              held := none, trap := none, gap := none, insertions := (s.lane l).insertions + 1
              clock := { (s.lane l).clock with lastRaw := e.raw, lastCorrected := x.time }
              state :=
                if (s.lane l).slotCount ≤ (s.lane l).readPos then .ended
                else if stop ≤ x.time then .passed else .ready }
          else { s.lane l with state := .stalled }) ∧
      ∀ l, s.resumed start stop l = none → t.lane l = { s.lane l with
        state := match (s.lane l).state with
          | .ready => if stop ≤ (s.lane l).clock.lastCorrected then .passed else .ready
          | .stalled => if stop ≤ (s.lane l).clock.lastCorrected then .passed else .stalled
          | .passed => if stop ≤ (s.lane l).clock.lastCorrected then .passed else .ready
          | other => other }

/-- NEXT(NONE) taken in EMIT or SUSPENDED ends the history: ENDED, the window as it stood, the cut record ABSENT, no
pause pending, GATHER without a close pulse, and BHL released. Any NEXT taken in another mode or phase is ignored. -/
def Obligations.NextNoneEndsTheHistory : Prop :=
  ∀ (s : State) (f : Frame) (rest : List Frame), s.Takes f rest → f.body = .next →
    ((s.rc.mode = .paused ∨ s.rc.mode = .running) → s.pu.phase ≠ .gather → f.key.toNat = 1099511627775 →
      exec .nextTaken s = .next { s with
        rc := { s.rc with mode := .ended }
        mq := { s.mq with cut := .absent }
        pu := { s.pu with pausePending := false, phase := .gather, drive := .released }
        biu := { s.biu with inbound := rest } }) ∧
    (¬((s.rc.mode = .paused ∨ s.rc.mode = .running) ∧ s.pu.phase ≠ .gather) →
      ∃ t, exec .nextTaken s = .next t ∧
        t = { s with biu := { s.biu with inbound := rest }, pu := { s.pu with drive := t.pu.drive } })

/-- FINDING, STATE and STATUS frames, and commands of codes that the engine does not define, are taken and dropped. -/
def Obligations.ReportsAndUndefinedCommandsAreDropped : Prop :=
  ∀ (s : State) (f : Frame) (rest : List Frame), s.Takes f rest →
    (f.body.classCode = 4#3 ∨ f.body.classCode = 5#3 ∨ f.body.classCode = 6#3 →
      exec .reportFrameTaken s = .next { s with biu := { s.biu with inbound := rest } }) ∧
    (∀ code a, Frame.Commands f code a → (code = 0 ∨ 10 < code) →
      exec .undefinedCommand s = .next { s with biu := { s.biu with inbound := rest } })

/-! Console commands. -/

/-- RUN, STEP and PAUSE in every mode that takes commands: Table 6-5 in PAUSED and RUNNING, the mode-after-seek in
SEEKING, and nothing in STANDBY and ENDED. That a change between PAUSED and RUNNING leaves a visit whose read is
outstanding as it is follows notes/assumptions/39.md. -/
def Obligations.RunStepAndPauseActByMode : Prop :=
  ∀ (s : State) (f : Frame) (rest : List Frame) (a : CommandBody), s.Takes f rest →
    (Frame.Commands f 1 a →
      ∃ t, exec .run s = .next t ∧
        t = { s with biu := { s.biu with inbound := rest }, rc := t.rc, pu := { t.pu with drive := t.pu.drive } } ∧
        (s.rc.mode = .seeking → t.rc = { s.rc with modeAfterSeek := .running } ∧
          t.pu = { s.pu with budget := .unlimited, drive := t.pu.drive }) ∧
        (s.rc.mode = .paused → t.rc = { s.rc with mode := .running } ∧
          t.pu = { s.pu with budget := .unlimited, drive := t.pu.drive }) ∧
        (s.rc.mode = .running → t.rc = s.rc ∧
          t.pu = { s.pu with budget := .unlimited, pausePending := false, drive := t.pu.drive }) ∧
        (s.rc.mode = .standby ∨ s.rc.mode = .ended → t.rc = s.rc ∧ t.pu = { s.pu with drive := t.pu.drive })) ∧
    (∀ n, Frame.Commands f 3 a → n = max 1 (min 255 a.numeric.toNat) →
      ∃ t, exec .step s = .next t ∧
        t = { s with biu := { s.biu with inbound := rest }, rc := t.rc, pu := { t.pu with drive := t.pu.drive } } ∧
        (s.rc.mode = .seeking → t.rc = { s.rc with modeAfterSeek := .running } ∧
          t.pu = { s.pu with budget := .epochs n, drive := t.pu.drive }) ∧
        (s.rc.mode = .paused → t.rc = { s.rc with mode := .running } ∧
          t.pu = { s.pu with budget := .epochs n, drive := t.pu.drive }) ∧
        (s.rc.mode = .running → t.rc = s.rc ∧
          t.pu = { s.pu with budget := .epochs n, pausePending := false, drive := t.pu.drive }) ∧
        (s.rc.mode = .standby ∨ s.rc.mode = .ended → t.rc = s.rc ∧ t.pu = { s.pu with drive := t.pu.drive })) ∧
    (Frame.Commands f 2 a →
      ∃ t, exec .pause s = .next t ∧
        t = { s with biu := { s.biu with inbound := rest }, rc := t.rc, pu := { t.pu with drive := t.pu.drive } } ∧
        (s.rc.mode = .seeking → t.rc = { s.rc with modeAfterSeek := .paused } ∧
          t.pu = { s.pu with drive := t.pu.drive }) ∧
        (s.rc.mode = .running → s.pu.phase = .gather →
          t.rc = { s.rc with mode := .paused } ∧ t.pu = { s.pu with drive := .dominant }) ∧
        (s.rc.mode = .running → s.pu.phase ≠ .gather →
          t.rc = s.rc ∧ t.pu = { s.pu with pausePending := true, drive := t.pu.drive }) ∧
        (s.rc.mode = .paused ∨ s.rc.mode = .standby ∨ s.rc.mode = .ended →
          t.rc = s.rc ∧ t.pu = { s.pu with drive := t.pu.drive }))

/-- SEEK(T) in every mode that takes commands: the blocks are set, the queue is flushed, and every configured lane is
READY with nothing held. With a checkpoint at or below T, the load of the latest such checkpoint begins; without one, the
lanes and the device table are set as such a seek sets them, SEEK_DEGRADED is set, and the silent replay begins. The
inbound and finding queues, the reply list, the pending STATUS and the lost-findings count are kept. That a close pulse
in progress goes on follows notes/assumptions/27.md. -/
def Obligations.SeekSetsTheBlocksAndReadsTheCheckpoint : Prop :=
  ∀ (s : State) (f : Frame) (rest : List Frame) (a : CommandBody) (time : Nat), s.Takes f rest →
    Frame.Commands f 4 a → time = min a.numeric.toNat 1099511627774 →
    ∃ t : State, exec .seek s = .next t ∧ { s with biu.inbound := rest }.Seeks t time

/-- HALT outside STANDBY: STANDBY with BHL released, the queue flushed, traps and held items gone, the lanes back to
READY, ENDED or LOST, and everything else kept; in STANDBY it leaves the engine as it stands. That a close pulse in
progress goes on follows notes/assumptions/27.md. -/
def Obligations.HaltStopsTheReplay : Prop :=
  ∀ (s : State) (f : Frame) (rest : List Frame) (a : CommandBody), s.Takes f rest → Frame.Commands f 5 a →
    (s.rc.mode = .standby → exec .halt s = .next { s with biu := { s.biu with inbound := rest } }) ∧
    (s.rc.mode ≠ .standby →
      ∃ t, exec .halt s = .next t ∧ t.rc = { s.rc with mode := .standby, modeAfterSeek := .paused } ∧
        t.pu = { s.pu with phase := .gather, pausePending := false, budget := .unlimited, drive := .released } ∧
        t.mq = { entries := [], cut := .absent } ∧ t.biu = { s.biu with inbound := rest } ∧ t.dst = s.dst ∧
        t.cku = s.cku ∧ t.ccu = s.ccu ∧
        t.afu = { s.afu with
          lanes := t.afu.lanes, request := none, words := [], checkpoint := none, visitEnding := false } ∧
        ∀ l, t.lane l = { s.lane l with
          held := none, trap := none, silent := none
          state := match (s.lane l).state with
            | .disabled => .disabled
            | .ended => .ended
            | .lost => .lost
            | .trapped => (match (s.lane l).trap with
              | some (.winning _ .ended) => .ended
              | some (.winning _ .lost) => .lost
              | _ => .ready)
            | _ => .ready })

/-- EPOCH sets the epoch span within 10 to 1,000,000 and leaves the window; RATE sets the pace factor up to 255;
QUERY adds a number held as OWNED to the reply list once; POLL to the engine or to ALL places a STATUS pending. In
LOADING, WITHDRAWN and FAULTED no such command is taken. The drive after RATE reads a NEXT in wait by
notes/assumptions/31.md. -/
def Obligations.EpochRateQueryAndPollSetWhatTheyName : Prop :=
  (∀ (s : State) (f : Frame) (rest : List Frame) (a : CommandBody), s.Takes f rest →
    (Frame.Commands f 6 a →
      exec .epoch s = .next { s with
        biu := { s.biu with inbound := rest }
        pu := { s.pu with span := max 10 (min 1000000 a.numeric.toNat) } }) ∧
    (Frame.Commands f 7 a →
      ∃ t, exec .rate s = .next t ∧ (t.pu.drive = .dominant ↔ t.HoldsLine) ∧
        t = { s with
          biu := { s.biu with inbound := rest }
          pu := { s.pu with pace := min 255 a.numeric.toNat, drive := t.pu.drive } }) ∧
    (Frame.Commands f 9 a →
      (∀ d, s.dst.find (BitVec.ofNat 16 a.numeric.toNat) = some d → d.role = .owned → a.numeric.toNat ≤ 65534 →
        d.number ∉ s.dst.replies →
        exec .query s = .next { s with
          biu := { s.biu with inbound := rest }
          dst := { s.dst with replies := s.dst.replies ++ [BitVec.ofNat 16 a.numeric.toNat] } }) ∧
      ((65534 < a.numeric.toNat ∨ s.dst.find (BitVec.ofNat 16 a.numeric.toNat) = none ∨
          ∃ d, s.dst.find (BitVec.ofNat 16 a.numeric.toNat) = some d ∧
            (d.role = .watched ∨ d.number ∈ s.dst.replies)) →
        exec .query s = .next { s with biu := { s.biu with inbound := rest } })) ∧
    (Frame.Commands f 10 a →
      exec .poll s = .next { s with
        biu := { s.biu with inbound := rest }
        rc := { s.rc with
          statusPending :=
            s.rc.statusPending || decide (a.station.toNat = s.straps.station.toNat ∨ a.station.toNat = 63) } })) ∧
  ∀ s : State, s.rc.mode = .loading ∨ s.rc.mode = .withdrawn ∨ s.rc.mode = .faulted →
    exec .epoch s = .next s ∧ exec .rate s = .next s ∧ exec .query s = .next s ∧ exec .poll s = .next s

/-- A RELEASE that names this engine and a lane trapped at fetch: SKIP, and APPLY of anything but a mark or a group
2 event, passes the trapped slot; APPLY of a mark applies it as a step and passes it. The lane is ENDED at its slot
count, PASSED at the window end, and READY otherwise. APPLY of a group 2 event makes the reference checks first: without
an anomaly the record is inserted when an entry is free, or the lane becomes STALLED holding it; with one it is skipped
under PASS, and trapped again under HOLD at the same slot. The test against the window end follows
notes/assumptions/20.md. -/
def Obligations.ReleaseOfAFetchTrapPassesTheSlot : Prop :=
  ∀ (s : State) (f : Frame) (rest : List Frame) (a : CommandBody) (l : Fin 16) (g : Nat) (x : Lane), s.Takes f rest →
    Frame.Commands f 8 a → a.station.toNat = s.straps.station.toNat → a.lane.toFin = l → s.rc.mode ≠ .seeking →
    x = s.lane l → x.state = .trapped → x.trap = some (.fetch g) →
    ∃ t, exec .release s = .next t ∧ t.biu = { s.biu with inbound := rest } ∧ (∀ m, m ≠ l → t.lane m = s.lane m) ∧
      t.rc = s.rc ∧ t.dst = s.dst ∧ t.pu = { s.pu with drive := t.pu.drive } ∧
      (a.action = 0#2 ∨
          (a.action = 1#2 ∧ (x.held = some .slot ∨ ∃ e, x.held = some (.event e) ∧ g ≠ 2)) →
        t.lane l = { x with
          readPos := x.readPos + 1, held := none, trap := none
          state :=
            if x.slotCount ≤ x.readPos + 1 then .ended
            else if s.pu.windowEnd ≤ x.clock.lastCorrected then .passed else .ready } ∧
        t.cku = s.cku ∧ t.mq.entries = s.mq.entries) ∧
      (∀ raw reference, a.action = 1#2 → x.held = some (.mark raw reference) →
        t.lane l = { x with
          readPos := x.readPos + 1, held := none, trap := none
          clock := { x.clock with
            offset := max (-549755813887) (min 549755813887 ((reference : Int) - raw)), referenceRaw := raw
            lastMarkOffset := max (-549755813887) (min 549755813887 ((reference : Int) - raw))
            lastMarkRaw := raw, markCount := 1, lastRaw := raw }
          state :=
            if x.slotCount ≤ x.readPos + 1 then .ended
            else if s.pu.windowEnd ≤ x.clock.lastCorrected then .passed else .ready } ∧
        t.cku = s.cku ∧ t.mq.entries = s.mq.entries) ∧
      ∀ e b, a.action = 1#2 → g = 2 → x.held = some (.event e) →
        b = { unknownDevice := decide (∀ dev ∈ s.dst.devices, dev.number ≠ e.device),
              outOfRange := decide (s.dst.ranges ≠ [] ∧
                ∀ r ∈ s.dst.ranges, r.low ≤ e.device.toNat → e.device.toNat ≤ r.high → r.mask.getLsbD l.val = false) } →
        (b.unknownDevice = false → b.outOfRange = false →
          t.cku = s.cku ∧
          (s.mq.entries.length < 256 →
            s.Inserts t l e (x.readPos + 1) s.pu.windowStart s.pu.windowEnd s.mq.entries) ∧
          (256 ≤ s.mq.entries.length → t.mq.entries = s.mq.entries ∧
            t.lane l = { x with
              readPos := x.readPos + 1, held := some (.released e), trap := none
              state := if s.pu.windowEnd ≤ x.clock.lastCorrected then .passed else .stalled })) ∧
        ((b.unknownDevice = true ∨ b.outOfRange = true) → t.mq.entries = s.mq.entries ∧
          (x.mask.group3 = .pass →
            t.lane l = { x with
              readPos := x.readPos + 1, held := none, trap := none
              state :=
                if x.slotCount ≤ x.readPos + 1 then .ended
                else if s.pu.windowEnd ≤ x.clock.lastCorrected then .passed else .ready } ∧
            s.cku.Raises t.cku
              { lane := l, group := 3, anomalies := b, disposition := .skipped, device := some e.device,
                slot := e.slot, key := e.unheld }) ∧
          (x.mask.group3 = .hold →
            t.lane l = { x with state := .trapped, held := some (.event e), trap := some (.fetch 3) } ∧
            s.cku.Raises t.cku
              { lane := l, group := 3, anomalies := b, disposition := .heldForRelease, device := some e.device,
                slot := e.slot, key := e.unheld }))

/-- A RELEASE that names this engine and a lane trapped at winning: APPLY marks the entry released where it stands; SKIP
removes it, which makes the STALLED lanes READY, but for those with a released record, of which the lowest-numbered
inserts its record (notes/assumptions/37.md); the lane returns to ENDED or LOST, or becomes READY, PASSED at the window
end.
A RELEASE that names another station, ALL, a lane not TRAPPED, or an undefined action is taken without effect. -/
def Obligations.ReleaseOfAWinningTrapFreesTheLane : Prop :=
  ∀ (s : State) (f : Frame) (rest : List Frame) (a : CommandBody) (l : Fin 16) (k : EntryKey) (before : LaneState),
    s.Takes f rest → Frame.Commands f 8 a → a.lane.toFin = l →
    (a.station.toNat = s.straps.station.toNat → s.rc.mode ≠ .seeking → (s.lane l).state = .trapped →
      (s.lane l).trap = some (.winning k before) → (∃ e ∈ s.mq.entries, e.key = k) → a.action.toNat ≤ 1 →
      ∃ t, exec .release s = .next t ∧ t.biu = { s.biu with inbound := rest } ∧ t.cku = s.cku ∧ t.rc = s.rc ∧
        t.dst = s.dst ∧ t.pu = { s.pu with drive := t.pu.drive } ∧
        t.lane l = { s.lane l with
          trap := none
          state :=
            if before = .ended then .ended else if before = .lost then .lost
            else if s.pu.windowEnd ≤ (s.lane l).clock.lastCorrected then .passed else .ready } ∧
        (a.action = 1#2 →
          t.mq.entries = s.mq.entries.map (fun e => if e.key = k then { e with released := true } else e) ∧
          ∀ m, m ≠ l → t.lane m = s.lane m) ∧
        (a.action = 0#2 → s.FreesEntry t (s.mq.entries.filter fun e => e.key ≠ k) fun m => m = l)) ∧
    (a.station.toNat ≠ s.straps.station.toNat ∨ (s.lane l).state ≠ .trapped ∨ 1 < a.action.toNat →
      exec .release s = .next { s with biu := { s.biu with inbound := rest } })

/-- The timebase falls back to INTERNAL at the loss of the reference and returns to REFERENCE at its restoration; the
pace timer keeps its value, and a STATUS becomes pending in STANDBY, SEEKING, PAUSED, RUNNING and ENDED alone. -/
def Obligations.TimebaseFollowsTheReference : Prop :=
  ∀ s : State, s.inReset = false →
    (s.pu.timebase = .reference →
      exec .referenceLost s = .next { s with
        pu := { s.pu with timebase := .internal }
        rc := { s.rc with
          statusPending := s.rc.statusPending || decide (s.rc.mode = .standby ∨ s.rc.mode = .seeking ∨
            s.rc.mode = .paused ∨ s.rc.mode = .running ∨ s.rc.mode = .ended) } }) ∧
    (s.pu.timebase = .internal →
      exec .referenceRestored s = .next { s with
        pu := { s.pu with timebase := .reference }
        rc := { s.rc with
          statusPending := s.rc.statusPending || decide (s.rc.mode = .standby ∨ s.rc.mode = .seeking ∨
            s.rc.mode = .paused ∨ s.rc.mode = .running ∨ s.rc.mode = .ended) } })

/-! Formats and arithmetic. -/

/-- The bits of every frame on the bus spell that frame again: no bit of an arbitration field or a body is dropped. -/
def Obligations.FrameBitsSpellTheFrame : Prop :=
  ∀ f : Frame, Frame.ofBits f.bits = f

/-- The two roundings, to the nearest whole number with halves away from zero and toward zero, and the clamp, which
replaces a value below a range with its lower limit and one above it with its upper limit. -/
def Obligations.QuotientsAreRoundedAsR46Says : Prop :=
  (∀ (num : Int) (den : Nat), 0 < den →
    (2 * |num - divNearest num den * den| ≤ den ∧
      (2 * |num - divNearest num den * den| = den → |num| < |divNearest num den * den|)) ∧
    (|divTowardZero num den * den| ≤ |num| ∧ |num - divTowardZero num den * den| < den ∧
      (num ≤ 0 → divTowardZero num den ≤ 0) ∧ (0 ≤ num → 0 ≤ divTowardZero num den))) ∧
  ∀ lo hi x : Int, lo ≤ hi →
    (x < lo → clampInt lo hi x = lo) ∧ (hi < x → clampInt lo hi x = hi) ∧
      (lo ≤ x → x ≤ hi → clampInt lo hi x = x)

/-! Invariants. -/

/-- The machine right after power-on reset satisfies every invariant. -/
def Obligations.ResetSatisfiesEveryInvariant : Prop :=
  State.reset.WithinBounds ∧ State.reset.WindowSound ∧ State.reset.PortSound ∧ State.reset.HoldLineSound ∧
    State.reset.QueueOrdered ∧ State.reset.TableSound ∧ State.reset.TrapsSound ∧ State.reset.ReadsSound

/-- Every step keeps the queues within their capacities, the counts within their ranges, and the window as R102 has
it. -/
def Obligations.StepKeepsTheBoundsAndTheWindow : Prop :=
  ∀ s t : State, s.WithinBounds → s.WindowSound → step s = .next t → t.WithinBounds ∧ t.WindowSound

/-- Every step keeps the archive port sound and BHL driven exactly as mode, phase and release conditions call for, and a
visit that is to end with its read stays so until no lane's read is outstanding. A NEXT in wait is read by
notes/assumptions/31.md. -/
def Obligations.StepKeepsThePortAndTheHoldLine : Prop :=
  ∀ s t : State, s.PortSound → s.HoldLineSound → step s = .next t → t.PortSound ∧ t.HoldLineSound ∧
    (s.afu.visitEnding = true → t.afu.visitEnding = true ∨ ¬t.LaneReadOutstanding)

/-- Every step keeps the merge queue in ascending order of key, with no lane sequence twice in a lane. -/
def Obligations.StepKeepsTheMergeQueueOrdered : Prop :=
  ∀ s t : State, s.QueueOrdered → step s = .next t → t.QueueOrdered

/-- Every step keeps the device table sound: its capacity, its numbers distinct, its counts in range, and a travel
start exactly while the position is TRAVEL. -/
def Obligations.StepKeepsTheDeviceTableSound : Prop :=
  ∀ s t : State, s.TableSound → step s = .next t → t.TableSound

/-- Every step keeps the trap records sound, and keeps LOADING, STANDBY and SEEKING free of traps and held items. -/
def Obligations.StepKeepsTheTrapsSound : Prop :=
  ∀ s t : State, s.PortSound → s.TrapsSound → step s = .next t → t.TrapsSound

/-- Every step keeps every archive read that the engine issues within the archive. That the directory's extent is tested
before its slots are read follows notes/assumptions/42.md. -/
def Obligations.StepIssuesNoReadOutsideTheArchive : Prop :=
  ∀ s t : State, s.PortSound → s.HoldLineSound → s.QueueOrdered → s.TrapsSound → s.ReadsSound → step s = .next t →
    t.ReadsSound

/-- A faulted engine without a load or a read in progress stays FAULTED with its cause, sends nothing but its STATUS
frame, and configures no lane, through every command but a reset. -/
def Obligations.FaultedLastsUntilAReset : Prop :=
  ∀ (s t : State) (c : Instr), s.inReset = false → s.rc.mode = .faulted → s.rc.load = none → s.afu.request = none →
    s.afu.checkpoint = none → s.biu.inbound = [] → (∀ l, s.lane l = Lane.disabled) → c ≠ .powerOnReset →
    c ≠ .pinReset → exec c s = .next t →
    t.rc.mode = .faulted ∧ t.rc.faultCause = s.rc.faultCause ∧ t.rc.load = none ∧ t.afu.request = none ∧
      t.afu.checkpoint = none ∧ t.biu.inbound = [] ∧ (∀ l, t.lane l = Lane.disabled) ∧
      (t.biu.outbound ≠ none → t.biu.outbound = s.biu.outbound ∨
        t.biu.outbound = some { frame := s.statusFrame, entry := none })
end

