-- ==== Sys2Proof/Laws/State.lean ====
section
/-! SUPPORT. One lemma for each field after each plain update of the state: the field the update sets, or the field
as it was. -/

namespace Sys2Proof.Machine

variable (s : State)

/-! `State.setLane` -/

@[simp] theorem State.setLane_inReset (l : Fin 16) (x : Lane) : (s.setLane l x).inReset = s.inReset := rfl
@[simp] theorem State.setLane_straps (l : Fin 16) (x : Lane) : (s.setLane l x).straps = s.straps := rfl
@[simp] theorem State.setLane_ccu (l : Fin 16) (x : Lane) : (s.setLane l x).ccu = s.ccu := rfl
@[simp] theorem State.setLane_mq (l : Fin 16) (x : Lane) : (s.setLane l x).mq = s.mq := rfl
@[simp] theorem State.setLane_biu (l : Fin 16) (x : Lane) : (s.setLane l x).biu = s.biu := rfl
@[simp] theorem State.setLane_pu (l : Fin 16) (x : Lane) : (s.setLane l x).pu = s.pu := rfl
@[simp] theorem State.setLane_dst (l : Fin 16) (x : Lane) : (s.setLane l x).dst = s.dst := rfl
@[simp] theorem State.setLane_cku (l : Fin 16) (x : Lane) : (s.setLane l x).cku = s.cku := rfl
@[simp] theorem State.setLane_rc (l : Fin 16) (x : Lane) : (s.setLane l x).rc = s.rc := rfl
@[simp] theorem State.setLane_pending (l : Fin 16) (x : Lane) : (s.setLane l x).pending = s.pending := rfl
@[simp] theorem State.setLane_afu_lanes (l : Fin 16) (x : Lane) : (s.setLane l x).afu.lanes = s.afu.lanes.set l.val x := rfl
@[simp] theorem State.setLane_afu_rotation (l : Fin 16) (x : Lane) : (s.setLane l x).afu.rotation = s.afu.rotation := rfl
@[simp] theorem State.setLane_afu_request (l : Fin 16) (x : Lane) : (s.setLane l x).afu.request = s.afu.request := rfl
@[simp] theorem State.setLane_afu_visitCount (l : Fin 16) (x : Lane) : (s.setLane l x).afu.visitCount = s.afu.visitCount := rfl
@[simp] theorem State.setLane_afu_directory (l : Fin 16) (x : Lane) : (s.setLane l x).afu.directory = s.afu.directory := rfl
@[simp] theorem State.setLane_afu_checkpoint (l : Fin 16) (x : Lane) : (s.setLane l x).afu.checkpoint = s.afu.checkpoint := rfl
@[simp] theorem State.setLane_afu_atag (l : Fin 16) (x : Lane) : (s.setLane l x).afu.atag = s.afu.atag := rfl
@[simp] theorem State.setLane_afu_aadr (l : Fin 16) (x : Lane) : (s.setLane l x).afu.aadr = s.afu.aadr := rfl
@[simp] theorem State.setLane_afu_words (l : Fin 16) (x : Lane) : (s.setLane l x).afu.words = s.afu.words := rfl
@[simp] theorem State.setLane_afu_visitEnding (l : Fin 16) (x : Lane) : (s.setLane l x).afu.visitEnding = s.afu.visitEnding := rfl

/-! `State.mapLanesAt` -/

@[simp] theorem State.mapLanesAt_inReset (f : Fin 16 → Lane → Lane) : (s.mapLanesAt f).inReset = s.inReset := rfl
@[simp] theorem State.mapLanesAt_straps (f : Fin 16 → Lane → Lane) : (s.mapLanesAt f).straps = s.straps := rfl
@[simp] theorem State.mapLanesAt_ccu (f : Fin 16 → Lane → Lane) : (s.mapLanesAt f).ccu = s.ccu := rfl
@[simp] theorem State.mapLanesAt_mq (f : Fin 16 → Lane → Lane) : (s.mapLanesAt f).mq = s.mq := rfl
@[simp] theorem State.mapLanesAt_biu (f : Fin 16 → Lane → Lane) : (s.mapLanesAt f).biu = s.biu := rfl
@[simp] theorem State.mapLanesAt_pu (f : Fin 16 → Lane → Lane) : (s.mapLanesAt f).pu = s.pu := rfl
@[simp] theorem State.mapLanesAt_dst (f : Fin 16 → Lane → Lane) : (s.mapLanesAt f).dst = s.dst := rfl
@[simp] theorem State.mapLanesAt_cku (f : Fin 16 → Lane → Lane) : (s.mapLanesAt f).cku = s.cku := rfl
@[simp] theorem State.mapLanesAt_rc (f : Fin 16 → Lane → Lane) : (s.mapLanesAt f).rc = s.rc := rfl
@[simp] theorem State.mapLanesAt_pending (f : Fin 16 → Lane → Lane) : (s.mapLanesAt f).pending = s.pending := rfl
@[simp] theorem State.mapLanesAt_afu_lanes (f : Fin 16 → Lane → Lane) : (s.mapLanesAt f).afu.lanes = Vector.ofFn fun l => f l (s.lane l) := rfl
@[simp] theorem State.mapLanesAt_afu_rotation (f : Fin 16 → Lane → Lane) : (s.mapLanesAt f).afu.rotation = s.afu.rotation := rfl
@[simp] theorem State.mapLanesAt_afu_request (f : Fin 16 → Lane → Lane) : (s.mapLanesAt f).afu.request = s.afu.request := rfl
@[simp] theorem State.mapLanesAt_afu_visitCount (f : Fin 16 → Lane → Lane) : (s.mapLanesAt f).afu.visitCount = s.afu.visitCount := rfl
@[simp] theorem State.mapLanesAt_afu_directory (f : Fin 16 → Lane → Lane) : (s.mapLanesAt f).afu.directory = s.afu.directory := rfl
@[simp] theorem State.mapLanesAt_afu_checkpoint (f : Fin 16 → Lane → Lane) : (s.mapLanesAt f).afu.checkpoint = s.afu.checkpoint := rfl
@[simp] theorem State.mapLanesAt_afu_atag (f : Fin 16 → Lane → Lane) : (s.mapLanesAt f).afu.atag = s.afu.atag := rfl
@[simp] theorem State.mapLanesAt_afu_aadr (f : Fin 16 → Lane → Lane) : (s.mapLanesAt f).afu.aadr = s.afu.aadr := rfl
@[simp] theorem State.mapLanesAt_afu_words (f : Fin 16 → Lane → Lane) : (s.mapLanesAt f).afu.words = s.afu.words := rfl
@[simp] theorem State.mapLanesAt_afu_visitEnding (f : Fin 16 → Lane → Lane) : (s.mapLanesAt f).afu.visitEnding = s.afu.visitEnding := rfl

/-! `State.mapLanes` -/

@[simp] theorem State.mapLanes_inReset (f : Lane → Lane) : (s.mapLanes f).inReset = s.inReset := rfl
@[simp] theorem State.mapLanes_straps (f : Lane → Lane) : (s.mapLanes f).straps = s.straps := rfl
@[simp] theorem State.mapLanes_ccu (f : Lane → Lane) : (s.mapLanes f).ccu = s.ccu := rfl
@[simp] theorem State.mapLanes_mq (f : Lane → Lane) : (s.mapLanes f).mq = s.mq := rfl
@[simp] theorem State.mapLanes_biu (f : Lane → Lane) : (s.mapLanes f).biu = s.biu := rfl
@[simp] theorem State.mapLanes_pu (f : Lane → Lane) : (s.mapLanes f).pu = s.pu := rfl
@[simp] theorem State.mapLanes_dst (f : Lane → Lane) : (s.mapLanes f).dst = s.dst := rfl
@[simp] theorem State.mapLanes_cku (f : Lane → Lane) : (s.mapLanes f).cku = s.cku := rfl
@[simp] theorem State.mapLanes_rc (f : Lane → Lane) : (s.mapLanes f).rc = s.rc := rfl
@[simp] theorem State.mapLanes_pending (f : Lane → Lane) : (s.mapLanes f).pending = s.pending := rfl
@[simp] theorem State.mapLanes_afu_lanes (f : Lane → Lane) : (s.mapLanes f).afu.lanes = Vector.ofFn fun l => f (s.lane l) := rfl
@[simp] theorem State.mapLanes_afu_rotation (f : Lane → Lane) : (s.mapLanes f).afu.rotation = s.afu.rotation := rfl
@[simp] theorem State.mapLanes_afu_request (f : Lane → Lane) : (s.mapLanes f).afu.request = s.afu.request := rfl
@[simp] theorem State.mapLanes_afu_visitCount (f : Lane → Lane) : (s.mapLanes f).afu.visitCount = s.afu.visitCount := rfl
@[simp] theorem State.mapLanes_afu_directory (f : Lane → Lane) : (s.mapLanes f).afu.directory = s.afu.directory := rfl
@[simp] theorem State.mapLanes_afu_checkpoint (f : Lane → Lane) : (s.mapLanes f).afu.checkpoint = s.afu.checkpoint := rfl
@[simp] theorem State.mapLanes_afu_atag (f : Lane → Lane) : (s.mapLanes f).afu.atag = s.afu.atag := rfl
@[simp] theorem State.mapLanes_afu_aadr (f : Lane → Lane) : (s.mapLanes f).afu.aadr = s.afu.aadr := rfl
@[simp] theorem State.mapLanes_afu_words (f : Lane → Lane) : (s.mapLanes f).afu.words = s.afu.words := rfl
@[simp] theorem State.mapLanes_afu_visitEnding (f : Lane → Lane) : (s.mapLanes f).afu.visitEnding = s.afu.visitEnding := rfl

/-! `State.issueRead` -/

@[simp] theorem State.issueRead_inReset (o : ReadOwner) (n : Nat) (r : Bool) : (s.issueRead o n r).inReset = s.inReset := rfl
@[simp] theorem State.issueRead_straps (o : ReadOwner) (n : Nat) (r : Bool) : (s.issueRead o n r).straps = s.straps := rfl
@[simp] theorem State.issueRead_ccu (o : ReadOwner) (n : Nat) (r : Bool) : (s.issueRead o n r).ccu = s.ccu := rfl
@[simp] theorem State.issueRead_mq (o : ReadOwner) (n : Nat) (r : Bool) : (s.issueRead o n r).mq = s.mq := rfl
@[simp] theorem State.issueRead_biu (o : ReadOwner) (n : Nat) (r : Bool) : (s.issueRead o n r).biu = s.biu := rfl
@[simp] theorem State.issueRead_pu (o : ReadOwner) (n : Nat) (r : Bool) : (s.issueRead o n r).pu = s.pu := rfl
@[simp] theorem State.issueRead_dst (o : ReadOwner) (n : Nat) (r : Bool) : (s.issueRead o n r).dst = s.dst := rfl
@[simp] theorem State.issueRead_cku (o : ReadOwner) (n : Nat) (r : Bool) : (s.issueRead o n r).cku = s.cku := rfl
@[simp] theorem State.issueRead_rc (o : ReadOwner) (n : Nat) (r : Bool) : (s.issueRead o n r).rc = s.rc := rfl
@[simp] theorem State.issueRead_pending (o : ReadOwner) (n : Nat) (r : Bool) : (s.issueRead o n r).pending = s.pending := rfl
@[simp] theorem State.issueRead_afu_lanes (o : ReadOwner) (n : Nat) (r : Bool) : (s.issueRead o n r).afu.lanes = s.afu.lanes := rfl
@[simp] theorem State.issueRead_afu_rotation (o : ReadOwner) (n : Nat) (r : Bool) : (s.issueRead o n r).afu.rotation = s.afu.rotation := rfl
@[simp] theorem State.issueRead_afu_request (o : ReadOwner) (n : Nat) (r : Bool) : (s.issueRead o n r).afu.request = some { owner := o, slot := n, retry := r } := rfl
@[simp] theorem State.issueRead_afu_visitCount (o : ReadOwner) (n : Nat) (r : Bool) : (s.issueRead o n r).afu.visitCount = s.afu.visitCount := rfl
@[simp] theorem State.issueRead_afu_directory (o : ReadOwner) (n : Nat) (r : Bool) : (s.issueRead o n r).afu.directory = s.afu.directory := rfl
@[simp] theorem State.issueRead_afu_checkpoint (o : ReadOwner) (n : Nat) (r : Bool) : (s.issueRead o n r).afu.checkpoint = s.afu.checkpoint := rfl
@[simp] theorem State.issueRead_afu_atag (o : ReadOwner) (n : Nat) (r : Bool) : (s.issueRead o n r).afu.atag = !s.afu.atag := rfl
@[simp] theorem State.issueRead_afu_aadr (o : ReadOwner) (n : Nat) (r : Bool) : (s.issueRead o n r).afu.aadr = BitVec.ofNat 27 n := rfl
@[simp] theorem State.issueRead_afu_words (o : ReadOwner) (n : Nat) (r : Bool) : (s.issueRead o n r).afu.words = [] := rfl
@[simp] theorem State.issueRead_afu_visitEnding (o : ReadOwner) (n : Nat) (r : Bool) : (s.issueRead o n r).afu.visitEnding = s.afu.visitEnding := rfl

/-! `State.dropRead` -/

@[simp] theorem State.dropRead_inReset : (s.dropRead).inReset = s.inReset := rfl
@[simp] theorem State.dropRead_straps : (s.dropRead).straps = s.straps := rfl
@[simp] theorem State.dropRead_ccu : (s.dropRead).ccu = s.ccu := rfl
@[simp] theorem State.dropRead_mq : (s.dropRead).mq = s.mq := rfl
@[simp] theorem State.dropRead_biu : (s.dropRead).biu = s.biu := rfl
@[simp] theorem State.dropRead_pu : (s.dropRead).pu = s.pu := rfl
@[simp] theorem State.dropRead_dst : (s.dropRead).dst = s.dst := rfl
@[simp] theorem State.dropRead_cku : (s.dropRead).cku = s.cku := rfl
@[simp] theorem State.dropRead_rc : (s.dropRead).rc = s.rc := rfl
@[simp] theorem State.dropRead_pending : (s.dropRead).pending = s.pending := rfl
@[simp] theorem State.dropRead_afu_lanes : (s.dropRead).afu.lanes = s.afu.lanes := rfl
@[simp] theorem State.dropRead_afu_rotation : (s.dropRead).afu.rotation = s.afu.rotation := rfl
@[simp] theorem State.dropRead_afu_request : (s.dropRead).afu.request = none := rfl
@[simp] theorem State.dropRead_afu_visitCount : (s.dropRead).afu.visitCount = s.afu.visitCount := rfl
@[simp] theorem State.dropRead_afu_directory : (s.dropRead).afu.directory = s.afu.directory := rfl
@[simp] theorem State.dropRead_afu_checkpoint : (s.dropRead).afu.checkpoint = s.afu.checkpoint := rfl
@[simp] theorem State.dropRead_afu_atag : (s.dropRead).afu.atag = s.afu.atag := rfl
@[simp] theorem State.dropRead_afu_aadr : (s.dropRead).afu.aadr = s.afu.aadr := rfl
@[simp] theorem State.dropRead_afu_words : (s.dropRead).afu.words = [] := rfl
@[simp] theorem State.dropRead_afu_visitEnding : (s.dropRead).afu.visitEnding = s.afu.visitEnding := rfl

/-! `State.endVisit` -/

@[simp] theorem State.endVisit_inReset (l : Fin 16) : (s.endVisit l).inReset = s.inReset := rfl
@[simp] theorem State.endVisit_straps (l : Fin 16) : (s.endVisit l).straps = s.straps := rfl
@[simp] theorem State.endVisit_ccu (l : Fin 16) : (s.endVisit l).ccu = s.ccu := rfl
@[simp] theorem State.endVisit_mq (l : Fin 16) : (s.endVisit l).mq = s.mq := rfl
@[simp] theorem State.endVisit_biu (l : Fin 16) : (s.endVisit l).biu = s.biu := rfl
@[simp] theorem State.endVisit_pu (l : Fin 16) : (s.endVisit l).pu = s.pu := rfl
@[simp] theorem State.endVisit_dst (l : Fin 16) : (s.endVisit l).dst = s.dst := rfl
@[simp] theorem State.endVisit_cku (l : Fin 16) : (s.endVisit l).cku = s.cku := rfl
@[simp] theorem State.endVisit_rc (l : Fin 16) : (s.endVisit l).rc = s.rc := rfl
@[simp] theorem State.endVisit_pending (l : Fin 16) : (s.endVisit l).pending = s.pending := rfl
@[simp] theorem State.endVisit_afu_lanes (l : Fin 16) : (s.endVisit l).afu.lanes = s.afu.lanes := rfl
@[simp] theorem State.endVisit_afu_rotation (l : Fin 16) : (s.endVisit l).afu.rotation = l + 1 := rfl
@[simp] theorem State.endVisit_afu_request (l : Fin 16) : (s.endVisit l).afu.request = s.afu.request := rfl
@[simp] theorem State.endVisit_afu_visitCount (l : Fin 16) : (s.endVisit l).afu.visitCount = s.afu.visitCount := rfl
@[simp] theorem State.endVisit_afu_directory (l : Fin 16) : (s.endVisit l).afu.directory = s.afu.directory := rfl
@[simp] theorem State.endVisit_afu_checkpoint (l : Fin 16) : (s.endVisit l).afu.checkpoint = s.afu.checkpoint := rfl
@[simp] theorem State.endVisit_afu_atag (l : Fin 16) : (s.endVisit l).afu.atag = s.afu.atag := rfl
@[simp] theorem State.endVisit_afu_aadr (l : Fin 16) : (s.endVisit l).afu.aadr = s.afu.aadr := rfl
@[simp] theorem State.endVisit_afu_words (l : Fin 16) : (s.endVisit l).afu.words = s.afu.words := rfl
@[simp] theorem State.endVisit_afu_visitEnding (l : Fin 16) : (s.endVisit l).afu.visitEnding = false := rfl

/-! `State.ceaseVisits` -/

@[simp] theorem State.ceaseVisits_inReset : (s.ceaseVisits).inReset = s.inReset := rfl
@[simp] theorem State.ceaseVisits_straps : (s.ceaseVisits).straps = s.straps := rfl
@[simp] theorem State.ceaseVisits_ccu : (s.ceaseVisits).ccu = s.ccu := rfl
@[simp] theorem State.ceaseVisits_mq : (s.ceaseVisits).mq = s.mq := rfl
@[simp] theorem State.ceaseVisits_biu : (s.ceaseVisits).biu = s.biu := rfl
@[simp] theorem State.ceaseVisits_pu : (s.ceaseVisits).pu = s.pu := rfl
@[simp] theorem State.ceaseVisits_dst : (s.ceaseVisits).dst = s.dst := rfl
@[simp] theorem State.ceaseVisits_cku : (s.ceaseVisits).cku = s.cku := rfl
@[simp] theorem State.ceaseVisits_rc : (s.ceaseVisits).rc = s.rc := rfl
@[simp] theorem State.ceaseVisits_pending : (s.ceaseVisits).pending = s.pending := rfl
@[simp] theorem State.ceaseVisits_afu_lanes : (s.ceaseVisits).afu.lanes = s.afu.lanes := rfl
@[simp] theorem State.ceaseVisits_afu_rotation : (s.ceaseVisits).afu.rotation = s.afu.rotation := rfl
@[simp] theorem State.ceaseVisits_afu_request : (s.ceaseVisits).afu.request = s.afu.request := rfl
@[simp] theorem State.ceaseVisits_afu_visitCount : (s.ceaseVisits).afu.visitCount = s.afu.visitCount := rfl
@[simp] theorem State.ceaseVisits_afu_directory : (s.ceaseVisits).afu.directory = s.afu.directory := rfl
@[simp] theorem State.ceaseVisits_afu_checkpoint : (s.ceaseVisits).afu.checkpoint = s.afu.checkpoint := rfl
@[simp] theorem State.ceaseVisits_afu_atag : (s.ceaseVisits).afu.atag = s.afu.atag := rfl
@[simp] theorem State.ceaseVisits_afu_aadr : (s.ceaseVisits).afu.aadr = s.afu.aadr := rfl
@[simp] theorem State.ceaseVisits_afu_words : (s.ceaseVisits).afu.words = s.afu.words := rfl
@[simp] theorem State.ceaseVisits_afu_visitEnding :
    (s.ceaseVisits).afu.visitEnding = (s.afu.visitEnding || s.readsForLane) := rfl

/-! `State.removeEntry` -/

@[simp] theorem State.removeEntry_inReset (k : EntryKey) : (s.removeEntry k).inReset = s.inReset := rfl
@[simp] theorem State.removeEntry_straps (k : EntryKey) : (s.removeEntry k).straps = s.straps := rfl
@[simp] theorem State.removeEntry_afu (k : EntryKey) : (s.removeEntry k).afu = s.afu := rfl
@[simp] theorem State.removeEntry_ccu (k : EntryKey) : (s.removeEntry k).ccu = s.ccu := rfl
@[simp] theorem State.removeEntry_biu (k : EntryKey) : (s.removeEntry k).biu = s.biu := rfl
@[simp] theorem State.removeEntry_pu (k : EntryKey) : (s.removeEntry k).pu = s.pu := rfl
@[simp] theorem State.removeEntry_dst (k : EntryKey) : (s.removeEntry k).dst = s.dst := rfl
@[simp] theorem State.removeEntry_cku (k : EntryKey) : (s.removeEntry k).cku = s.cku := rfl
@[simp] theorem State.removeEntry_rc (k : EntryKey) : (s.removeEntry k).rc = s.rc := rfl
@[simp] theorem State.removeEntry_pending (k : EntryKey) : (s.removeEntry k).pending = s.pending := rfl
@[simp] theorem State.removeEntry_mq_entries (k : EntryKey) : (s.removeEntry k).mq.entries = s.mq.entries.filter fun e => !(e.key == k) := rfl
@[simp] theorem State.removeEntry_mq_cut (k : EntryKey) : (s.removeEntry k).mq.cut = s.mq.cut := rfl

/-! `State.markReleased` -/

@[simp] theorem State.markReleased_inReset (k : EntryKey) : (s.markReleased k).inReset = s.inReset := rfl
@[simp] theorem State.markReleased_straps (k : EntryKey) : (s.markReleased k).straps = s.straps := rfl
@[simp] theorem State.markReleased_afu (k : EntryKey) : (s.markReleased k).afu = s.afu := rfl
@[simp] theorem State.markReleased_ccu (k : EntryKey) : (s.markReleased k).ccu = s.ccu := rfl
@[simp] theorem State.markReleased_biu (k : EntryKey) : (s.markReleased k).biu = s.biu := rfl
@[simp] theorem State.markReleased_pu (k : EntryKey) : (s.markReleased k).pu = s.pu := rfl
@[simp] theorem State.markReleased_dst (k : EntryKey) : (s.markReleased k).dst = s.dst := rfl
@[simp] theorem State.markReleased_cku (k : EntryKey) : (s.markReleased k).cku = s.cku := rfl
@[simp] theorem State.markReleased_rc (k : EntryKey) : (s.markReleased k).rc = s.rc := rfl
@[simp] theorem State.markReleased_pending (k : EntryKey) : (s.markReleased k).pending = s.pending := rfl
@[simp] theorem State.markReleased_mq_entries (k : EntryKey) : (s.markReleased k).mq.entries = s.mq.entries.map fun e => if e.key == k then { e with released := true } else e := rfl
@[simp] theorem State.markReleased_mq_cut (k : EntryKey) : (s.markReleased k).mq.cut = s.mq.cut := rfl

/-! `State.flushQueue` -/

@[simp] theorem State.flushQueue_inReset : (s.flushQueue).inReset = s.inReset := rfl
@[simp] theorem State.flushQueue_straps : (s.flushQueue).straps = s.straps := rfl
@[simp] theorem State.flushQueue_afu : (s.flushQueue).afu = s.afu := rfl
@[simp] theorem State.flushQueue_ccu : (s.flushQueue).ccu = s.ccu := rfl
@[simp] theorem State.flushQueue_biu : (s.flushQueue).biu = s.biu := rfl
@[simp] theorem State.flushQueue_pu : (s.flushQueue).pu = s.pu := rfl
@[simp] theorem State.flushQueue_dst : (s.flushQueue).dst = s.dst := rfl
@[simp] theorem State.flushQueue_cku : (s.flushQueue).cku = s.cku := rfl
@[simp] theorem State.flushQueue_rc : (s.flushQueue).rc = s.rc := rfl
@[simp] theorem State.flushQueue_pending : (s.flushQueue).pending = s.pending := rfl
@[simp] theorem State.flushQueue_mq_entries : (s.flushQueue).mq.entries = [] := rfl
@[simp] theorem State.flushQueue_mq_cut : (s.flushQueue).mq.cut = .absent := rfl

/-! `State.popInbound` -/

@[simp] theorem State.popInbound_inReset : (s.popInbound).inReset = s.inReset := rfl
@[simp] theorem State.popInbound_straps : (s.popInbound).straps = s.straps := rfl
@[simp] theorem State.popInbound_afu : (s.popInbound).afu = s.afu := rfl
@[simp] theorem State.popInbound_ccu : (s.popInbound).ccu = s.ccu := rfl
@[simp] theorem State.popInbound_mq : (s.popInbound).mq = s.mq := rfl
@[simp] theorem State.popInbound_pu : (s.popInbound).pu = s.pu := rfl
@[simp] theorem State.popInbound_dst : (s.popInbound).dst = s.dst := rfl
@[simp] theorem State.popInbound_cku : (s.popInbound).cku = s.cku := rfl
@[simp] theorem State.popInbound_rc : (s.popInbound).rc = s.rc := rfl
@[simp] theorem State.popInbound_pending : (s.popInbound).pending = s.pending := rfl
@[simp] theorem State.popInbound_biu_state : (s.popInbound).biu.state = s.biu.state := rfl
@[simp] theorem State.popInbound_biu_outbound : (s.popInbound).biu.outbound = s.biu.outbound := rfl
@[simp] theorem State.popInbound_biu_inbound : (s.popInbound).biu.inbound = s.biu.inbound.tail := rfl
@[simp] theorem State.popInbound_biu_vetoCount : (s.popInbound).biu.vetoCount = s.biu.vetoCount := rfl
@[simp] theorem State.popInbound_biu_failureCount : (s.popInbound).biu.failureCount = s.biu.failureCount := rfl
@[simp] theorem State.popInbound_biu_fullAtOpen : (s.popInbound).biu.fullAtOpen = s.biu.fullAtOpen := rfl
@[simp] theorem State.popInbound_biu_discarding : (s.popInbound).biu.discarding = s.biu.discarding := rfl

/-! `State.busIdle` -/

@[simp] theorem State.busIdle_inReset : (s.busIdle).inReset = s.inReset := rfl
@[simp] theorem State.busIdle_straps : (s.busIdle).straps = s.straps := rfl
@[simp] theorem State.busIdle_afu : (s.busIdle).afu = s.afu := rfl
@[simp] theorem State.busIdle_ccu : (s.busIdle).ccu = s.ccu := rfl
@[simp] theorem State.busIdle_mq : (s.busIdle).mq = s.mq := rfl
@[simp] theorem State.busIdle_pu : (s.busIdle).pu = s.pu := rfl
@[simp] theorem State.busIdle_dst : (s.busIdle).dst = s.dst := rfl
@[simp] theorem State.busIdle_cku : (s.busIdle).cku = s.cku := rfl
@[simp] theorem State.busIdle_rc : (s.busIdle).rc = s.rc := rfl
@[simp] theorem State.busIdle_pending : (s.busIdle).pending = s.pending := rfl
@[simp] theorem State.busIdle_biu_state : (s.busIdle).biu.state = .idle := rfl
@[simp] theorem State.busIdle_biu_outbound : (s.busIdle).biu.outbound = none := rfl
@[simp] theorem State.busIdle_biu_inbound : (s.busIdle).biu.inbound = s.biu.inbound := rfl
@[simp] theorem State.busIdle_biu_vetoCount : (s.busIdle).biu.vetoCount = s.biu.vetoCount := rfl
@[simp] theorem State.busIdle_biu_failureCount : (s.busIdle).biu.failureCount = s.biu.failureCount := rfl
@[simp] theorem State.busIdle_biu_fullAtOpen : (s.busIdle).biu.fullAtOpen = s.biu.fullAtOpen := rfl
@[simp] theorem State.busIdle_biu_discarding : (s.busIdle).biu.discarding = s.biu.discarding := rfl

/-! `State.refreshDrive` -/

@[simp] theorem State.refreshDrive_inReset : (s.refreshDrive).inReset = s.inReset := rfl
@[simp] theorem State.refreshDrive_straps : (s.refreshDrive).straps = s.straps := rfl
@[simp] theorem State.refreshDrive_afu : (s.refreshDrive).afu = s.afu := rfl
@[simp] theorem State.refreshDrive_ccu : (s.refreshDrive).ccu = s.ccu := rfl
@[simp] theorem State.refreshDrive_mq : (s.refreshDrive).mq = s.mq := rfl
@[simp] theorem State.refreshDrive_biu : (s.refreshDrive).biu = s.biu := rfl
@[simp] theorem State.refreshDrive_dst : (s.refreshDrive).dst = s.dst := rfl
@[simp] theorem State.refreshDrive_cku : (s.refreshDrive).cku = s.cku := rfl
@[simp] theorem State.refreshDrive_rc : (s.refreshDrive).rc = s.rc := rfl
@[simp] theorem State.refreshDrive_pending : (s.refreshDrive).pending = s.pending := rfl
@[simp] theorem State.refreshDrive_pu_windowStart : (s.refreshDrive).pu.windowStart = s.pu.windowStart := rfl
@[simp] theorem State.refreshDrive_pu_windowEnd : (s.refreshDrive).pu.windowEnd = s.pu.windowEnd := rfl
@[simp] theorem State.refreshDrive_pu_span : (s.refreshDrive).pu.span = s.pu.span := rfl
@[simp] theorem State.refreshDrive_pu_pace : (s.refreshDrive).pu.pace = s.pu.pace := rfl
@[simp] theorem State.refreshDrive_pu_budget : (s.refreshDrive).pu.budget = s.pu.budget := rfl
@[simp] theorem State.refreshDrive_pu_pausePending : (s.refreshDrive).pu.pausePending = s.pu.pausePending := rfl
@[simp] theorem State.refreshDrive_pu_phase : (s.refreshDrive).pu.phase = s.pu.phase := rfl
@[simp] theorem State.refreshDrive_pu_drive : (s.refreshDrive).pu.drive = s.driveFor := rfl
@[simp] theorem State.refreshDrive_pu_closePulse : (s.refreshDrive).pu.closePulse = s.pu.closePulse := rfl
@[simp] theorem State.refreshDrive_pu_paceTimer : (s.refreshDrive).pu.paceTimer = s.pu.paceTimer := rfl
@[simp] theorem State.refreshDrive_pu_timebase : (s.refreshDrive).pu.timebase = s.pu.timebase := rfl

/-! `State.warnIf` -/

@[simp] theorem State.warnIf_inReset (b : Bool) : (s.warnIf b).inReset = s.inReset := rfl
@[simp] theorem State.warnIf_straps (b : Bool) : (s.warnIf b).straps = s.straps := rfl
@[simp] theorem State.warnIf_afu (b : Bool) : (s.warnIf b).afu = s.afu := rfl
@[simp] theorem State.warnIf_ccu (b : Bool) : (s.warnIf b).ccu = s.ccu := rfl
@[simp] theorem State.warnIf_mq (b : Bool) : (s.warnIf b).mq = s.mq := rfl
@[simp] theorem State.warnIf_biu (b : Bool) : (s.warnIf b).biu = s.biu := rfl
@[simp] theorem State.warnIf_pu (b : Bool) : (s.warnIf b).pu = s.pu := rfl
@[simp] theorem State.warnIf_dst (b : Bool) : (s.warnIf b).dst = s.dst := rfl
@[simp] theorem State.warnIf_cku (b : Bool) : (s.warnIf b).cku = s.cku := rfl
@[simp] theorem State.warnIf_pending (b : Bool) : (s.warnIf b).pending = s.pending := rfl
@[simp] theorem State.warnIf_rc_mode (b : Bool) : (s.warnIf b).rc.mode = s.rc.mode := rfl
@[simp] theorem State.warnIf_rc_modeAfterSeek (b : Bool) : (s.warnIf b).rc.modeAfterSeek = s.rc.modeAfterSeek := rfl
@[simp] theorem State.warnIf_rc_startCause (b : Bool) : (s.warnIf b).rc.startCause = s.rc.startCause := rfl
@[simp] theorem State.warnIf_rc_faultCause (b : Bool) : (s.warnIf b).rc.faultCause = s.rc.faultCause := rfl
@[simp] theorem State.warnIf_rc_configWarning (b : Bool) : (s.warnIf b).rc.configWarning = (s.rc.configWarning || b) := rfl
@[simp] theorem State.warnIf_rc_seekDegraded (b : Bool) : (s.warnIf b).rc.seekDegraded = s.rc.seekDegraded := rfl
@[simp] theorem State.warnIf_rc_seekTime (b : Bool) : (s.warnIf b).rc.seekTime = s.rc.seekTime := rfl
@[simp] theorem State.warnIf_rc_statusPending (b : Bool) : (s.warnIf b).rc.statusPending = s.rc.statusPending := rfl
@[simp] theorem State.warnIf_rc_load (b : Bool) : (s.warnIf b).rc.load = s.rc.load := rfl

/-! The lanes after an update. -/

theorem State.lane_setLane (l m : Fin 16) (x : Lane) : (s.setLane l x).lane m = if m = l then x else s.lane m := by
  simp only [State.lane, State.setLane, Fin.getElem_fin, Vector.getElem_set, Fin.ext_iff, eq_comm]

@[simp] theorem State.lane_setLane_same (l : Fin 16) (x : Lane) : (s.setLane l x).lane l = x := by
  simp [State.lane_setLane]

theorem State.lane_setLane_other {l m : Fin 16} (h : m ≠ l) (x : Lane) : (s.setLane l x).lane m = s.lane m := by
  simp [State.lane_setLane, h]

@[simp] theorem State.lane_mapLanesAt (f : Fin 16 → Lane → Lane) (l : Fin 16) :
    (s.mapLanesAt f).lane l = f l (s.lane l) := by
  simp [State.lane, State.mapLanesAt]

@[simp] theorem State.lane_mapLanes (f : Lane → Lane) (l : Fin 16) : (s.mapLanes f).lane l = f (s.lane l) := by
  simp [State.mapLanes]

@[simp] theorem State.lane_issueRead (o : ReadOwner) (n : Nat) (r : Bool) (l' : Fin 16) : (s.issueRead o n r).lane l' = s.lane l' := rfl
@[simp] theorem State.lane_dropRead (l' : Fin 16) : (s.dropRead).lane l' = s.lane l' := rfl
@[simp] theorem State.lane_endVisit (l : Fin 16) (l' : Fin 16) : (s.endVisit l).lane l' = s.lane l' := rfl
@[simp] theorem State.lane_removeEntry (k : EntryKey) (l' : Fin 16) : (s.removeEntry k).lane l' = s.lane l' := rfl
@[simp] theorem State.lane_markReleased (k : EntryKey) (l' : Fin 16) : (s.markReleased k).lane l' = s.lane l' := rfl
@[simp] theorem State.lane_flushQueue (l' : Fin 16) : (s.flushQueue).lane l' = s.lane l' := rfl
@[simp] theorem State.lane_popInbound (l' : Fin 16) : (s.popInbound).lane l' = s.lane l' := rfl
@[simp] theorem State.lane_busIdle (l' : Fin 16) : (s.busIdle).lane l' = s.lane l' := rfl
@[simp] theorem State.lane_refreshDrive (l' : Fin 16) : (s.refreshDrive).lane l' = s.lane l' := rfl
@[simp] theorem State.lane_warnIf (b : Bool) (l' : Fin 16) : (s.warnIf b).lane l' = s.lane l' := rfl

end Sys2Proof.Machine
end

