-- ==== Sys2Proof/Laws/Frames.lean ====
section
/-! SUPPORT. The frames of the shared operations: every field each of them leaves as it was. -/

namespace Sys2Proof.Machine

/-- A fold keeps what each of its steps keeps. -/
theorem foldl_keeps {α β γ : Type} (f : β → α → β) (g : β → γ) (h : ∀ b a, g (f b a) = g b) (l : List α) (b : β) :
    g (l.foldl f b) = g b := by
  induction l generalizing b with
  | nil => rfl
  | cons a l ih => rw [List.foldl_cons, ih, h]

variable (s : State)

/-! `State.raiseFinding` -/

@[simp] theorem State.raiseFinding_inReset (f : Finding) : (s.raiseFinding f).inReset = s.inReset := by
  unfold State.raiseFinding; split <;> rfl
@[simp] theorem State.raiseFinding_straps (f : Finding) : (s.raiseFinding f).straps = s.straps := by
  unfold State.raiseFinding; split <;> rfl
@[simp] theorem State.raiseFinding_afu (f : Finding) : (s.raiseFinding f).afu = s.afu := by
  unfold State.raiseFinding; split <;> rfl
@[simp] theorem State.raiseFinding_ccu (f : Finding) : (s.raiseFinding f).ccu = s.ccu := by
  unfold State.raiseFinding; split <;> rfl
@[simp] theorem State.raiseFinding_mq (f : Finding) : (s.raiseFinding f).mq = s.mq := by
  unfold State.raiseFinding; split <;> rfl
@[simp] theorem State.raiseFinding_biu (f : Finding) : (s.raiseFinding f).biu = s.biu := by
  unfold State.raiseFinding; split <;> rfl
@[simp] theorem State.raiseFinding_pu (f : Finding) : (s.raiseFinding f).pu = s.pu := by
  unfold State.raiseFinding; split <;> rfl
@[simp] theorem State.raiseFinding_dst (f : Finding) : (s.raiseFinding f).dst = s.dst := by
  unfold State.raiseFinding; split <;> rfl
@[simp] theorem State.raiseFinding_cku_tolerance (f : Finding) :
    (s.raiseFinding f).cku.tolerance = s.cku.tolerance := by
  unfold State.raiseFinding; split <;> rfl
@[simp] theorem State.raiseFinding_rc (f : Finding) : (s.raiseFinding f).rc = s.rc := by
  unfold State.raiseFinding; split <;> rfl
@[simp] theorem State.raiseFinding_pending (f : Finding) : (s.raiseFinding f).pending = s.pending := by
  unfold State.raiseFinding; split <;> rfl

/-! `State.pushInbound` -/

@[simp] theorem State.pushInbound_inReset (f : Frame) : (s.pushInbound f).inReset = s.inReset := by
  unfold State.pushInbound; split <;> rfl
@[simp] theorem State.pushInbound_straps (f : Frame) : (s.pushInbound f).straps = s.straps := by
  unfold State.pushInbound; split <;> rfl
@[simp] theorem State.pushInbound_afu (f : Frame) : (s.pushInbound f).afu = s.afu := by
  unfold State.pushInbound; split <;> rfl
@[simp] theorem State.pushInbound_ccu (f : Frame) : (s.pushInbound f).ccu = s.ccu := by
  unfold State.pushInbound; split <;> rfl
@[simp] theorem State.pushInbound_mq (f : Frame) : (s.pushInbound f).mq = s.mq := by
  unfold State.pushInbound; split <;> rfl
@[simp] theorem State.pushInbound_biu_state (f : Frame) : (s.pushInbound f).biu.state = s.biu.state := by
  unfold State.pushInbound; split <;> rfl
@[simp] theorem State.pushInbound_biu_outbound (f : Frame) : (s.pushInbound f).biu.outbound = s.biu.outbound := by
  unfold State.pushInbound; split <;> rfl
@[simp] theorem State.pushInbound_biu_vetoCount (f : Frame) : (s.pushInbound f).biu.vetoCount = s.biu.vetoCount := by
  unfold State.pushInbound; split <;> rfl
@[simp] theorem State.pushInbound_biu_failureCount (f : Frame) :
    (s.pushInbound f).biu.failureCount = s.biu.failureCount := by
  unfold State.pushInbound; split <;> rfl
@[simp] theorem State.pushInbound_biu_fullAtOpen (f : Frame) :
    (s.pushInbound f).biu.fullAtOpen = s.biu.fullAtOpen := by
  unfold State.pushInbound; split <;> rfl
@[simp] theorem State.pushInbound_biu_discarding (f : Frame) :
    (s.pushInbound f).biu.discarding = s.biu.discarding := by
  unfold State.pushInbound; split <;> rfl
@[simp] theorem State.pushInbound_pu (f : Frame) : (s.pushInbound f).pu = s.pu := by
  unfold State.pushInbound; split <;> rfl
@[simp] theorem State.pushInbound_dst (f : Frame) : (s.pushInbound f).dst = s.dst := by
  unfold State.pushInbound; split <;> rfl
@[simp] theorem State.pushInbound_cku (f : Frame) : (s.pushInbound f).cku = s.cku := by
  unfold State.pushInbound; split <;> rfl
@[simp] theorem State.pushInbound_rc (f : Frame) : (s.pushInbound f).rc = s.rc := by
  unfold State.pushInbound; split <;> rfl
@[simp] theorem State.pushInbound_pending (f : Frame) : (s.pushInbound f).pending = s.pending := by
  unfold State.pushInbound; split <;> rfl

/-! `State.placeStatus` -/

@[simp] theorem State.placeStatus_inReset : (s.placeStatus).inReset = s.inReset := by
  unfold State.placeStatus; split <;> rfl
@[simp] theorem State.placeStatus_straps : (s.placeStatus).straps = s.straps := by
  unfold State.placeStatus; split <;> rfl
@[simp] theorem State.placeStatus_afu : (s.placeStatus).afu = s.afu := by
  unfold State.placeStatus; split <;> rfl
@[simp] theorem State.placeStatus_ccu : (s.placeStatus).ccu = s.ccu := by
  unfold State.placeStatus; split <;> rfl
@[simp] theorem State.placeStatus_mq : (s.placeStatus).mq = s.mq := by
  unfold State.placeStatus; split <;> rfl
@[simp] theorem State.placeStatus_biu : (s.placeStatus).biu = s.biu := by
  unfold State.placeStatus; split <;> rfl
@[simp] theorem State.placeStatus_pu : (s.placeStatus).pu = s.pu := by
  unfold State.placeStatus; split <;> rfl
@[simp] theorem State.placeStatus_dst : (s.placeStatus).dst = s.dst := by
  unfold State.placeStatus; split <;> rfl
@[simp] theorem State.placeStatus_cku : (s.placeStatus).cku = s.cku := by
  unfold State.placeStatus; split <;> rfl
@[simp] theorem State.placeStatus_rc_mode : (s.placeStatus).rc.mode = s.rc.mode := by
  unfold State.placeStatus; split <;> rfl
@[simp] theorem State.placeStatus_rc_modeAfterSeek : (s.placeStatus).rc.modeAfterSeek = s.rc.modeAfterSeek := by
  unfold State.placeStatus; split <;> rfl
@[simp] theorem State.placeStatus_rc_startCause : (s.placeStatus).rc.startCause = s.rc.startCause := by
  unfold State.placeStatus; split <;> rfl
@[simp] theorem State.placeStatus_rc_faultCause : (s.placeStatus).rc.faultCause = s.rc.faultCause := by
  unfold State.placeStatus; split <;> rfl
@[simp] theorem State.placeStatus_rc_configWarning : (s.placeStatus).rc.configWarning = s.rc.configWarning := by
  unfold State.placeStatus; split <;> rfl
@[simp] theorem State.placeStatus_rc_seekDegraded : (s.placeStatus).rc.seekDegraded = s.rc.seekDegraded := by
  unfold State.placeStatus; split <;> rfl
@[simp] theorem State.placeStatus_rc_seekTime : (s.placeStatus).rc.seekTime = s.rc.seekTime := by
  unfold State.placeStatus; split <;> rfl
@[simp] theorem State.placeStatus_rc_load : (s.placeStatus).rc.load = s.rc.load := by
  unfold State.placeStatus; split <;> rfl
@[simp] theorem State.placeStatus_pending : (s.placeStatus).pending = s.pending := by
  unfold State.placeStatus; split <;> rfl

/-! `State.insertEvent` -/

@[simp] theorem State.insertEvent_inReset (l : Fin 16) (e : HeldEvent) : (s.insertEvent l e).inReset = s.inReset := by
  rfl
@[simp] theorem State.insertEvent_straps (l : Fin 16) (e : HeldEvent) : (s.insertEvent l e).straps = s.straps := by
  rfl
@[simp] theorem State.insertEvent_afu_rotation (l : Fin 16) (e : HeldEvent) :
    (s.insertEvent l e).afu.rotation = s.afu.rotation := by
  rfl
@[simp] theorem State.insertEvent_afu_request (l : Fin 16) (e : HeldEvent) :
    (s.insertEvent l e).afu.request = s.afu.request := by
  rfl
@[simp] theorem State.insertEvent_afu_visitCount (l : Fin 16) (e : HeldEvent) :
    (s.insertEvent l e).afu.visitCount = s.afu.visitCount := by
  rfl
@[simp] theorem State.insertEvent_afu_directory (l : Fin 16) (e : HeldEvent) :
    (s.insertEvent l e).afu.directory = s.afu.directory := by
  rfl
@[simp] theorem State.insertEvent_afu_checkpoint (l : Fin 16) (e : HeldEvent) :
    (s.insertEvent l e).afu.checkpoint = s.afu.checkpoint := by
  rfl
@[simp] theorem State.insertEvent_afu_atag (l : Fin 16) (e : HeldEvent) :
    (s.insertEvent l e).afu.atag = s.afu.atag := by
  rfl
@[simp] theorem State.insertEvent_afu_aadr (l : Fin 16) (e : HeldEvent) :
    (s.insertEvent l e).afu.aadr = s.afu.aadr := by
  rfl
@[simp] theorem State.insertEvent_afu_words (l : Fin 16) (e : HeldEvent) :
    (s.insertEvent l e).afu.words = s.afu.words := by
  rfl
@[simp] theorem State.insertEvent_afu_visitEnding (l : Fin 16) (e : HeldEvent) :
    (s.insertEvent l e).afu.visitEnding = s.afu.visitEnding := by
  rfl
@[simp] theorem State.insertEvent_ccu (l : Fin 16) (e : HeldEvent) : (s.insertEvent l e).ccu = s.ccu := by
  rfl
@[simp] theorem State.insertEvent_mq_cut (l : Fin 16) (e : HeldEvent) : (s.insertEvent l e).mq.cut = s.mq.cut := by
  rfl
@[simp] theorem State.insertEvent_biu (l : Fin 16) (e : HeldEvent) : (s.insertEvent l e).biu = s.biu := by
  rfl
@[simp] theorem State.insertEvent_pu (l : Fin 16) (e : HeldEvent) : (s.insertEvent l e).pu = s.pu := by
  rfl
@[simp] theorem State.insertEvent_dst (l : Fin 16) (e : HeldEvent) : (s.insertEvent l e).dst = s.dst := by
  rfl
@[simp] theorem State.insertEvent_cku (l : Fin 16) (e : HeldEvent) : (s.insertEvent l e).cku = s.cku := by
  rfl
@[simp] theorem State.insertEvent_rc (l : Fin 16) (e : HeldEvent) : (s.insertEvent l e).rc = s.rc := by
  rfl
@[simp] theorem State.insertEvent_pending (l : Fin 16) (e : HeldEvent) : (s.insertEvent l e).pending = s.pending := by
  rfl

/-! `State.retestLane` -/

@[simp] theorem State.retestLane_inReset (l : Fin 16) : (s.retestLane l).inReset = s.inReset := by
  unfold State.retestLane; split <;> [split <;> rfl; rfl]
@[simp] theorem State.retestLane_straps (l : Fin 16) : (s.retestLane l).straps = s.straps := by
  unfold State.retestLane; split <;> [split <;> rfl; rfl]
@[simp] theorem State.retestLane_afu_rotation (l : Fin 16) : (s.retestLane l).afu.rotation = s.afu.rotation := by
  unfold State.retestLane; split <;> [split <;> rfl; rfl]
@[simp] theorem State.retestLane_afu_request (l : Fin 16) : (s.retestLane l).afu.request = s.afu.request := by
  unfold State.retestLane; split <;> [split <;> rfl; rfl]
@[simp] theorem State.retestLane_afu_visitCount (l : Fin 16) :
    (s.retestLane l).afu.visitCount = s.afu.visitCount := by
  unfold State.retestLane; split <;> [split <;> rfl; rfl]
@[simp] theorem State.retestLane_afu_directory (l : Fin 16) : (s.retestLane l).afu.directory = s.afu.directory := by
  unfold State.retestLane; split <;> [split <;> rfl; rfl]
@[simp] theorem State.retestLane_afu_checkpoint (l : Fin 16) :
    (s.retestLane l).afu.checkpoint = s.afu.checkpoint := by
  unfold State.retestLane; split <;> [split <;> rfl; rfl]
@[simp] theorem State.retestLane_afu_atag (l : Fin 16) : (s.retestLane l).afu.atag = s.afu.atag := by
  unfold State.retestLane; split <;> [split <;> rfl; rfl]
@[simp] theorem State.retestLane_afu_aadr (l : Fin 16) : (s.retestLane l).afu.aadr = s.afu.aadr := by
  unfold State.retestLane; split <;> [split <;> rfl; rfl]
@[simp] theorem State.retestLane_afu_words (l : Fin 16) : (s.retestLane l).afu.words = s.afu.words := by
  unfold State.retestLane; split <;> [split <;> rfl; rfl]
@[simp] theorem State.retestLane_afu_visitEnding (l : Fin 16) : (s.retestLane l).afu.visitEnding = s.afu.visitEnding := by
  unfold State.retestLane; split <;> [split <;> rfl; rfl]
@[simp] theorem State.retestLane_ccu (l : Fin 16) : (s.retestLane l).ccu = s.ccu := by
  unfold State.retestLane; split <;> [split <;> rfl; rfl]
@[simp] theorem State.retestLane_mq_cut (l : Fin 16) : (s.retestLane l).mq.cut = s.mq.cut := by
  unfold State.retestLane; split <;> [split <;> rfl; rfl]
@[simp] theorem State.retestLane_biu (l : Fin 16) : (s.retestLane l).biu = s.biu := by
  unfold State.retestLane; split <;> [split <;> rfl; rfl]
@[simp] theorem State.retestLane_pu (l : Fin 16) : (s.retestLane l).pu = s.pu := by
  unfold State.retestLane; split <;> [split <;> rfl; rfl]
@[simp] theorem State.retestLane_dst (l : Fin 16) : (s.retestLane l).dst = s.dst := by
  unfold State.retestLane; split <;> [split <;> rfl; rfl]
@[simp] theorem State.retestLane_cku (l : Fin 16) : (s.retestLane l).cku = s.cku := by
  unfold State.retestLane; split <;> [split <;> rfl; rfl]
@[simp] theorem State.retestLane_rc (l : Fin 16) : (s.retestLane l).rc = s.rc := by
  unfold State.retestLane; split <;> [split <;> rfl; rfl]
@[simp] theorem State.retestLane_pending (l : Fin 16) : (s.retestLane l).pending = s.pending := by
  unfold State.retestLane; split <;> [split <;> rfl; rfl]

/-! `State.retestLanes` -/

@[simp] theorem State.retestLanes_inReset : (s.retestLanes).inReset = s.inReset := by
  unfold State.retestLanes
  exact foldl_keeps State.retestLane (fun s => s.inReset) State.retestLane_inReset (List.finRange 16) s
@[simp] theorem State.retestLanes_straps : (s.retestLanes).straps = s.straps := by
  unfold State.retestLanes
  exact foldl_keeps State.retestLane (fun s => s.straps) State.retestLane_straps (List.finRange 16) s
@[simp] theorem State.retestLanes_afu_rotation : (s.retestLanes).afu.rotation = s.afu.rotation := by
  unfold State.retestLanes
  exact foldl_keeps State.retestLane (fun s => s.afu.rotation) State.retestLane_afu_rotation (List.finRange 16) s
@[simp] theorem State.retestLanes_afu_request : (s.retestLanes).afu.request = s.afu.request := by
  unfold State.retestLanes
  exact foldl_keeps State.retestLane (fun s => s.afu.request) State.retestLane_afu_request (List.finRange 16) s
@[simp] theorem State.retestLanes_afu_visitCount : (s.retestLanes).afu.visitCount = s.afu.visitCount := by
  unfold State.retestLanes
  exact foldl_keeps State.retestLane (fun s => s.afu.visitCount) State.retestLane_afu_visitCount (List.finRange 16) s
@[simp] theorem State.retestLanes_afu_directory : (s.retestLanes).afu.directory = s.afu.directory := by
  unfold State.retestLanes
  exact foldl_keeps State.retestLane (fun s => s.afu.directory) State.retestLane_afu_directory (List.finRange 16) s
@[simp] theorem State.retestLanes_afu_checkpoint : (s.retestLanes).afu.checkpoint = s.afu.checkpoint := by
  unfold State.retestLanes
  exact foldl_keeps State.retestLane (fun s => s.afu.checkpoint) State.retestLane_afu_checkpoint (List.finRange 16) s
@[simp] theorem State.retestLanes_afu_atag : (s.retestLanes).afu.atag = s.afu.atag := by
  unfold State.retestLanes
  exact foldl_keeps State.retestLane (fun s => s.afu.atag) State.retestLane_afu_atag (List.finRange 16) s
@[simp] theorem State.retestLanes_afu_aadr : (s.retestLanes).afu.aadr = s.afu.aadr := by
  unfold State.retestLanes
  exact foldl_keeps State.retestLane (fun s => s.afu.aadr) State.retestLane_afu_aadr (List.finRange 16) s
@[simp] theorem State.retestLanes_afu_words : (s.retestLanes).afu.words = s.afu.words := by
  unfold State.retestLanes
  exact foldl_keeps State.retestLane (fun s => s.afu.words) State.retestLane_afu_words (List.finRange 16) s
@[simp] theorem State.retestLanes_afu_visitEnding : (s.retestLanes).afu.visitEnding = s.afu.visitEnding := by
  unfold State.retestLanes
  exact foldl_keeps State.retestLane (fun s => s.afu.visitEnding) State.retestLane_afu_visitEnding (List.finRange 16) s
@[simp] theorem State.retestLanes_ccu : (s.retestLanes).ccu = s.ccu := by
  unfold State.retestLanes
  exact foldl_keeps State.retestLane (fun s => s.ccu) State.retestLane_ccu (List.finRange 16) s
@[simp] theorem State.retestLanes_mq_cut : (s.retestLanes).mq.cut = s.mq.cut := by
  unfold State.retestLanes
  exact foldl_keeps State.retestLane (fun s => s.mq.cut) State.retestLane_mq_cut (List.finRange 16) s
@[simp] theorem State.retestLanes_biu : (s.retestLanes).biu = s.biu := by
  unfold State.retestLanes
  exact foldl_keeps State.retestLane (fun s => s.biu) State.retestLane_biu (List.finRange 16) s
@[simp] theorem State.retestLanes_pu : (s.retestLanes).pu = s.pu := by
  unfold State.retestLanes
  exact foldl_keeps State.retestLane (fun s => s.pu) State.retestLane_pu (List.finRange 16) s
@[simp] theorem State.retestLanes_dst : (s.retestLanes).dst = s.dst := by
  unfold State.retestLanes
  exact foldl_keeps State.retestLane (fun s => s.dst) State.retestLane_dst (List.finRange 16) s
@[simp] theorem State.retestLanes_cku : (s.retestLanes).cku = s.cku := by
  unfold State.retestLanes
  exact foldl_keeps State.retestLane (fun s => s.cku) State.retestLane_cku (List.finRange 16) s
@[simp] theorem State.retestLanes_rc : (s.retestLanes).rc = s.rc := by
  unfold State.retestLanes
  exact foldl_keeps State.retestLane (fun s => s.rc) State.retestLane_rc (List.finRange 16) s
@[simp] theorem State.retestLanes_pending : (s.retestLanes).pending = s.pending := by
  unfold State.retestLanes
  exact foldl_keeps State.retestLane (fun s => s.pending) State.retestLane_pending (List.finRange 16) s

/-! `State.insertReleased` -/

@[simp] theorem State.insertReleased_inReset : (s.insertReleased).inReset = s.inReset := by
  unfold State.insertReleased; split <;> [rfl; (split <;> [rfl; (split <;> rfl)])]
@[simp] theorem State.insertReleased_straps : (s.insertReleased).straps = s.straps := by
  unfold State.insertReleased; split <;> [rfl; (split <;> [rfl; (split <;> rfl)])]
@[simp] theorem State.insertReleased_afu_rotation : (s.insertReleased).afu.rotation = s.afu.rotation := by
  unfold State.insertReleased; split <;> [rfl; (split <;> [rfl; (split <;> rfl)])]
@[simp] theorem State.insertReleased_afu_request : (s.insertReleased).afu.request = s.afu.request := by
  unfold State.insertReleased; split <;> [rfl; (split <;> [rfl; (split <;> rfl)])]
@[simp] theorem State.insertReleased_afu_visitCount : (s.insertReleased).afu.visitCount = s.afu.visitCount := by
  unfold State.insertReleased; split <;> [rfl; (split <;> [rfl; (split <;> rfl)])]
@[simp] theorem State.insertReleased_afu_directory : (s.insertReleased).afu.directory = s.afu.directory := by
  unfold State.insertReleased; split <;> [rfl; (split <;> [rfl; (split <;> rfl)])]
@[simp] theorem State.insertReleased_afu_checkpoint : (s.insertReleased).afu.checkpoint = s.afu.checkpoint := by
  unfold State.insertReleased; split <;> [rfl; (split <;> [rfl; (split <;> rfl)])]
@[simp] theorem State.insertReleased_afu_atag : (s.insertReleased).afu.atag = s.afu.atag := by
  unfold State.insertReleased; split <;> [rfl; (split <;> [rfl; (split <;> rfl)])]
@[simp] theorem State.insertReleased_afu_aadr : (s.insertReleased).afu.aadr = s.afu.aadr := by
  unfold State.insertReleased; split <;> [rfl; (split <;> [rfl; (split <;> rfl)])]
@[simp] theorem State.insertReleased_afu_words : (s.insertReleased).afu.words = s.afu.words := by
  unfold State.insertReleased; split <;> [rfl; (split <;> [rfl; (split <;> rfl)])]
@[simp] theorem State.insertReleased_afu_visitEnding : (s.insertReleased).afu.visitEnding = s.afu.visitEnding := by
  unfold State.insertReleased; split <;> [rfl; (split <;> [rfl; (split <;> rfl)])]
@[simp] theorem State.insertReleased_ccu : (s.insertReleased).ccu = s.ccu := by
  unfold State.insertReleased; split <;> [rfl; (split <;> [rfl; (split <;> rfl)])]
@[simp] theorem State.insertReleased_mq_cut : (s.insertReleased).mq.cut = s.mq.cut := by
  unfold State.insertReleased; split <;> [rfl; (split <;> [rfl; (split <;> rfl)])]
@[simp] theorem State.insertReleased_biu : (s.insertReleased).biu = s.biu := by
  unfold State.insertReleased; split <;> [rfl; (split <;> [rfl; (split <;> rfl)])]
@[simp] theorem State.insertReleased_pu : (s.insertReleased).pu = s.pu := by
  unfold State.insertReleased; split <;> [rfl; (split <;> [rfl; (split <;> rfl)])]
@[simp] theorem State.insertReleased_dst : (s.insertReleased).dst = s.dst := by
  unfold State.insertReleased; split <;> [rfl; (split <;> [rfl; (split <;> rfl)])]
@[simp] theorem State.insertReleased_cku : (s.insertReleased).cku = s.cku := by
  unfold State.insertReleased; split <;> [rfl; (split <;> [rfl; (split <;> rfl)])]
@[simp] theorem State.insertReleased_rc : (s.insertReleased).rc = s.rc := by
  unfold State.insertReleased; split <;> [rfl; (split <;> [rfl; (split <;> rfl)])]
@[simp] theorem State.insertReleased_pending : (s.insertReleased).pending = s.pending := by
  unfold State.insertReleased; split <;> [rfl; (split <;> [rfl; (split <;> rfl)])]

/-! `State.entryFreed` -/

@[simp] theorem State.entryFreed_inReset : (s.entryFreed).inReset = s.inReset := by
  simp only [State.entryFreed, State.insertReleased_inReset]; rfl
@[simp] theorem State.entryFreed_straps : (s.entryFreed).straps = s.straps := by
  simp only [State.entryFreed, State.insertReleased_straps]; rfl
@[simp] theorem State.entryFreed_afu_rotation : (s.entryFreed).afu.rotation = s.afu.rotation := by
  simp only [State.entryFreed, State.insertReleased_afu_rotation]; rfl
@[simp] theorem State.entryFreed_afu_request : (s.entryFreed).afu.request = s.afu.request := by
  simp only [State.entryFreed, State.insertReleased_afu_request]; rfl
@[simp] theorem State.entryFreed_afu_visitCount : (s.entryFreed).afu.visitCount = s.afu.visitCount := by
  simp only [State.entryFreed, State.insertReleased_afu_visitCount]; rfl
@[simp] theorem State.entryFreed_afu_directory : (s.entryFreed).afu.directory = s.afu.directory := by
  simp only [State.entryFreed, State.insertReleased_afu_directory]; rfl
@[simp] theorem State.entryFreed_afu_checkpoint : (s.entryFreed).afu.checkpoint = s.afu.checkpoint := by
  simp only [State.entryFreed, State.insertReleased_afu_checkpoint]; rfl
@[simp] theorem State.entryFreed_afu_atag : (s.entryFreed).afu.atag = s.afu.atag := by
  simp only [State.entryFreed, State.insertReleased_afu_atag]; rfl
@[simp] theorem State.entryFreed_afu_aadr : (s.entryFreed).afu.aadr = s.afu.aadr := by
  simp only [State.entryFreed, State.insertReleased_afu_aadr]; rfl
@[simp] theorem State.entryFreed_afu_words : (s.entryFreed).afu.words = s.afu.words := by
  simp only [State.entryFreed, State.insertReleased_afu_words]; rfl
@[simp] theorem State.entryFreed_afu_visitEnding : (s.entryFreed).afu.visitEnding = s.afu.visitEnding := by
  simp only [State.entryFreed, State.insertReleased_afu_visitEnding]; rfl
@[simp] theorem State.entryFreed_ccu : (s.entryFreed).ccu = s.ccu := by
  simp only [State.entryFreed, State.insertReleased_ccu]; rfl
@[simp] theorem State.entryFreed_mq_cut : (s.entryFreed).mq.cut = s.mq.cut := by
  simp only [State.entryFreed, State.insertReleased_mq_cut]; rfl
@[simp] theorem State.entryFreed_biu : (s.entryFreed).biu = s.biu := by
  simp only [State.entryFreed, State.insertReleased_biu]; rfl
@[simp] theorem State.entryFreed_pu : (s.entryFreed).pu = s.pu := by
  simp only [State.entryFreed, State.insertReleased_pu]; rfl
@[simp] theorem State.entryFreed_dst : (s.entryFreed).dst = s.dst := by
  simp only [State.entryFreed, State.insertReleased_dst]; rfl
@[simp] theorem State.entryFreed_cku : (s.entryFreed).cku = s.cku := by
  simp only [State.entryFreed, State.insertReleased_cku]; rfl
@[simp] theorem State.entryFreed_rc : (s.entryFreed).rc = s.rc := by
  simp only [State.entryFreed, State.insertReleased_rc]; rfl
@[simp] theorem State.entryFreed_pending : (s.entryFreed).pending = s.pending := by
  simp only [State.entryFreed, State.insertReleased_pending]; rfl

/-! `State.applySilent` -/

@[simp] theorem State.applySilent_inReset (l : Fin 16) : (s.applySilent l).inReset = s.inReset := by
  unfold State.applySilent; split <;> rfl
@[simp] theorem State.applySilent_straps (l : Fin 16) : (s.applySilent l).straps = s.straps := by
  unfold State.applySilent; split <;> rfl
@[simp] theorem State.applySilent_afu_rotation (l : Fin 16) : (s.applySilent l).afu.rotation = s.afu.rotation := by
  unfold State.applySilent; split <;> rfl
@[simp] theorem State.applySilent_afu_request (l : Fin 16) : (s.applySilent l).afu.request = s.afu.request := by
  unfold State.applySilent; split <;> rfl
@[simp] theorem State.applySilent_afu_visitCount (l : Fin 16) :
    (s.applySilent l).afu.visitCount = s.afu.visitCount := by
  unfold State.applySilent; split <;> rfl
@[simp] theorem State.applySilent_afu_directory (l : Fin 16) : (s.applySilent l).afu.directory = s.afu.directory := by
  unfold State.applySilent; split <;> rfl
@[simp] theorem State.applySilent_afu_checkpoint (l : Fin 16) :
    (s.applySilent l).afu.checkpoint = s.afu.checkpoint := by
  unfold State.applySilent; split <;> rfl
@[simp] theorem State.applySilent_afu_atag (l : Fin 16) : (s.applySilent l).afu.atag = s.afu.atag := by
  unfold State.applySilent; split <;> rfl
@[simp] theorem State.applySilent_afu_aadr (l : Fin 16) : (s.applySilent l).afu.aadr = s.afu.aadr := by
  unfold State.applySilent; split <;> rfl
@[simp] theorem State.applySilent_afu_words (l : Fin 16) : (s.applySilent l).afu.words = s.afu.words := by
  unfold State.applySilent; split <;> rfl
@[simp] theorem State.applySilent_afu_visitEnding (l : Fin 16) : (s.applySilent l).afu.visitEnding = s.afu.visitEnding := by
  unfold State.applySilent; split <;> rfl
@[simp] theorem State.applySilent_ccu (l : Fin 16) : (s.applySilent l).ccu = s.ccu := by
  unfold State.applySilent; split <;> rfl
@[simp] theorem State.applySilent_mq (l : Fin 16) : (s.applySilent l).mq = s.mq := by
  unfold State.applySilent; split <;> rfl
@[simp] theorem State.applySilent_biu (l : Fin 16) : (s.applySilent l).biu = s.biu := by
  unfold State.applySilent; split <;> rfl
@[simp] theorem State.applySilent_pu (l : Fin 16) : (s.applySilent l).pu = s.pu := by
  unfold State.applySilent; split <;> rfl
@[simp] theorem State.applySilent_dst_ranges (l : Fin 16) : (s.applySilent l).dst.ranges = s.dst.ranges := by
  unfold State.applySilent; split <;> rfl
@[simp] theorem State.applySilent_dst_replies (l : Fin 16) : (s.applySilent l).dst.replies = s.dst.replies := by
  unfold State.applySilent; split <;> rfl
@[simp] theorem State.applySilent_cku (l : Fin 16) : (s.applySilent l).cku = s.cku := by
  unfold State.applySilent; split <;> rfl
@[simp] theorem State.applySilent_rc (l : Fin 16) : (s.applySilent l).rc = s.rc := by
  unfold State.applySilent; split <;> rfl
@[simp] theorem State.applySilent_pending (l : Fin 16) : (s.applySilent l).pending = s.pending := by
  unfold State.applySilent; split <;> rfl

/-! `State.drainFront` -/

@[simp] theorem State.drainFront_inReset (n : Nat) : ((State.drainFront n s)).inReset = s.inReset := by
  induction n generalizing s with
  | zero => rfl
  | succ n ih =>
    unfold State.drainFront
    split <;> [(split <;> [rfl; (rw [ih]; simp only [State.applySilent_inReset])]); rfl]
@[simp] theorem State.drainFront_straps (n : Nat) : ((State.drainFront n s)).straps = s.straps := by
  induction n generalizing s with
  | zero => rfl
  | succ n ih =>
    unfold State.drainFront
    split <;> [(split <;> [rfl; (rw [ih]; simp only [State.applySilent_straps])]); rfl]
@[simp] theorem State.drainFront_afu_rotation (n : Nat) : ((State.drainFront n s)).afu.rotation = s.afu.rotation := by
  induction n generalizing s with
  | zero => rfl
  | succ n ih =>
    unfold State.drainFront
    split <;> [(split <;> [rfl; (rw [ih]; simp only [State.applySilent_afu_rotation])]); rfl]
@[simp] theorem State.drainFront_afu_request (n : Nat) : ((State.drainFront n s)).afu.request = s.afu.request := by
  induction n generalizing s with
  | zero => rfl
  | succ n ih =>
    unfold State.drainFront
    split <;> [(split <;> [rfl; (rw [ih]; simp only [State.applySilent_afu_request])]); rfl]
@[simp] theorem State.drainFront_afu_visitCount (n : Nat) :
    ((State.drainFront n s)).afu.visitCount = s.afu.visitCount := by
  induction n generalizing s with
  | zero => rfl
  | succ n ih =>
    unfold State.drainFront
    split <;> [(split <;> [rfl; (rw [ih]; simp only [State.applySilent_afu_visitCount])]); rfl]
@[simp] theorem State.drainFront_afu_directory (n : Nat) :
    ((State.drainFront n s)).afu.directory = s.afu.directory := by
  induction n generalizing s with
  | zero => rfl
  | succ n ih =>
    unfold State.drainFront
    split <;> [(split <;> [rfl; (rw [ih]; simp only [State.applySilent_afu_directory])]); rfl]
@[simp] theorem State.drainFront_afu_checkpoint (n : Nat) :
    ((State.drainFront n s)).afu.checkpoint = s.afu.checkpoint := by
  induction n generalizing s with
  | zero => rfl
  | succ n ih =>
    unfold State.drainFront
    split <;> [(split <;> [rfl; (rw [ih]; simp only [State.applySilent_afu_checkpoint])]); rfl]
@[simp] theorem State.drainFront_afu_atag (n : Nat) : ((State.drainFront n s)).afu.atag = s.afu.atag := by
  induction n generalizing s with
  | zero => rfl
  | succ n ih =>
    unfold State.drainFront
    split <;> [(split <;> [rfl; (rw [ih]; simp only [State.applySilent_afu_atag])]); rfl]
@[simp] theorem State.drainFront_afu_aadr (n : Nat) : ((State.drainFront n s)).afu.aadr = s.afu.aadr := by
  induction n generalizing s with
  | zero => rfl
  | succ n ih =>
    unfold State.drainFront
    split <;> [(split <;> [rfl; (rw [ih]; simp only [State.applySilent_afu_aadr])]); rfl]
@[simp] theorem State.drainFront_afu_words (n : Nat) : ((State.drainFront n s)).afu.words = s.afu.words := by
  induction n generalizing s with
  | zero => rfl
  | succ n ih =>
    unfold State.drainFront
    split <;> [(split <;> [rfl; (rw [ih]; simp only [State.applySilent_afu_words])]); rfl]
@[simp] theorem State.drainFront_afu_visitEnding (n : Nat) : ((State.drainFront n s)).afu.visitEnding = s.afu.visitEnding := by
  induction n generalizing s with
  | zero => rfl
  | succ n ih =>
    unfold State.drainFront
    split <;> [(split <;> [rfl; (rw [ih]; simp only [State.applySilent_afu_visitEnding])]); rfl]
@[simp] theorem State.drainFront_ccu (n : Nat) : ((State.drainFront n s)).ccu = s.ccu := by
  induction n generalizing s with
  | zero => rfl
  | succ n ih =>
    unfold State.drainFront
    split <;> [(split <;> [rfl; (rw [ih]; simp only [State.applySilent_ccu])]); rfl]
@[simp] theorem State.drainFront_mq (n : Nat) : ((State.drainFront n s)).mq = s.mq := by
  induction n generalizing s with
  | zero => rfl
  | succ n ih =>
    unfold State.drainFront
    split <;> [(split <;> [rfl; (rw [ih]; simp only [State.applySilent_mq])]); rfl]
@[simp] theorem State.drainFront_biu (n : Nat) : ((State.drainFront n s)).biu = s.biu := by
  induction n generalizing s with
  | zero => rfl
  | succ n ih =>
    unfold State.drainFront
    split <;> [(split <;> [rfl; (rw [ih]; simp only [State.applySilent_biu])]); rfl]
@[simp] theorem State.drainFront_pu (n : Nat) : ((State.drainFront n s)).pu = s.pu := by
  induction n generalizing s with
  | zero => rfl
  | succ n ih =>
    unfold State.drainFront
    split <;> [(split <;> [rfl; (rw [ih]; simp only [State.applySilent_pu])]); rfl]
@[simp] theorem State.drainFront_dst_ranges (n : Nat) : ((State.drainFront n s)).dst.ranges = s.dst.ranges := by
  induction n generalizing s with
  | zero => rfl
  | succ n ih =>
    unfold State.drainFront
    split <;> [(split <;> [rfl; (rw [ih]; simp only [State.applySilent_dst_ranges])]); rfl]
@[simp] theorem State.drainFront_dst_replies (n : Nat) : ((State.drainFront n s)).dst.replies = s.dst.replies := by
  induction n generalizing s with
  | zero => rfl
  | succ n ih =>
    unfold State.drainFront
    split <;> [(split <;> [rfl; (rw [ih]; simp only [State.applySilent_dst_replies])]); rfl]
@[simp] theorem State.drainFront_cku (n : Nat) : ((State.drainFront n s)).cku = s.cku := by
  induction n generalizing s with
  | zero => rfl
  | succ n ih =>
    unfold State.drainFront
    split <;> [(split <;> [rfl; (rw [ih]; simp only [State.applySilent_cku])]); rfl]
@[simp] theorem State.drainFront_rc (n : Nat) : ((State.drainFront n s)).rc = s.rc := by
  induction n generalizing s with
  | zero => rfl
  | succ n ih =>
    unfold State.drainFront
    split <;> [(split <;> [rfl; (rw [ih]; simp only [State.applySilent_rc])]); rfl]
@[simp] theorem State.drainFront_pending (n : Nat) : ((State.drainFront n s)).pending = s.pending := by
  induction n generalizing s with
  | zero => rfl
  | succ n ih =>
    unfold State.drainFront
    split <;> [(split <;> [rfl; (rw [ih]; simp only [State.applySilent_pending])]); rfl]

/-! `State.completeSeek` -/

@[simp] theorem State.completeSeek_inReset : (s.completeSeek).inReset = s.inReset := by
  rfl
@[simp] theorem State.completeSeek_straps : (s.completeSeek).straps = s.straps := by
  rfl
@[simp] theorem State.completeSeek_afu : (s.completeSeek).afu = s.afu := by
  rfl
@[simp] theorem State.completeSeek_ccu : (s.completeSeek).ccu = s.ccu := by
  rfl
@[simp] theorem State.completeSeek_mq : (s.completeSeek).mq = s.mq := by
  rfl
@[simp] theorem State.completeSeek_biu : (s.completeSeek).biu = s.biu := by
  rfl
@[simp] theorem State.completeSeek_pu_windowStart : (s.completeSeek).pu.windowStart = s.pu.windowStart := by
  rfl
@[simp] theorem State.completeSeek_pu_windowEnd : (s.completeSeek).pu.windowEnd = s.pu.windowEnd := by
  rfl
@[simp] theorem State.completeSeek_pu_span : (s.completeSeek).pu.span = s.pu.span := by
  rfl
@[simp] theorem State.completeSeek_pu_pace : (s.completeSeek).pu.pace = s.pu.pace := by
  rfl
@[simp] theorem State.completeSeek_pu_budget : (s.completeSeek).pu.budget = s.pu.budget := by
  rfl
@[simp] theorem State.completeSeek_pu_pausePending : (s.completeSeek).pu.pausePending = s.pu.pausePending := by
  rfl
@[simp] theorem State.completeSeek_pu_drive : (s.completeSeek).pu.drive = s.pu.drive := by
  rfl
@[simp] theorem State.completeSeek_pu_timebase : (s.completeSeek).pu.timebase = s.pu.timebase := by
  rfl
@[simp] theorem State.completeSeek_dst : (s.completeSeek).dst = s.dst := by
  rfl
@[simp] theorem State.completeSeek_cku : (s.completeSeek).cku = s.cku := by
  rfl
@[simp] theorem State.completeSeek_rc_modeAfterSeek : (s.completeSeek).rc.modeAfterSeek = s.rc.modeAfterSeek := by
  rfl
@[simp] theorem State.completeSeek_rc_startCause : (s.completeSeek).rc.startCause = s.rc.startCause := by
  rfl
@[simp] theorem State.completeSeek_rc_faultCause : (s.completeSeek).rc.faultCause = s.rc.faultCause := by
  rfl
@[simp] theorem State.completeSeek_rc_configWarning : (s.completeSeek).rc.configWarning = s.rc.configWarning := by
  rfl
@[simp] theorem State.completeSeek_rc_seekDegraded : (s.completeSeek).rc.seekDegraded = s.rc.seekDegraded := by
  rfl
@[simp] theorem State.completeSeek_rc_seekTime : (s.completeSeek).rc.seekTime = s.rc.seekTime := by
  rfl
@[simp] theorem State.completeSeek_rc_statusPending : (s.completeSeek).rc.statusPending = s.rc.statusPending := by
  rfl
@[simp] theorem State.completeSeek_rc_load : (s.completeSeek).rc.load = s.rc.load := by
  rfl
@[simp] theorem State.completeSeek_pending : (s.completeSeek).pending = s.pending := by
  rfl

/-! `State.settleSeek` -/

@[simp] theorem State.settleSeek_inReset : (s.settleSeek).inReset = s.inReset := by
  unfold State.settleSeek
  unfold State.finishReplay; split <;> [(split <;> simp); rfl]
@[simp] theorem State.settleSeek_straps : (s.settleSeek).straps = s.straps := by
  unfold State.settleSeek
  unfold State.finishReplay; split <;> [(split <;> simp); rfl]
@[simp] theorem State.settleSeek_afu_rotation : (s.settleSeek).afu.rotation = s.afu.rotation := by
  unfold State.settleSeek
  unfold State.finishReplay; split <;> [(split <;> simp); rfl]
@[simp] theorem State.settleSeek_afu_request : (s.settleSeek).afu.request = s.afu.request := by
  unfold State.settleSeek
  unfold State.finishReplay; split <;> [(split <;> simp); rfl]
@[simp] theorem State.settleSeek_afu_visitCount : (s.settleSeek).afu.visitCount = s.afu.visitCount := by
  unfold State.settleSeek
  unfold State.finishReplay; split <;> [(split <;> simp); rfl]
@[simp] theorem State.settleSeek_afu_directory : (s.settleSeek).afu.directory = s.afu.directory := by
  unfold State.settleSeek
  unfold State.finishReplay; split <;> [(split <;> simp); rfl]
@[simp] theorem State.settleSeek_afu_checkpoint : (s.settleSeek).afu.checkpoint = s.afu.checkpoint := by
  unfold State.settleSeek
  unfold State.finishReplay; split <;> [(split <;> simp); rfl]
@[simp] theorem State.settleSeek_afu_atag : (s.settleSeek).afu.atag = s.afu.atag := by
  unfold State.settleSeek
  unfold State.finishReplay; split <;> [(split <;> simp); rfl]
@[simp] theorem State.settleSeek_afu_aadr : (s.settleSeek).afu.aadr = s.afu.aadr := by
  unfold State.settleSeek
  unfold State.finishReplay; split <;> [(split <;> simp); rfl]
@[simp] theorem State.settleSeek_afu_words : (s.settleSeek).afu.words = s.afu.words := by
  unfold State.settleSeek
  unfold State.finishReplay; split <;> [(split <;> simp); rfl]
@[simp] theorem State.settleSeek_afu_visitEnding : (s.settleSeek).afu.visitEnding = s.afu.visitEnding := by
  unfold State.settleSeek
  unfold State.finishReplay; split <;> [(split <;> simp); rfl]
@[simp] theorem State.settleSeek_ccu : (s.settleSeek).ccu = s.ccu := by
  unfold State.settleSeek
  unfold State.finishReplay; split <;> [(split <;> simp); rfl]
@[simp] theorem State.settleSeek_mq : (s.settleSeek).mq = s.mq := by
  unfold State.settleSeek
  unfold State.finishReplay; split <;> [(split <;> simp); rfl]
@[simp] theorem State.settleSeek_biu : (s.settleSeek).biu = s.biu := by
  unfold State.settleSeek
  unfold State.finishReplay; split <;> [(split <;> simp); rfl]
@[simp] theorem State.settleSeek_pu_windowStart : (s.settleSeek).pu.windowStart = s.pu.windowStart := by
  unfold State.settleSeek
  unfold State.finishReplay; split <;> [(split <;> simp); rfl]
@[simp] theorem State.settleSeek_pu_windowEnd : (s.settleSeek).pu.windowEnd = s.pu.windowEnd := by
  unfold State.settleSeek
  unfold State.finishReplay; split <;> [(split <;> simp); rfl]
@[simp] theorem State.settleSeek_pu_span : (s.settleSeek).pu.span = s.pu.span := by
  unfold State.settleSeek
  unfold State.finishReplay; split <;> [(split <;> simp); rfl]
@[simp] theorem State.settleSeek_pu_pace : (s.settleSeek).pu.pace = s.pu.pace := by
  unfold State.settleSeek
  unfold State.finishReplay; split <;> [(split <;> simp); rfl]
@[simp] theorem State.settleSeek_pu_budget : (s.settleSeek).pu.budget = s.pu.budget := by
  unfold State.settleSeek
  unfold State.finishReplay; split <;> [(split <;> simp); rfl]
@[simp] theorem State.settleSeek_pu_pausePending : (s.settleSeek).pu.pausePending = s.pu.pausePending := by
  unfold State.settleSeek
  unfold State.finishReplay; split <;> [(split <;> simp); rfl]
@[simp] theorem State.settleSeek_pu_drive : (s.settleSeek).pu.drive = s.pu.drive := by
  unfold State.settleSeek
  unfold State.finishReplay; split <;> [(split <;> simp); rfl]
@[simp] theorem State.settleSeek_pu_timebase : (s.settleSeek).pu.timebase = s.pu.timebase := by
  unfold State.settleSeek
  unfold State.finishReplay; split <;> [(split <;> simp); rfl]
@[simp] theorem State.settleSeek_dst_ranges : (s.settleSeek).dst.ranges = s.dst.ranges := by
  unfold State.settleSeek
  unfold State.finishReplay; split <;> [(split <;> simp); rfl]
@[simp] theorem State.settleSeek_dst_replies : (s.settleSeek).dst.replies = s.dst.replies := by
  unfold State.settleSeek
  unfold State.finishReplay; split <;> [(split <;> simp); rfl]
@[simp] theorem State.settleSeek_cku : (s.settleSeek).cku = s.cku := by
  unfold State.settleSeek
  unfold State.finishReplay; split <;> [(split <;> simp); rfl]
@[simp] theorem State.settleSeek_rc_modeAfterSeek : (s.settleSeek).rc.modeAfterSeek = s.rc.modeAfterSeek := by
  unfold State.settleSeek
  unfold State.finishReplay; split <;> [(split <;> simp); rfl]
@[simp] theorem State.settleSeek_rc_startCause : (s.settleSeek).rc.startCause = s.rc.startCause := by
  unfold State.settleSeek
  unfold State.finishReplay; split <;> [(split <;> simp); rfl]
@[simp] theorem State.settleSeek_rc_faultCause : (s.settleSeek).rc.faultCause = s.rc.faultCause := by
  unfold State.settleSeek
  unfold State.finishReplay; split <;> [(split <;> simp); rfl]
@[simp] theorem State.settleSeek_rc_configWarning : (s.settleSeek).rc.configWarning = s.rc.configWarning := by
  unfold State.settleSeek
  unfold State.finishReplay; split <;> [(split <;> simp); rfl]
@[simp] theorem State.settleSeek_rc_seekDegraded : (s.settleSeek).rc.seekDegraded = s.rc.seekDegraded := by
  unfold State.settleSeek
  unfold State.finishReplay; split <;> [(split <;> simp); rfl]
@[simp] theorem State.settleSeek_rc_seekTime : (s.settleSeek).rc.seekTime = s.rc.seekTime := by
  unfold State.settleSeek
  unfold State.finishReplay; split <;> [(split <;> simp); rfl]
@[simp] theorem State.settleSeek_rc_statusPending : (s.settleSeek).rc.statusPending = s.rc.statusPending := by
  unfold State.settleSeek
  unfold State.finishReplay; split <;> [(split <;> simp); rfl]
@[simp] theorem State.settleSeek_rc_load : (s.settleSeek).rc.load = s.rc.load := by
  unfold State.settleSeek
  unfold State.finishReplay; split <;> [(split <;> simp); rfl]
@[simp] theorem State.settleSeek_pending : (s.settleSeek).pending = s.pending := by
  unfold State.settleSeek
  unfold State.finishReplay; split <;> [(split <;> simp); rfl]

/-! `State.settleCut` -/

@[simp] theorem State.settleCut_inReset : (s.settleCut).inReset = s.inReset := by
  unfold State.settleCut; split <;> [(split <;> rfl); (split <;> rfl); rfl]
@[simp] theorem State.settleCut_straps : (s.settleCut).straps = s.straps := by
  unfold State.settleCut; split <;> [(split <;> rfl); (split <;> rfl); rfl]
@[simp] theorem State.settleCut_afu : (s.settleCut).afu = s.afu := by
  unfold State.settleCut; split <;> [(split <;> rfl); (split <;> rfl); rfl]
@[simp] theorem State.settleCut_ccu : (s.settleCut).ccu = s.ccu := by
  unfold State.settleCut; split <;> [(split <;> rfl); (split <;> rfl); rfl]
@[simp] theorem State.settleCut_mq_entries : (s.settleCut).mq.entries = s.mq.entries := by
  unfold State.settleCut; split <;> [(split <;> rfl); (split <;> rfl); rfl]
@[simp] theorem State.settleCut_biu : (s.settleCut).biu = s.biu := by
  unfold State.settleCut; split <;> [(split <;> rfl); (split <;> rfl); rfl]
@[simp] theorem State.settleCut_pu : (s.settleCut).pu = s.pu := by
  unfold State.settleCut; split <;> [(split <;> rfl); (split <;> rfl); rfl]
@[simp] theorem State.settleCut_dst : (s.settleCut).dst = s.dst := by
  unfold State.settleCut; split <;> [(split <;> rfl); (split <;> rfl); rfl]
@[simp] theorem State.settleCut_cku : (s.settleCut).cku = s.cku := by
  unfold State.settleCut; split <;> [(split <;> rfl); (split <;> rfl); rfl]
@[simp] theorem State.settleCut_rc : (s.settleCut).rc = s.rc := by
  unfold State.settleCut; split <;> [(split <;> rfl); (split <;> rfl); rfl]
@[simp] theorem State.settleCut_pending : (s.settleCut).pending = s.pending := by
  unfold State.settleCut; split <;> [(split <;> rfl); (split <;> rfl); rfl]

/-! `State.settle` -/

@[simp] theorem State.settle_inReset : (s.settle).inReset = s.inReset := by
  simp [State.settle]
@[simp] theorem State.settle_straps : (s.settle).straps = s.straps := by
  simp [State.settle]
@[simp] theorem State.settle_afu_rotation : (s.settle).afu.rotation = s.afu.rotation := by
  simp [State.settle]
@[simp] theorem State.settle_afu_request : (s.settle).afu.request = s.afu.request := by
  simp [State.settle]
@[simp] theorem State.settle_afu_visitCount : (s.settle).afu.visitCount = s.afu.visitCount := by
  simp [State.settle]
@[simp] theorem State.settle_afu_directory : (s.settle).afu.directory = s.afu.directory := by
  simp [State.settle]
@[simp] theorem State.settle_afu_checkpoint : (s.settle).afu.checkpoint = s.afu.checkpoint := by
  simp [State.settle]
@[simp] theorem State.settle_afu_atag : (s.settle).afu.atag = s.afu.atag := by
  simp [State.settle]
@[simp] theorem State.settle_afu_aadr : (s.settle).afu.aadr = s.afu.aadr := by
  simp [State.settle]
@[simp] theorem State.settle_afu_words : (s.settle).afu.words = s.afu.words := by
  simp [State.settle]
@[simp] theorem State.settle_afu_visitEnding : (s.settle).afu.visitEnding = s.afu.visitEnding := by
  simp [State.settle]
@[simp] theorem State.settle_ccu : (s.settle).ccu = s.ccu := by
  simp [State.settle]
@[simp] theorem State.settle_mq_entries : (s.settle).mq.entries = s.mq.entries := by
  simp [State.settle]
@[simp] theorem State.settle_biu : (s.settle).biu = s.biu := by
  simp [State.settle]
@[simp] theorem State.settle_pu_windowStart : (s.settle).pu.windowStart = s.pu.windowStart := by
  simp [State.settle]
@[simp] theorem State.settle_pu_windowEnd : (s.settle).pu.windowEnd = s.pu.windowEnd := by
  simp [State.settle]
@[simp] theorem State.settle_pu_span : (s.settle).pu.span = s.pu.span := by
  simp [State.settle]
@[simp] theorem State.settle_pu_pace : (s.settle).pu.pace = s.pu.pace := by
  simp [State.settle]
@[simp] theorem State.settle_pu_budget : (s.settle).pu.budget = s.pu.budget := by
  simp [State.settle]
@[simp] theorem State.settle_pu_pausePending : (s.settle).pu.pausePending = s.pu.pausePending := by
  simp [State.settle]
@[simp] theorem State.settle_pu_timebase : (s.settle).pu.timebase = s.pu.timebase := by
  simp [State.settle]
@[simp] theorem State.settle_dst_ranges : (s.settle).dst.ranges = s.dst.ranges := by
  simp [State.settle]
@[simp] theorem State.settle_dst_replies : (s.settle).dst.replies = s.dst.replies := by
  simp [State.settle]
@[simp] theorem State.settle_cku : (s.settle).cku = s.cku := by
  simp [State.settle]
@[simp] theorem State.settle_rc_modeAfterSeek : (s.settle).rc.modeAfterSeek = s.rc.modeAfterSeek := by
  simp [State.settle]
@[simp] theorem State.settle_rc_startCause : (s.settle).rc.startCause = s.rc.startCause := by
  simp [State.settle]
@[simp] theorem State.settle_rc_faultCause : (s.settle).rc.faultCause = s.rc.faultCause := by
  simp [State.settle]
@[simp] theorem State.settle_rc_configWarning : (s.settle).rc.configWarning = s.rc.configWarning := by
  simp [State.settle]
@[simp] theorem State.settle_rc_seekDegraded : (s.settle).rc.seekDegraded = s.rc.seekDegraded := by
  simp [State.settle]
@[simp] theorem State.settle_rc_seekTime : (s.settle).rc.seekTime = s.rc.seekTime := by
  simp [State.settle]
@[simp] theorem State.settle_rc_statusPending : (s.settle).rc.statusPending = s.rc.statusPending := by
  simp [State.settle]
@[simp] theorem State.settle_rc_load : (s.settle).rc.load = s.rc.load := by
  simp [State.settle]
@[simp] theorem State.settle_pending : (s.settle).pending = s.pending := by
  simp [State.settle]

/-! `State.trapAtFetch` -/

@[simp] theorem State.trapAtFetch_inReset (l : Fin 16) (g : Nat) (h : HeldItem) :
    (s.trapAtFetch l g h).inReset = s.inReset := by
  rfl
@[simp] theorem State.trapAtFetch_straps (l : Fin 16) (g : Nat) (h : HeldItem) :
    (s.trapAtFetch l g h).straps = s.straps := by
  rfl
@[simp] theorem State.trapAtFetch_afu_rotation (l : Fin 16) (g : Nat) (h : HeldItem) :
    (s.trapAtFetch l g h).afu.rotation = s.afu.rotation := by
  rfl
@[simp] theorem State.trapAtFetch_afu_request (l : Fin 16) (g : Nat) (h : HeldItem) :
    (s.trapAtFetch l g h).afu.request = s.afu.request := by
  rfl
@[simp] theorem State.trapAtFetch_afu_visitCount (l : Fin 16) (g : Nat) (h : HeldItem) :
    (s.trapAtFetch l g h).afu.visitCount = s.afu.visitCount := by
  rfl
@[simp] theorem State.trapAtFetch_afu_directory (l : Fin 16) (g : Nat) (h : HeldItem) :
    (s.trapAtFetch l g h).afu.directory = s.afu.directory := by
  rfl
@[simp] theorem State.trapAtFetch_afu_checkpoint (l : Fin 16) (g : Nat) (h : HeldItem) :
    (s.trapAtFetch l g h).afu.checkpoint = s.afu.checkpoint := by
  rfl
@[simp] theorem State.trapAtFetch_afu_atag (l : Fin 16) (g : Nat) (h : HeldItem) :
    (s.trapAtFetch l g h).afu.atag = s.afu.atag := by
  rfl
@[simp] theorem State.trapAtFetch_afu_aadr (l : Fin 16) (g : Nat) (h : HeldItem) :
    (s.trapAtFetch l g h).afu.aadr = s.afu.aadr := by
  rfl
@[simp] theorem State.trapAtFetch_afu_words (l : Fin 16) (g : Nat) (h : HeldItem) :
    (s.trapAtFetch l g h).afu.words = s.afu.words := by
  rfl
@[simp] theorem State.trapAtFetch_afu_visitEnding (l : Fin 16) (g : Nat) (h : HeldItem) :
    (s.trapAtFetch l g h).afu.visitEnding = s.afu.visitEnding := by
  rfl
@[simp] theorem State.trapAtFetch_ccu (l : Fin 16) (g : Nat) (h : HeldItem) : (s.trapAtFetch l g h).ccu = s.ccu := by
  rfl
@[simp] theorem State.trapAtFetch_mq (l : Fin 16) (g : Nat) (h : HeldItem) : (s.trapAtFetch l g h).mq = s.mq := by
  rfl
@[simp] theorem State.trapAtFetch_biu (l : Fin 16) (g : Nat) (h : HeldItem) : (s.trapAtFetch l g h).biu = s.biu := by
  rfl
@[simp] theorem State.trapAtFetch_pu (l : Fin 16) (g : Nat) (h : HeldItem) : (s.trapAtFetch l g h).pu = s.pu := by
  rfl
@[simp] theorem State.trapAtFetch_dst (l : Fin 16) (g : Nat) (h : HeldItem) : (s.trapAtFetch l g h).dst = s.dst := by
  rfl
@[simp] theorem State.trapAtFetch_cku (l : Fin 16) (g : Nat) (h : HeldItem) : (s.trapAtFetch l g h).cku = s.cku := by
  rfl
@[simp] theorem State.trapAtFetch_rc (l : Fin 16) (g : Nat) (h : HeldItem) : (s.trapAtFetch l g h).rc = s.rc := by
  rfl
@[simp] theorem State.trapAtFetch_pending (l : Fin 16) (g : Nat) (h : HeldItem) :
    (s.trapAtFetch l g h).pending = s.pending := by
  rfl

/-! `State.readLane` -/

@[simp] theorem State.readLane_inReset (l : Fin 16) : (s.readLane l).inReset = s.inReset := by
  rfl
@[simp] theorem State.readLane_straps (l : Fin 16) : (s.readLane l).straps = s.straps := by
  rfl
@[simp] theorem State.readLane_afu_rotation (l : Fin 16) : (s.readLane l).afu.rotation = s.afu.rotation := by
  rfl
@[simp] theorem State.readLane_afu_visitCount (l : Fin 16) : (s.readLane l).afu.visitCount = s.afu.visitCount := by
  rfl
@[simp] theorem State.readLane_afu_directory (l : Fin 16) : (s.readLane l).afu.directory = s.afu.directory := by
  rfl
@[simp] theorem State.readLane_afu_checkpoint (l : Fin 16) : (s.readLane l).afu.checkpoint = s.afu.checkpoint := by
  rfl
@[simp] theorem State.readLane_ccu (l : Fin 16) : (s.readLane l).ccu = s.ccu := by
  rfl
@[simp] theorem State.readLane_mq (l : Fin 16) : (s.readLane l).mq = s.mq := by
  rfl
@[simp] theorem State.readLane_biu (l : Fin 16) : (s.readLane l).biu = s.biu := by
  rfl
@[simp] theorem State.readLane_pu (l : Fin 16) : (s.readLane l).pu = s.pu := by
  rfl
@[simp] theorem State.readLane_dst (l : Fin 16) : (s.readLane l).dst = s.dst := by
  rfl
@[simp] theorem State.readLane_cku (l : Fin 16) : (s.readLane l).cku = s.cku := by
  rfl
@[simp] theorem State.readLane_rc (l : Fin 16) : (s.readLane l).rc = s.rc := by
  rfl
@[simp] theorem State.readLane_pending (l : Fin 16) : (s.readLane l).pending = s.pending := by
  rfl

/-! `State.setFromSlot` -/

@[simp] theorem State.setFromSlot_inReset (c : CheckpointLoad) (d : Slot) :
    (s.setFromSlot c d).inReset = s.inReset := by
  unfold State.setFromSlot Dst.setBy; (try split) <;> rfl
@[simp] theorem State.setFromSlot_straps (c : CheckpointLoad) (d : Slot) : (s.setFromSlot c d).straps = s.straps := by
  unfold State.setFromSlot Dst.setBy; (try split) <;> rfl
@[simp] theorem State.setFromSlot_afu_rotation (c : CheckpointLoad) (d : Slot) :
    (s.setFromSlot c d).afu.rotation = s.afu.rotation := by
  unfold State.setFromSlot Dst.setBy; (try split) <;> rfl
@[simp] theorem State.setFromSlot_afu_request (c : CheckpointLoad) (d : Slot) :
    (s.setFromSlot c d).afu.request = s.afu.request := by
  unfold State.setFromSlot Dst.setBy; (try split) <;> rfl
@[simp] theorem State.setFromSlot_afu_visitCount (c : CheckpointLoad) (d : Slot) :
    (s.setFromSlot c d).afu.visitCount = s.afu.visitCount := by
  unfold State.setFromSlot Dst.setBy; (try split) <;> rfl
@[simp] theorem State.setFromSlot_afu_directory (c : CheckpointLoad) (d : Slot) :
    (s.setFromSlot c d).afu.directory = s.afu.directory := by
  unfold State.setFromSlot Dst.setBy; (try split) <;> rfl
@[simp] theorem State.setFromSlot_afu_checkpoint (c : CheckpointLoad) (d : Slot) :
    (s.setFromSlot c d).afu.checkpoint = s.afu.checkpoint := by
  unfold State.setFromSlot Dst.setBy; (try split) <;> rfl
@[simp] theorem State.setFromSlot_afu_atag (c : CheckpointLoad) (d : Slot) :
    (s.setFromSlot c d).afu.atag = s.afu.atag := by
  unfold State.setFromSlot Dst.setBy; (try split) <;> rfl
@[simp] theorem State.setFromSlot_afu_aadr (c : CheckpointLoad) (d : Slot) :
    (s.setFromSlot c d).afu.aadr = s.afu.aadr := by
  unfold State.setFromSlot Dst.setBy; (try split) <;> rfl
@[simp] theorem State.setFromSlot_afu_words (c : CheckpointLoad) (d : Slot) :
    (s.setFromSlot c d).afu.words = s.afu.words := by
  unfold State.setFromSlot Dst.setBy; (try split) <;> rfl
@[simp] theorem State.setFromSlot_afu_visitEnding (c : CheckpointLoad) (d : Slot) :
    (s.setFromSlot c d).afu.visitEnding = s.afu.visitEnding := by
  unfold State.setFromSlot Dst.setBy; (try split) <;> rfl
@[simp] theorem State.setFromSlot_ccu (c : CheckpointLoad) (d : Slot) : (s.setFromSlot c d).ccu = s.ccu := by
  unfold State.setFromSlot Dst.setBy; (try split) <;> rfl
@[simp] theorem State.setFromSlot_mq (c : CheckpointLoad) (d : Slot) : (s.setFromSlot c d).mq = s.mq := by
  unfold State.setFromSlot Dst.setBy; (try split) <;> rfl
@[simp] theorem State.setFromSlot_biu (c : CheckpointLoad) (d : Slot) : (s.setFromSlot c d).biu = s.biu := by
  unfold State.setFromSlot Dst.setBy; (try split) <;> rfl
@[simp] theorem State.setFromSlot_pu (c : CheckpointLoad) (d : Slot) : (s.setFromSlot c d).pu = s.pu := by
  unfold State.setFromSlot Dst.setBy; (try split) <;> rfl
@[simp] theorem State.setFromSlot_dst_ranges (c : CheckpointLoad) (d : Slot) :
    (s.setFromSlot c d).dst.ranges = s.dst.ranges := by
  unfold State.setFromSlot Dst.setBy; (try split) <;> rfl
@[simp] theorem State.setFromSlot_dst_replies (c : CheckpointLoad) (d : Slot) :
    (s.setFromSlot c d).dst.replies = s.dst.replies := by
  unfold State.setFromSlot Dst.setBy; (try split) <;> rfl
@[simp] theorem State.setFromSlot_cku (c : CheckpointLoad) (d : Slot) : (s.setFromSlot c d).cku = s.cku := by
  unfold State.setFromSlot Dst.setBy; (try split) <;> rfl
@[simp] theorem State.setFromSlot_rc (c : CheckpointLoad) (d : Slot) : (s.setFromSlot c d).rc = s.rc := by
  unfold State.setFromSlot Dst.setBy; (try split) <;> rfl
@[simp] theorem State.setFromSlot_pending (c : CheckpointLoad) (d : Slot) :
    (s.setFromSlot c d).pending = s.pending := by
  unfold State.setFromSlot Dst.setBy; (try split) <;> rfl

/-! `State.withdraw` -/

@[simp] theorem State.withdraw_inReset :
    (s.withdraw).inReset = s.inReset := by
  simp [State.withdraw]
@[simp] theorem State.withdraw_straps :
    (s.withdraw).straps = s.straps := by
  simp [State.withdraw]
@[simp] theorem State.withdraw_afu_lanes :
    (s.withdraw).afu.lanes = (s.mapLanes fun x => { x with silent := none }).afu.lanes := by
  simp [State.withdraw]
@[simp] theorem State.withdraw_afu_rotation :
    (s.withdraw).afu.rotation = s.afu.rotation := by
  simp [State.withdraw]
@[simp] theorem State.withdraw_afu_request :
    (s.withdraw).afu.request = none := by
  simp [State.withdraw]
@[simp] theorem State.withdraw_afu_visitCount :
    (s.withdraw).afu.visitCount = s.afu.visitCount := by
  simp [State.withdraw]
@[simp] theorem State.withdraw_afu_directory :
    (s.withdraw).afu.directory = s.afu.directory := by
  simp [State.withdraw]
@[simp] theorem State.withdraw_afu_checkpoint :
    (s.withdraw).afu.checkpoint = none := by
  simp [State.withdraw]
@[simp] theorem State.withdraw_afu_atag :
    (s.withdraw).afu.atag = s.afu.atag := by
  simp [State.withdraw]
@[simp] theorem State.withdraw_afu_aadr :
    (s.withdraw).afu.aadr = s.afu.aadr := by
  simp [State.withdraw]
@[simp] theorem State.withdraw_afu_words :
    (s.withdraw).afu.words = [] := by
  simp [State.withdraw]
@[simp] theorem State.withdraw_afu_visitEnding :
    (s.withdraw).afu.visitEnding = false := by
  simp [State.withdraw]
@[simp] theorem State.withdraw_ccu :
    (s.withdraw).ccu = s.ccu := by
  simp [State.withdraw]
@[simp] theorem State.withdraw_mq_entries :
    (s.withdraw).mq.entries = s.mq.entries := by
  simp [State.withdraw]
@[simp] theorem State.withdraw_mq_cut :
    (s.withdraw).mq.cut = .absent := by
  simp [State.withdraw]
@[simp] theorem State.withdraw_biu_state :
    (s.withdraw).biu.state = s.biu.state := by
  simp [State.withdraw]
@[simp] theorem State.withdraw_biu_outbound :
    (s.withdraw).biu.outbound = s.biu.outbound := by
  simp [State.withdraw]
@[simp] theorem State.withdraw_biu_inbound :
    (s.withdraw).biu.inbound = [] := by
  simp [State.withdraw]
@[simp] theorem State.withdraw_biu_vetoCount :
    (s.withdraw).biu.vetoCount = 0 := by
  simp [State.withdraw]
@[simp] theorem State.withdraw_biu_failureCount :
    (s.withdraw).biu.failureCount = 0 := by
  simp [State.withdraw]
@[simp] theorem State.withdraw_biu_fullAtOpen :
    (s.withdraw).biu.fullAtOpen = s.biu.fullAtOpen := by
  simp [State.withdraw]
@[simp] theorem State.withdraw_biu_discarding :
    (s.withdraw).biu.discarding = s.biu.discarding := by
  simp [State.withdraw]
@[simp] theorem State.withdraw_pu_windowStart :
    (s.withdraw).pu.windowStart = s.pu.windowStart := by
  simp [State.withdraw]
@[simp] theorem State.withdraw_pu_windowEnd :
    (s.withdraw).pu.windowEnd = s.pu.windowEnd := by
  simp [State.withdraw]
@[simp] theorem State.withdraw_pu_span :
    (s.withdraw).pu.span = s.pu.span := by
  simp [State.withdraw]
@[simp] theorem State.withdraw_pu_pace :
    (s.withdraw).pu.pace = s.pu.pace := by
  simp [State.withdraw]
@[simp] theorem State.withdraw_pu_budget :
    (s.withdraw).pu.budget = s.pu.budget := by
  simp [State.withdraw]
@[simp] theorem State.withdraw_pu_pausePending :
    (s.withdraw).pu.pausePending = false := by
  simp [State.withdraw]
@[simp] theorem State.withdraw_pu_phase :
    (s.withdraw).pu.phase = .gather := by
  simp [State.withdraw]
@[simp] theorem State.withdraw_pu_drive :
    (s.withdraw).pu.drive = s.pu.drive := by
  simp [State.withdraw]
@[simp] theorem State.withdraw_pu_closePulse :
    (s.withdraw).pu.closePulse = s.pu.closePulse := by
  simp [State.withdraw]
@[simp] theorem State.withdraw_pu_paceTimer :
    (s.withdraw).pu.paceTimer = s.pu.paceTimer := by
  simp [State.withdraw]
@[simp] theorem State.withdraw_pu_timebase :
    (s.withdraw).pu.timebase = s.pu.timebase := by
  simp [State.withdraw]
@[simp] theorem State.withdraw_dst_devices :
    (s.withdraw).dst.devices = s.dst.devices := by
  simp [State.withdraw]
@[simp] theorem State.withdraw_dst_ranges :
    (s.withdraw).dst.ranges = s.dst.ranges := by
  simp [State.withdraw]
@[simp] theorem State.withdraw_dst_replies :
    (s.withdraw).dst.replies = [] := by
  simp [State.withdraw]
@[simp] theorem State.withdraw_cku :
    (s.withdraw).cku = s.cku := by
  simp [State.withdraw]
@[simp] theorem State.withdraw_rc_mode :
    (s.withdraw).rc.mode = .withdrawn := by
  simp [State.withdraw]
@[simp] theorem State.withdraw_rc_modeAfterSeek :
    (s.withdraw).rc.modeAfterSeek = s.rc.modeAfterSeek := by
  simp [State.withdraw]
@[simp] theorem State.withdraw_rc_startCause :
    (s.withdraw).rc.startCause = s.rc.startCause := by
  simp [State.withdraw]
@[simp] theorem State.withdraw_rc_faultCause :
    (s.withdraw).rc.faultCause = s.rc.faultCause := by
  simp [State.withdraw]
@[simp] theorem State.withdraw_rc_configWarning :
    (s.withdraw).rc.configWarning = s.rc.configWarning := by
  simp [State.withdraw]
@[simp] theorem State.withdraw_rc_seekDegraded :
    (s.withdraw).rc.seekDegraded = s.rc.seekDegraded := by
  simp [State.withdraw]
@[simp] theorem State.withdraw_rc_seekTime :
    (s.withdraw).rc.seekTime = s.rc.seekTime := by
  simp [State.withdraw]
@[simp] theorem State.withdraw_rc_statusPending :
    (s.withdraw).rc.statusPending = true := by
  simp [State.withdraw]
@[simp] theorem State.withdraw_rc_load :
    (s.withdraw).rc.load = s.rc.load := by
  simp [State.withdraw]
@[simp] theorem State.withdraw_pending :
    (s.withdraw).pending = s.pending := by
  simp [State.withdraw]

@[simp] theorem State.lane_withdraw (l : Fin 16) :
    (s.withdraw).lane l = { s.lane l with silent := none } := by
  rw [State.lane, State.withdraw_afu_lanes]
  exact State.lane_mapLanes s _ l

/-! `State.enterFaulted` -/

@[simp] theorem State.enterFaulted_inReset (c : FaultCause) :
    (s.enterFaulted c).inReset = s.inReset := by
  simp [State.enterFaulted]
@[simp] theorem State.enterFaulted_straps (c : FaultCause) :
    (s.enterFaulted c).straps = s.straps := by
  simp [State.enterFaulted]
@[simp] theorem State.enterFaulted_afu_lanes (c : FaultCause) :
    (s.enterFaulted c).afu.lanes = Vector.replicate 16 Lane.disabled := by
  simp [State.enterFaulted]
@[simp] theorem State.enterFaulted_afu_rotation (c : FaultCause) :
    (s.enterFaulted c).afu.rotation = s.afu.rotation := by
  simp [State.enterFaulted]
@[simp] theorem State.enterFaulted_afu_request (c : FaultCause) :
    (s.enterFaulted c).afu.request = none := by
  simp [State.enterFaulted]
@[simp] theorem State.enterFaulted_afu_visitCount (c : FaultCause) :
    (s.enterFaulted c).afu.visitCount = s.afu.visitCount := by
  simp [State.enterFaulted]
@[simp] theorem State.enterFaulted_afu_directory (c : FaultCause) :
    (s.enterFaulted c).afu.directory = s.afu.directory := by
  simp [State.enterFaulted]
@[simp] theorem State.enterFaulted_afu_checkpoint (c : FaultCause) :
    (s.enterFaulted c).afu.checkpoint = none := by
  simp [State.enterFaulted]
@[simp] theorem State.enterFaulted_afu_atag (c : FaultCause) :
    (s.enterFaulted c).afu.atag = s.afu.atag := by
  simp [State.enterFaulted]
@[simp] theorem State.enterFaulted_afu_aadr (c : FaultCause) :
    (s.enterFaulted c).afu.aadr = s.afu.aadr := by
  simp [State.enterFaulted]
@[simp] theorem State.enterFaulted_afu_words (c : FaultCause) :
    (s.enterFaulted c).afu.words = [] := by
  simp [State.enterFaulted]
@[simp] theorem State.enterFaulted_afu_visitEnding (c : FaultCause) :
    (s.enterFaulted c).afu.visitEnding = false := by
  simp [State.enterFaulted]
@[simp] theorem State.enterFaulted_ccu_driftShift (c : FaultCause) :
    (s.enterFaulted c).ccu.driftShift = 0 := by
  simp [State.enterFaulted]
@[simp] theorem State.enterFaulted_ccu_stepLimit (c : FaultCause) :
    (s.enterFaulted c).ccu.stepLimit = 0 := by
  simp [State.enterFaulted]
@[simp] theorem State.enterFaulted_mq_entries (c : FaultCause) :
    (s.enterFaulted c).mq.entries = [] := by
  simp [State.enterFaulted]
@[simp] theorem State.enterFaulted_mq_cut (c : FaultCause) :
    (s.enterFaulted c).mq.cut = .absent := by
  simp [State.enterFaulted]
@[simp] theorem State.enterFaulted_biu_state (c : FaultCause) :
    (s.enterFaulted c).biu.state = s.biu.state := by
  simp [State.enterFaulted]
@[simp] theorem State.enterFaulted_biu_outbound (c : FaultCause) :
    (s.enterFaulted c).biu.outbound = s.biu.outbound := by
  simp [State.enterFaulted]
@[simp] theorem State.enterFaulted_biu_inbound (c : FaultCause) :
    (s.enterFaulted c).biu.inbound = [] := by
  simp [State.enterFaulted]
@[simp] theorem State.enterFaulted_biu_vetoCount (c : FaultCause) :
    (s.enterFaulted c).biu.vetoCount = s.biu.vetoCount := by
  simp [State.enterFaulted]
@[simp] theorem State.enterFaulted_biu_failureCount (c : FaultCause) :
    (s.enterFaulted c).biu.failureCount = s.biu.failureCount := by
  simp [State.enterFaulted]
@[simp] theorem State.enterFaulted_biu_fullAtOpen (c : FaultCause) :
    (s.enterFaulted c).biu.fullAtOpen = s.biu.fullAtOpen := by
  simp [State.enterFaulted]
@[simp] theorem State.enterFaulted_biu_discarding (c : FaultCause) :
    (s.enterFaulted c).biu.discarding = s.biu.discarding := by
  simp [State.enterFaulted]
@[simp] theorem State.enterFaulted_pu_windowStart (c : FaultCause) :
    (s.enterFaulted c).pu.windowStart = s.pu.windowStart := by
  simp [State.enterFaulted]
@[simp] theorem State.enterFaulted_pu_windowEnd (c : FaultCause) :
    (s.enterFaulted c).pu.windowEnd = s.pu.windowEnd := by
  simp [State.enterFaulted]
@[simp] theorem State.enterFaulted_pu_span (c : FaultCause) :
    (s.enterFaulted c).pu.span = s.pu.span := by
  simp [State.enterFaulted]
@[simp] theorem State.enterFaulted_pu_pace (c : FaultCause) :
    (s.enterFaulted c).pu.pace = s.pu.pace := by
  simp [State.enterFaulted]
@[simp] theorem State.enterFaulted_pu_budget (c : FaultCause) :
    (s.enterFaulted c).pu.budget = s.pu.budget := by
  simp [State.enterFaulted]
@[simp] theorem State.enterFaulted_pu_pausePending (c : FaultCause) :
    (s.enterFaulted c).pu.pausePending = false := by
  simp [State.enterFaulted]
@[simp] theorem State.enterFaulted_pu_phase (c : FaultCause) :
    (s.enterFaulted c).pu.phase = .gather := by
  simp [State.enterFaulted]
@[simp] theorem State.enterFaulted_pu_drive (c : FaultCause) :
    (s.enterFaulted c).pu.drive = s.pu.drive := by
  simp [State.enterFaulted]
@[simp] theorem State.enterFaulted_pu_closePulse (c : FaultCause) :
    (s.enterFaulted c).pu.closePulse = s.pu.closePulse := by
  simp [State.enterFaulted]
@[simp] theorem State.enterFaulted_pu_paceTimer (c : FaultCause) :
    (s.enterFaulted c).pu.paceTimer = s.pu.paceTimer := by
  simp [State.enterFaulted]
@[simp] theorem State.enterFaulted_pu_timebase (c : FaultCause) :
    (s.enterFaulted c).pu.timebase = s.pu.timebase := by
  simp [State.enterFaulted]
@[simp] theorem State.enterFaulted_dst_devices (c : FaultCause) :
    (s.enterFaulted c).dst.devices = [] := by
  simp [State.enterFaulted]
@[simp] theorem State.enterFaulted_dst_ranges (c : FaultCause) :
    (s.enterFaulted c).dst.ranges = [] := by
  simp [State.enterFaulted]
@[simp] theorem State.enterFaulted_dst_replies (c : FaultCause) :
    (s.enterFaulted c).dst.replies = [] := by
  simp [State.enterFaulted]
@[simp] theorem State.enterFaulted_cku_findings (c : FaultCause) :
    (s.enterFaulted c).cku.findings = [] := by
  simp [State.enterFaulted]
@[simp] theorem State.enterFaulted_cku_lostFindings (c : FaultCause) :
    (s.enterFaulted c).cku.lostFindings = s.cku.lostFindings := by
  simp [State.enterFaulted]
@[simp] theorem State.enterFaulted_cku_tolerance (c : FaultCause) :
    (s.enterFaulted c).cku.tolerance = 0 := by
  simp [State.enterFaulted]
@[simp] theorem State.enterFaulted_rc_mode (c : FaultCause) :
    (s.enterFaulted c).rc.mode = .faulted := by
  simp [State.enterFaulted]
@[simp] theorem State.enterFaulted_rc_modeAfterSeek (c : FaultCause) :
    (s.enterFaulted c).rc.modeAfterSeek = s.rc.modeAfterSeek := by
  simp [State.enterFaulted]
@[simp] theorem State.enterFaulted_rc_startCause (c : FaultCause) :
    (s.enterFaulted c).rc.startCause = s.rc.startCause := by
  simp [State.enterFaulted]
@[simp] theorem State.enterFaulted_rc_faultCause (c : FaultCause) :
    (s.enterFaulted c).rc.faultCause = c := by
  simp [State.enterFaulted]
@[simp] theorem State.enterFaulted_rc_configWarning (c : FaultCause) :
    (s.enterFaulted c).rc.configWarning = s.rc.configWarning := by
  simp [State.enterFaulted]
@[simp] theorem State.enterFaulted_rc_seekDegraded (c : FaultCause) :
    (s.enterFaulted c).rc.seekDegraded = s.rc.seekDegraded := by
  simp [State.enterFaulted]
@[simp] theorem State.enterFaulted_rc_seekTime (c : FaultCause) :
    (s.enterFaulted c).rc.seekTime = s.rc.seekTime := by
  simp [State.enterFaulted]
@[simp] theorem State.enterFaulted_rc_statusPending (c : FaultCause) :
    (s.enterFaulted c).rc.statusPending = true := by
  simp [State.enterFaulted]
@[simp] theorem State.enterFaulted_rc_load (c : FaultCause) :
    (s.enterFaulted c).rc.load = none := by
  simp [State.enterFaulted]
@[simp] theorem State.enterFaulted_pending (c : FaultCause) :
    (s.enterFaulted c).pending = s.pending := by
  simp [State.enterFaulted]

/-! `State.seekBlocks` -/

@[simp] theorem State.seekBlocks_inReset (t : Nat) :
    (s.seekBlocks t).inReset = s.inReset := by
  simp [State.seekBlocks]
@[simp] theorem State.seekBlocks_straps (t : Nat) :
    (s.seekBlocks t).straps = s.straps := by
  simp [State.seekBlocks]
@[simp] theorem State.seekBlocks_afu_lanes (t : Nat) :
    (s.seekBlocks t).afu.lanes = (s.mapLanes Lane.seekReset).afu.lanes := by
  simp [State.seekBlocks]
@[simp] theorem State.seekBlocks_afu_rotation (t : Nat) :
    (s.seekBlocks t).afu.rotation = 0 := by
  simp [State.seekBlocks]
@[simp] theorem State.seekBlocks_afu_request (t : Nat) :
    (s.seekBlocks t).afu.request = none := by
  simp [State.seekBlocks]
@[simp] theorem State.seekBlocks_afu_visitCount (t : Nat) :
    (s.seekBlocks t).afu.visitCount = s.afu.visitCount := by
  simp [State.seekBlocks]
@[simp] theorem State.seekBlocks_afu_directory (t : Nat) :
    (s.seekBlocks t).afu.directory = s.afu.directory := by
  simp [State.seekBlocks]
@[simp] theorem State.seekBlocks_afu_checkpoint (t : Nat) :
    (s.seekBlocks t).afu.checkpoint = none := by
  simp [State.seekBlocks]
@[simp] theorem State.seekBlocks_afu_atag (t : Nat) :
    (s.seekBlocks t).afu.atag = s.afu.atag := by
  simp [State.seekBlocks]
@[simp] theorem State.seekBlocks_afu_aadr (t : Nat) :
    (s.seekBlocks t).afu.aadr = s.afu.aadr := by
  simp [State.seekBlocks]
@[simp] theorem State.seekBlocks_afu_words (t : Nat) :
    (s.seekBlocks t).afu.words = [] := by
  simp [State.seekBlocks]
@[simp] theorem State.seekBlocks_afu_visitEnding (t : Nat) :
    (s.seekBlocks t).afu.visitEnding = false := by
  simp [State.seekBlocks]
@[simp] theorem State.seekBlocks_ccu (t : Nat) :
    (s.seekBlocks t).ccu = s.ccu := by
  simp [State.seekBlocks]
@[simp] theorem State.seekBlocks_mq_entries (t : Nat) :
    (s.seekBlocks t).mq.entries = [] := by
  simp [State.seekBlocks]
@[simp] theorem State.seekBlocks_mq_cut (t : Nat) :
    (s.seekBlocks t).mq.cut = .absent := by
  simp [State.seekBlocks]
@[simp] theorem State.seekBlocks_biu (t : Nat) :
    (s.seekBlocks t).biu = s.biu := by
  simp [State.seekBlocks]
@[simp] theorem State.seekBlocks_pu_windowStart (t : Nat) :
    (s.seekBlocks t).pu.windowStart = t := by
  simp [State.seekBlocks]
@[simp] theorem State.seekBlocks_pu_windowEnd (t : Nat) :
    (s.seekBlocks t).pu.windowEnd = min (t + s.pu.span) Config.noneTime := by
  simp [State.seekBlocks]
@[simp] theorem State.seekBlocks_pu_span (t : Nat) :
    (s.seekBlocks t).pu.span = s.pu.span := by
  simp [State.seekBlocks]
@[simp] theorem State.seekBlocks_pu_pace (t : Nat) :
    (s.seekBlocks t).pu.pace = s.pu.pace := by
  simp [State.seekBlocks]
@[simp] theorem State.seekBlocks_pu_budget (t : Nat) :
    (s.seekBlocks t).pu.budget = .unlimited := by
  simp [State.seekBlocks]
@[simp] theorem State.seekBlocks_pu_pausePending (t : Nat) :
    (s.seekBlocks t).pu.pausePending = false := by
  simp [State.seekBlocks]
@[simp] theorem State.seekBlocks_pu_phase (t : Nat) :
    (s.seekBlocks t).pu.phase = .gather := by
  simp [State.seekBlocks]
@[simp] theorem State.seekBlocks_pu_drive (t : Nat) :
    (s.seekBlocks t).pu.drive = s.pu.drive := by
  simp [State.seekBlocks]
@[simp] theorem State.seekBlocks_pu_closePulse (t : Nat) :
    (s.seekBlocks t).pu.closePulse = s.pu.closePulse := by
  simp [State.seekBlocks]
@[simp] theorem State.seekBlocks_pu_paceTimer (t : Nat) :
    (s.seekBlocks t).pu.paceTimer = s.pu.paceTimer := by
  simp [State.seekBlocks]
@[simp] theorem State.seekBlocks_pu_timebase (t : Nat) :
    (s.seekBlocks t).pu.timebase = s.pu.timebase := by
  simp [State.seekBlocks]
@[simp] theorem State.seekBlocks_dst (t : Nat) :
    (s.seekBlocks t).dst = s.dst := by
  simp [State.seekBlocks]
@[simp] theorem State.seekBlocks_cku (t : Nat) :
    (s.seekBlocks t).cku = s.cku := by
  simp [State.seekBlocks]
@[simp] theorem State.seekBlocks_rc_mode (t : Nat) :
    (s.seekBlocks t).rc.mode = .seeking := by
  simp [State.seekBlocks]
@[simp] theorem State.seekBlocks_rc_modeAfterSeek (t : Nat) :
    (s.seekBlocks t).rc.modeAfterSeek = .paused := by
  simp [State.seekBlocks]
@[simp] theorem State.seekBlocks_rc_startCause (t : Nat) :
    (s.seekBlocks t).rc.startCause = s.rc.startCause := by
  simp [State.seekBlocks]
@[simp] theorem State.seekBlocks_rc_faultCause (t : Nat) :
    (s.seekBlocks t).rc.faultCause = s.rc.faultCause := by
  simp [State.seekBlocks]
@[simp] theorem State.seekBlocks_rc_configWarning (t : Nat) :
    (s.seekBlocks t).rc.configWarning = s.rc.configWarning := by
  simp [State.seekBlocks]
@[simp] theorem State.seekBlocks_rc_seekDegraded (t : Nat) :
    (s.seekBlocks t).rc.seekDegraded = false := by
  simp [State.seekBlocks]
@[simp] theorem State.seekBlocks_rc_seekTime (t : Nat) :
    (s.seekBlocks t).rc.seekTime = t := by
  simp [State.seekBlocks]
@[simp] theorem State.seekBlocks_rc_statusPending (t : Nat) :
    (s.seekBlocks t).rc.statusPending = s.rc.statusPending := by
  simp [State.seekBlocks]
@[simp] theorem State.seekBlocks_rc_load (t : Nat) :
    (s.seekBlocks t).rc.load = s.rc.load := by
  simp [State.seekBlocks]
@[simp] theorem State.seekBlocks_pending (t : Nat) :
    (s.seekBlocks t).pending = s.pending := by
  simp [State.seekBlocks]

@[simp] theorem State.lane_seekBlocks (t : Nat) (l : Fin 16) :
    (s.seekBlocks t).lane l = (s.lane l).seekReset := by
  rw [State.lane, State.seekBlocks_afu_lanes]
  exact State.lane_mapLanes s _ l

/-! `State.haltBlocks` -/

@[simp] theorem State.haltBlocks_inReset :
    (s.haltBlocks).inReset = s.inReset := by
  simp [State.haltBlocks]
@[simp] theorem State.haltBlocks_straps :
    (s.haltBlocks).straps = s.straps := by
  simp [State.haltBlocks]
@[simp] theorem State.haltBlocks_afu_lanes :
    (s.haltBlocks).afu.lanes = (s.mapLanes Lane.halted).afu.lanes := by
  simp [State.haltBlocks]
@[simp] theorem State.haltBlocks_afu_rotation :
    (s.haltBlocks).afu.rotation = s.afu.rotation := by
  simp [State.haltBlocks]
@[simp] theorem State.haltBlocks_afu_request :
    (s.haltBlocks).afu.request = none := by
  simp [State.haltBlocks]
@[simp] theorem State.haltBlocks_afu_visitCount :
    (s.haltBlocks).afu.visitCount = s.afu.visitCount := by
  simp [State.haltBlocks]
@[simp] theorem State.haltBlocks_afu_directory :
    (s.haltBlocks).afu.directory = s.afu.directory := by
  simp [State.haltBlocks]
@[simp] theorem State.haltBlocks_afu_checkpoint :
    (s.haltBlocks).afu.checkpoint = none := by
  simp [State.haltBlocks]
@[simp] theorem State.haltBlocks_afu_atag :
    (s.haltBlocks).afu.atag = s.afu.atag := by
  simp [State.haltBlocks]
@[simp] theorem State.haltBlocks_afu_aadr :
    (s.haltBlocks).afu.aadr = s.afu.aadr := by
  simp [State.haltBlocks]
@[simp] theorem State.haltBlocks_afu_words :
    (s.haltBlocks).afu.words = [] := by
  simp [State.haltBlocks]
@[simp] theorem State.haltBlocks_afu_visitEnding :
    (s.haltBlocks).afu.visitEnding = false := by
  simp [State.haltBlocks]
@[simp] theorem State.haltBlocks_ccu :
    (s.haltBlocks).ccu = s.ccu := by
  simp [State.haltBlocks]
@[simp] theorem State.haltBlocks_mq_entries :
    (s.haltBlocks).mq.entries = [] := by
  simp [State.haltBlocks]
@[simp] theorem State.haltBlocks_mq_cut :
    (s.haltBlocks).mq.cut = .absent := by
  simp [State.haltBlocks]
@[simp] theorem State.haltBlocks_biu :
    (s.haltBlocks).biu = s.biu := by
  simp [State.haltBlocks]
@[simp] theorem State.haltBlocks_pu_windowStart :
    (s.haltBlocks).pu.windowStart = s.pu.windowStart := by
  simp [State.haltBlocks]
@[simp] theorem State.haltBlocks_pu_windowEnd :
    (s.haltBlocks).pu.windowEnd = s.pu.windowEnd := by
  simp [State.haltBlocks]
@[simp] theorem State.haltBlocks_pu_span :
    (s.haltBlocks).pu.span = s.pu.span := by
  simp [State.haltBlocks]
@[simp] theorem State.haltBlocks_pu_pace :
    (s.haltBlocks).pu.pace = s.pu.pace := by
  simp [State.haltBlocks]
@[simp] theorem State.haltBlocks_pu_budget :
    (s.haltBlocks).pu.budget = .unlimited := by
  simp [State.haltBlocks]
@[simp] theorem State.haltBlocks_pu_pausePending :
    (s.haltBlocks).pu.pausePending = false := by
  simp [State.haltBlocks]
@[simp] theorem State.haltBlocks_pu_phase :
    (s.haltBlocks).pu.phase = .gather := by
  simp [State.haltBlocks]
@[simp] theorem State.haltBlocks_pu_drive :
    (s.haltBlocks).pu.drive = s.pu.drive := by
  simp [State.haltBlocks]
@[simp] theorem State.haltBlocks_pu_closePulse :
    (s.haltBlocks).pu.closePulse = s.pu.closePulse := by
  simp [State.haltBlocks]
@[simp] theorem State.haltBlocks_pu_paceTimer :
    (s.haltBlocks).pu.paceTimer = s.pu.paceTimer := by
  simp [State.haltBlocks]
@[simp] theorem State.haltBlocks_pu_timebase :
    (s.haltBlocks).pu.timebase = s.pu.timebase := by
  simp [State.haltBlocks]
@[simp] theorem State.haltBlocks_dst :
    (s.haltBlocks).dst = s.dst := by
  simp [State.haltBlocks]
@[simp] theorem State.haltBlocks_cku :
    (s.haltBlocks).cku = s.cku := by
  simp [State.haltBlocks]
@[simp] theorem State.haltBlocks_rc_mode :
    (s.haltBlocks).rc.mode = .standby := by
  simp [State.haltBlocks]
@[simp] theorem State.haltBlocks_rc_modeAfterSeek :
    (s.haltBlocks).rc.modeAfterSeek = .paused := by
  simp [State.haltBlocks]
@[simp] theorem State.haltBlocks_rc_startCause :
    (s.haltBlocks).rc.startCause = s.rc.startCause := by
  simp [State.haltBlocks]
@[simp] theorem State.haltBlocks_rc_faultCause :
    (s.haltBlocks).rc.faultCause = s.rc.faultCause := by
  simp [State.haltBlocks]
@[simp] theorem State.haltBlocks_rc_configWarning :
    (s.haltBlocks).rc.configWarning = s.rc.configWarning := by
  simp [State.haltBlocks]
@[simp] theorem State.haltBlocks_rc_seekDegraded :
    (s.haltBlocks).rc.seekDegraded = s.rc.seekDegraded := by
  simp [State.haltBlocks]
@[simp] theorem State.haltBlocks_rc_seekTime :
    (s.haltBlocks).rc.seekTime = s.rc.seekTime := by
  simp [State.haltBlocks]
@[simp] theorem State.haltBlocks_rc_statusPending :
    (s.haltBlocks).rc.statusPending = s.rc.statusPending := by
  simp [State.haltBlocks]
@[simp] theorem State.haltBlocks_rc_load :
    (s.haltBlocks).rc.load = s.rc.load := by
  simp [State.haltBlocks]
@[simp] theorem State.haltBlocks_pending :
    (s.haltBlocks).pending = s.pending := by
  simp [State.haltBlocks]

@[simp] theorem State.lane_haltBlocks (l : Fin 16) :
    (s.haltBlocks).lane l = (s.lane l).halted := by
  rw [State.lane, State.haltBlocks_afu_lanes]
  exact State.lane_mapLanes s _ l

/-! `State.loadSubs` -/

@[simp] theorem State.loadSubs_inReset (a : List LaneSub) (b : List DeviceSub) :
    (s.loadSubs a b).inReset = s.inReset := by
  simp [State.loadSubs]
@[simp] theorem State.loadSubs_straps (a : List LaneSub) (b : List DeviceSub) :
    (s.loadSubs a b).straps = s.straps := by
  simp [State.loadSubs]
@[simp] theorem State.loadSubs_afu_lanes (a : List LaneSub) (b : List DeviceSub) :
    (s.loadSubs a b).afu.lanes = (s.mapLanesAt (Lane.loaded a)).afu.lanes := by
  simp [State.loadSubs]
@[simp] theorem State.loadSubs_afu_rotation (a : List LaneSub) (b : List DeviceSub) :
    (s.loadSubs a b).afu.rotation = s.afu.rotation := by
  simp [State.loadSubs]
@[simp] theorem State.loadSubs_afu_request (a : List LaneSub) (b : List DeviceSub) :
    (s.loadSubs a b).afu.request = s.afu.request := by
  simp [State.loadSubs]
@[simp] theorem State.loadSubs_afu_visitCount (a : List LaneSub) (b : List DeviceSub) :
    (s.loadSubs a b).afu.visitCount = s.afu.visitCount := by
  simp [State.loadSubs]
@[simp] theorem State.loadSubs_afu_directory (a : List LaneSub) (b : List DeviceSub) :
    (s.loadSubs a b).afu.directory = s.afu.directory := by
  simp [State.loadSubs]
@[simp] theorem State.loadSubs_afu_checkpoint (a : List LaneSub) (b : List DeviceSub) :
    (s.loadSubs a b).afu.checkpoint = none := by
  simp [State.loadSubs]
@[simp] theorem State.loadSubs_afu_atag (a : List LaneSub) (b : List DeviceSub) :
    (s.loadSubs a b).afu.atag = s.afu.atag := by
  simp [State.loadSubs]
@[simp] theorem State.loadSubs_afu_aadr (a : List LaneSub) (b : List DeviceSub) :
    (s.loadSubs a b).afu.aadr = s.afu.aadr := by
  simp [State.loadSubs]
@[simp] theorem State.loadSubs_afu_words (a : List LaneSub) (b : List DeviceSub) :
    (s.loadSubs a b).afu.words = s.afu.words := by
  simp [State.loadSubs]
@[simp] theorem State.loadSubs_afu_visitEnding (a : List LaneSub) (b : List DeviceSub) :
    (s.loadSubs a b).afu.visitEnding = s.afu.visitEnding := by
  simp [State.loadSubs]
@[simp] theorem State.loadSubs_ccu (a : List LaneSub) (b : List DeviceSub) :
    (s.loadSubs a b).ccu = s.ccu := by
  simp [State.loadSubs]
@[simp] theorem State.loadSubs_mq (a : List LaneSub) (b : List DeviceSub) :
    (s.loadSubs a b).mq = s.mq := by
  simp [State.loadSubs]
@[simp] theorem State.loadSubs_biu (a : List LaneSub) (b : List DeviceSub) :
    (s.loadSubs a b).biu = s.biu := by
  simp [State.loadSubs]
@[simp] theorem State.loadSubs_pu (a : List LaneSub) (b : List DeviceSub) :
    (s.loadSubs a b).pu = s.pu := by
  simp [State.loadSubs]
@[simp] theorem State.loadSubs_dst_devices (a : List LaneSub) (b : List DeviceSub) :
    (s.loadSubs a b).dst.devices = s.dst.devices.map fun x => x.fromSubs b := by
  simp [State.loadSubs, Dst.loadDevices]
@[simp] theorem State.loadSubs_dst_ranges (a : List LaneSub) (b : List DeviceSub) :
    (s.loadSubs a b).dst.ranges = s.dst.ranges := by
  simp [State.loadSubs, Dst.loadDevices]
@[simp] theorem State.loadSubs_dst_replies (a : List LaneSub) (b : List DeviceSub) :
    (s.loadSubs a b).dst.replies = s.dst.replies := by
  simp [State.loadSubs, Dst.loadDevices]
@[simp] theorem State.loadSubs_cku (a : List LaneSub) (b : List DeviceSub) :
    (s.loadSubs a b).cku = s.cku := by
  simp [State.loadSubs]
@[simp] theorem State.loadSubs_rc (a : List LaneSub) (b : List DeviceSub) :
    (s.loadSubs a b).rc = s.rc := by
  simp [State.loadSubs]
@[simp] theorem State.loadSubs_pending (a : List LaneSub) (b : List DeviceSub) :
    (s.loadSubs a b).pending = s.pending := by
  simp [State.loadSubs]

@[simp] theorem State.lane_loadSubs (a : List LaneSub) (b : List DeviceSub) (l : Fin 16) :
    (s.loadSubs a b).lane l = Lane.loaded a l (s.lane l) := by
  rw [State.lane, State.loadSubs_afu_lanes]
  exact State.lane_mapLanesAt s _ l

/-! `State.finishLoad` -/

@[simp] theorem State.finishLoad_inReset (p : LoadProgress) :
    (s.finishLoad p).inReset = s.inReset := by
  simp [State.finishLoad]
@[simp] theorem State.finishLoad_straps (p : LoadProgress) :
    (s.finishLoad p).straps = s.straps := by
  simp [State.finishLoad]
@[simp] theorem State.finishLoad_afu_lanes (p : LoadProgress) :
    (s.finishLoad p).afu.lanes = Vector.ofFn fun l => (p.lanes[l.val]?).elim Lane.disabled LaneConfig.toLane := by
  simp [State.finishLoad]
@[simp] theorem State.finishLoad_afu_rotation (p : LoadProgress) :
    (s.finishLoad p).afu.rotation = s.afu.rotation := by
  simp [State.finishLoad]
@[simp] theorem State.finishLoad_afu_request (p : LoadProgress) :
    (s.finishLoad p).afu.request = none := by
  simp [State.finishLoad]
@[simp] theorem State.finishLoad_afu_visitCount (p : LoadProgress) :
    (s.finishLoad p).afu.visitCount = s.afu.visitCount := by
  simp [State.finishLoad]
@[simp] theorem State.finishLoad_afu_directory (p : LoadProgress) :
    (s.finishLoad p).afu.directory = p.directory := by
  simp [State.finishLoad]
@[simp] theorem State.finishLoad_afu_checkpoint (p : LoadProgress) :
    (s.finishLoad p).afu.checkpoint = s.afu.checkpoint := by
  simp [State.finishLoad]
@[simp] theorem State.finishLoad_afu_atag (p : LoadProgress) :
    (s.finishLoad p).afu.atag = s.afu.atag := by
  simp [State.finishLoad]
@[simp] theorem State.finishLoad_afu_aadr (p : LoadProgress) :
    (s.finishLoad p).afu.aadr = s.afu.aadr := by
  simp [State.finishLoad]
@[simp] theorem State.finishLoad_afu_words (p : LoadProgress) :
    (s.finishLoad p).afu.words = [] := by
  simp [State.finishLoad]
@[simp] theorem State.finishLoad_afu_visitEnding (p : LoadProgress) :
    (s.finishLoad p).afu.visitEnding = s.afu.visitEnding := by
  simp [State.finishLoad]
@[simp] theorem State.finishLoad_ccu_driftShift (p : LoadProgress) :
    (s.finishLoad p).ccu.driftShift = p.header.driftShift := by
  simp [State.finishLoad]
@[simp] theorem State.finishLoad_ccu_stepLimit (p : LoadProgress) :
    (s.finishLoad p).ccu.stepLimit = p.header.stepLimit := by
  simp [State.finishLoad]
@[simp] theorem State.finishLoad_mq_entries (p : LoadProgress) :
    (s.finishLoad p).mq.entries = [] := by
  simp [State.finishLoad]
@[simp] theorem State.finishLoad_mq_cut (p : LoadProgress) :
    (s.finishLoad p).mq.cut = .absent := by
  simp [State.finishLoad]
@[simp] theorem State.finishLoad_biu (p : LoadProgress) :
    (s.finishLoad p).biu = s.biu := by
  simp [State.finishLoad]
@[simp] theorem State.finishLoad_pu (p : LoadProgress) :
    (s.finishLoad p).pu = s.pu := by
  simp [State.finishLoad]
@[simp] theorem State.finishLoad_dst_devices (p : LoadProgress) :
    (s.finishLoad p).dst.devices = p.devices := by
  simp [State.finishLoad]
@[simp] theorem State.finishLoad_dst_ranges (p : LoadProgress) :
    (s.finishLoad p).dst.ranges = p.ranges := by
  simp [State.finishLoad]
@[simp] theorem State.finishLoad_dst_replies (p : LoadProgress) :
    (s.finishLoad p).dst.replies = s.dst.replies := by
  simp [State.finishLoad]
@[simp] theorem State.finishLoad_cku_findings (p : LoadProgress) :
    (s.finishLoad p).cku.findings = s.cku.findings := by
  simp [State.finishLoad]
@[simp] theorem State.finishLoad_cku_lostFindings (p : LoadProgress) :
    (s.finishLoad p).cku.lostFindings = s.cku.lostFindings := by
  simp [State.finishLoad]
@[simp] theorem State.finishLoad_cku_tolerance (p : LoadProgress) :
    (s.finishLoad p).cku.tolerance = p.header.tolerance := by
  simp [State.finishLoad]
@[simp] theorem State.finishLoad_rc_mode (p : LoadProgress) :
    (s.finishLoad p).rc.mode = .standby := by
  simp [State.finishLoad]
@[simp] theorem State.finishLoad_rc_modeAfterSeek (p : LoadProgress) :
    (s.finishLoad p).rc.modeAfterSeek = s.rc.modeAfterSeek := by
  simp [State.finishLoad]
@[simp] theorem State.finishLoad_rc_startCause (p : LoadProgress) :
    (s.finishLoad p).rc.startCause = s.rc.startCause := by
  simp [State.finishLoad]
@[simp] theorem State.finishLoad_rc_faultCause (p : LoadProgress) :
    (s.finishLoad p).rc.faultCause = s.rc.faultCause := by
  simp [State.finishLoad]
@[simp] theorem State.finishLoad_rc_configWarning (p : LoadProgress) :
    (s.finishLoad p).rc.configWarning = s.rc.configWarning := by
  simp [State.finishLoad]
@[simp] theorem State.finishLoad_rc_seekDegraded (p : LoadProgress) :
    (s.finishLoad p).rc.seekDegraded = s.rc.seekDegraded := by
  simp [State.finishLoad]
@[simp] theorem State.finishLoad_rc_seekTime (p : LoadProgress) :
    (s.finishLoad p).rc.seekTime = s.rc.seekTime := by
  simp [State.finishLoad]
@[simp] theorem State.finishLoad_rc_statusPending (p : LoadProgress) :
    (s.finishLoad p).rc.statusPending = true := by
  simp [State.finishLoad]
@[simp] theorem State.finishLoad_rc_load (p : LoadProgress) :
    (s.finishLoad p).rc.load = none := by
  simp [State.finishLoad]
@[simp] theorem State.finishLoad_pending (p : LoadProgress) :
    (s.finishLoad p).pending = s.pending := by
  simp [State.finishLoad]

/-! `State.readLoad` -/

@[simp] theorem State.readLoad_inReset (p : LoadProgress) (g : LoadStage) (n : Nat) :
    (s.readLoad p g n).inReset = s.inReset := by
  simp [State.readLoad]
@[simp] theorem State.readLoad_straps (p : LoadProgress) (g : LoadStage) (n : Nat) :
    (s.readLoad p g n).straps = s.straps := by
  simp [State.readLoad]
@[simp] theorem State.readLoad_afu_lanes (p : LoadProgress) (g : LoadStage) (n : Nat) :
    (s.readLoad p g n).afu.lanes = s.afu.lanes := by
  simp [State.readLoad]
@[simp] theorem State.readLoad_afu_rotation (p : LoadProgress) (g : LoadStage) (n : Nat) :
    (s.readLoad p g n).afu.rotation = s.afu.rotation := by
  simp [State.readLoad]
@[simp] theorem State.readLoad_afu_request (p : LoadProgress) (g : LoadStage) (n : Nat) :
    (s.readLoad p g n).afu.request = some { owner := .load, slot := n, retry := false } := by
  simp [State.readLoad]
@[simp] theorem State.readLoad_afu_visitCount (p : LoadProgress) (g : LoadStage) (n : Nat) :
    (s.readLoad p g n).afu.visitCount = s.afu.visitCount := by
  simp [State.readLoad]
@[simp] theorem State.readLoad_afu_directory (p : LoadProgress) (g : LoadStage) (n : Nat) :
    (s.readLoad p g n).afu.directory = s.afu.directory := by
  simp [State.readLoad]
@[simp] theorem State.readLoad_afu_checkpoint (p : LoadProgress) (g : LoadStage) (n : Nat) :
    (s.readLoad p g n).afu.checkpoint = s.afu.checkpoint := by
  simp [State.readLoad]
@[simp] theorem State.readLoad_afu_atag (p : LoadProgress) (g : LoadStage) (n : Nat) :
    (s.readLoad p g n).afu.atag = !s.afu.atag := by
  simp [State.readLoad]
@[simp] theorem State.readLoad_afu_aadr (p : LoadProgress) (g : LoadStage) (n : Nat) :
    (s.readLoad p g n).afu.aadr = BitVec.ofNat 27 n := by
  simp [State.readLoad]
@[simp] theorem State.readLoad_afu_words (p : LoadProgress) (g : LoadStage) (n : Nat) :
    (s.readLoad p g n).afu.words = [] := by
  simp [State.readLoad]
@[simp] theorem State.readLoad_afu_visitEnding (p : LoadProgress) (g : LoadStage) (n : Nat) :
    (s.readLoad p g n).afu.visitEnding = s.afu.visitEnding := by
  simp [State.readLoad]
@[simp] theorem State.readLoad_ccu (p : LoadProgress) (g : LoadStage) (n : Nat) :
    (s.readLoad p g n).ccu = s.ccu := by
  simp [State.readLoad]
@[simp] theorem State.readLoad_mq (p : LoadProgress) (g : LoadStage) (n : Nat) :
    (s.readLoad p g n).mq = s.mq := by
  simp [State.readLoad]
@[simp] theorem State.readLoad_biu (p : LoadProgress) (g : LoadStage) (n : Nat) :
    (s.readLoad p g n).biu = s.biu := by
  simp [State.readLoad]
@[simp] theorem State.readLoad_pu (p : LoadProgress) (g : LoadStage) (n : Nat) :
    (s.readLoad p g n).pu = s.pu := by
  simp [State.readLoad]
@[simp] theorem State.readLoad_dst (p : LoadProgress) (g : LoadStage) (n : Nat) :
    (s.readLoad p g n).dst = s.dst := by
  simp [State.readLoad]
@[simp] theorem State.readLoad_cku (p : LoadProgress) (g : LoadStage) (n : Nat) :
    (s.readLoad p g n).cku = s.cku := by
  simp [State.readLoad]
@[simp] theorem State.readLoad_rc_mode (p : LoadProgress) (g : LoadStage) (n : Nat) :
    (s.readLoad p g n).rc.mode = s.rc.mode := by
  simp [State.readLoad]
@[simp] theorem State.readLoad_rc_modeAfterSeek (p : LoadProgress) (g : LoadStage) (n : Nat) :
    (s.readLoad p g n).rc.modeAfterSeek = s.rc.modeAfterSeek := by
  simp [State.readLoad]
@[simp] theorem State.readLoad_rc_startCause (p : LoadProgress) (g : LoadStage) (n : Nat) :
    (s.readLoad p g n).rc.startCause = s.rc.startCause := by
  simp [State.readLoad]
@[simp] theorem State.readLoad_rc_faultCause (p : LoadProgress) (g : LoadStage) (n : Nat) :
    (s.readLoad p g n).rc.faultCause = s.rc.faultCause := by
  simp [State.readLoad]
@[simp] theorem State.readLoad_rc_configWarning (p : LoadProgress) (g : LoadStage) (n : Nat) :
    (s.readLoad p g n).rc.configWarning = s.rc.configWarning := by
  simp [State.readLoad]
@[simp] theorem State.readLoad_rc_seekDegraded (p : LoadProgress) (g : LoadStage) (n : Nat) :
    (s.readLoad p g n).rc.seekDegraded = s.rc.seekDegraded := by
  simp [State.readLoad]
@[simp] theorem State.readLoad_rc_seekTime (p : LoadProgress) (g : LoadStage) (n : Nat) :
    (s.readLoad p g n).rc.seekTime = s.rc.seekTime := by
  simp [State.readLoad]
@[simp] theorem State.readLoad_rc_statusPending (p : LoadProgress) (g : LoadStage) (n : Nat) :
    (s.readLoad p g n).rc.statusPending = s.rc.statusPending := by
  simp [State.readLoad]
@[simp] theorem State.readLoad_rc_load (p : LoadProgress) (g : LoadStage) (n : Nat) :
    (s.readLoad p g n).rc.load = some { p with stage := g } := by
  simp [State.readLoad]
@[simp] theorem State.readLoad_pending (p : LoadProgress) (g : LoadStage) (n : Nat) :
    (s.readLoad p g n).pending = s.pending := by
  simp [State.readLoad]

end Sys2Proof.Machine
end

