-- ==== Sys2Proof/Laws/Ops.lean ====
section
/-! SUPPORT. What each shared operation does, said once: the merge queue's insertion, the lanes after an insertion and
after a test against the window end, the finding queue, and the outcome of a command outside a reset. -/

namespace Sys2Proof.Machine

variable (s : State)

/-- A command that a reset in progress keeps from happening answers its effect, or the state as it was in a reset. -/
theorem State.whenLive_next {s t : State} {f : State → State} (h : s.whenLive f = .next t) :
    (s.inReset = true ∧ t = s) ∨ (s.inReset = false ∧ t = f s) := by
  unfold State.whenLive at h
  cases hr : s.inReset <;> simp_all

/-- Outside a reset a command answers its effect. -/
theorem State.whenLive_live {s : State} (h : s.inReset = false) (f : State → State) :
    s.whenLive f = .next (f s) := by
  simp [State.whenLive, h]

/-- States with the same lanes agree on every lane. -/
theorem State.lane_congr {s t : State} (h : t.afu.lanes = s.afu.lanes) (l : Fin 16) : t.lane l = s.lane l := by
  simp [State.lane, h]

@[simp] theorem State.lane_raiseFinding (f : Finding) (l : Fin 16) : (s.raiseFinding f).lane l = s.lane l :=
  State.lane_congr (by simp) l
@[simp] theorem State.lane_pushInbound (f : Frame) (l : Fin 16) : (s.pushInbound f).lane l = s.lane l :=
  State.lane_congr (by simp) l
@[simp] theorem State.lane_placeStatus (l : Fin 16) : s.placeStatus.lane l = s.lane l :=
  State.lane_congr (by simp) l
@[simp] theorem State.lane_completeSeek (l : Fin 16) : s.completeSeek.lane l = s.lane l := rfl
@[simp] theorem State.lane_settleCut (l : Fin 16) : s.settleCut.lane l = s.lane l :=
  State.lane_congr (by simp) l

/-- A checkpoint slot sets at most the lane that its sub-record names. -/
@[simp] theorem State.lane_setFromSlot (c : CheckpointLoad) (d : Slot) (l : Fin 16) :
    (s.setFromSlot c d).lane l = Lane.setBy (c.newLane d) l (s.lane l) :=
  State.lane_mapLanesAt s _ l

/-! The finding queue (R153, R154). -/

/-- A finding raised with room joins the queue at its end, and without room is counted as lost. -/
theorem State.raiseFinding_cku (f : Finding) :
    (s.cku.findings.length < 8 ∧ (s.raiseFinding f).cku = { s.cku with findings := s.cku.findings ++ [f] }) ∨
      (8 ≤ s.cku.findings.length ∧
        (s.raiseFinding f).cku = { s.cku with lostFindings := min 255 (s.cku.lostFindings + 1) }) := by
  unfold State.raiseFinding Config.findingCapacity
  split
  · exact .inl ⟨‹_›, rfl⟩
  · exact .inr ⟨by omega, rfl⟩

/-! The order of the merge queue (R64) and insertion by key (R66). -/

/-- The order of keys, written out. -/
theorem EntryKey.before_iff (a b : EntryKey) :
    a.before b = true ↔
      a.time < b.time ∨ (a.time = b.time ∧ (a.lane < b.lane ∨ (a.lane = b.lane ∧ a.laneSeq < b.laneSeq))) := by
  simp [EntryKey.before]

theorem EntryKey.before_trans {a b c : EntryKey} (hab : a.before b = true) (hbc : b.before c = true) :
    a.before c = true := by
  rw [EntryKey.before_iff, Fin.lt_def, Fin.ext_iff] at *
  omega

theorem EntryKey.before_irrefl (a : EntryKey) : a.before a = false := by
  simp [EntryKey.before]

/-- Keys that differ in lane or lane sequence are ordered one way or the other. -/
theorem EntryKey.before_total {a b : EntryKey} (h : ¬(a.lane = b.lane ∧ a.laneSeq = b.laneSeq)) :
    a.before b = true ∨ b.before a = true := by
  rw [EntryKey.before_iff, EntryKey.before_iff, Fin.lt_def, Fin.lt_def]
  rw [Fin.ext_iff] at *
  omega

/-- The queue after an insertion holds the new entry and those it held. -/
@[simp] theorem mem_insertEntry {e x : Entry} {q : List Entry} : x ∈ insertEntry e q ↔ x = e ∨ x ∈ q := by
  induction q with
  | nil => simp [insertEntry]
  | cons y q ih =>
    unfold insertEntry
    split
    · simp
    · simp [ih, or_left_comm]

/-- An insertion raises the count of entries by one. -/
@[simp] theorem length_insertEntry (e : Entry) (q : List Entry) : (insertEntry e q).length = q.length + 1 := by
  induction q with
  | nil => rfl
  | cons y q ih =>
    unfold insertEntry
    split <;> simp [ih]

/-- An insertion changes no existing entry and no order among them. -/
theorem sublist_insertEntry (e : Entry) (q : List Entry) : q.Sublist (insertEntry e q) := by
  induction q with
  | nil => exact List.nil_sublist _
  | cons y q ih =>
    unfold insertEntry
    split
    · exact List.sublist_cons_self _ _
    · exact ih.cons_cons y

/-- An insertion into an ascending queue that holds no entry of the same lane and lane sequence leaves it ascending. -/
theorem insertEntry_ascending {e : Entry} {q : List Entry}
    (hq : q.Pairwise fun a b => a.key.before b.key = true)
    (hd : ∀ x ∈ q, ¬(e.lane = x.lane ∧ e.laneSeq = x.laneSeq)) :
    (insertEntry e q).Pairwise fun a b => a.key.before b.key = true := by
  induction q with
  | nil => simp [insertEntry]
  | cons y q ih =>
    rw [List.pairwise_cons] at hq
    unfold insertEntry
    split
    · rename_i h
      rw [List.pairwise_cons, List.pairwise_cons]
      refine ⟨fun x hx => ?_, hq⟩
      rcases List.mem_cons.1 hx with rfl | hx
      · exact h
      · exact EntryKey.before_trans h (hq.1 x hx)
    · rename_i h
      rw [List.pairwise_cons]
      refine ⟨fun x hx => ?_, ih hq.2 fun x hx => hd x (List.mem_cons_of_mem _ hx)⟩
      rcases mem_insertEntry.1 hx with rfl | hx
      · exact (EntryKey.before_total (hd y List.mem_cons_self)).resolve_left h
      · exact hq.1 x hx

/-! The insertion of an event (R36, R50, R66). -/

/-- The lanes after an insertion: lane l alone has changed. -/
theorem State.lane_insertEvent (l m : Fin 16) (e : HeldEvent) :
    (s.insertEvent l e).lane m =
      if m = l then
        (s.lane l).afterInsert e ((s.lane l).clock.holdTime s.holdFloor e) s.pu.windowEnd
      else s.lane m := by
  exact State.lane_setLane s l m _

/-- The queue after an insertion. -/
theorem State.insertEvent_mq_entries (l : Fin 16) (e : HeldEvent) :
    (s.insertEvent l e).mq.entries =
      insertEntry ((s.lane l).entryFor l e ((s.lane l).clock.holdTime s.holdFloor e)) s.mq.entries := rfl

/-! The test against the window end (R37). -/

/-- What the test of R37 does to lane l: a released record goes in, or waits STALLED, or the state alone changes. -/
theorem State.retestLane_cases (l : Fin 16) :
    (∃ e, (s.lane l).resumesRecord s.pu.windowEnd = some e ∧ s.queueFull = true ∧
        s.retestLane l = s.setLane l { s.lane l with state := .stalled }) ∨
      (∃ e, (s.lane l).resumesRecord s.pu.windowEnd = some e ∧ s.queueFull = false ∧
        s.retestLane l = s.insertEvent l e) ∨
      ((s.lane l).resumesRecord s.pu.windowEnd = none ∧
        s.retestLane l = s.setLane l ((s.lane l).passTest s.pu.windowEnd)) := by
  unfold State.retestLane
  split
  · rename_i e h
    by_cases hf : s.queueFull = true
    · exact .inl ⟨e, h, hf, by simp [hf]⟩
    · exact .inr (.inl ⟨e, h, by simpa using hf, by simp [hf]⟩)
  · exact .inr (.inr ⟨‹_›, rfl⟩)

/-- A property that the test of each lane keeps is kept by the test of all. -/
theorem State.retestLanes_induct {P : State → Prop} (h : ∀ s l, P s → P (s.retestLane l)) {s : State} (hs : P s) :
    P s.retestLanes := by
  unfold State.retestLanes
  generalize List.finRange 16 = ls
  induction ls generalizing s with
  | nil => exact hs
  | cons l ls ih => exact ih (h s l hs)

/-- Without a released record to insert, the test of R37 changes lane states alone. -/
theorem State.lane_retestLane_other {l m : Fin 16} (h : m ≠ l) : (s.retestLane l).lane m = s.lane m := by
  rcases s.retestLane_cases l with ⟨e, -, -, h'⟩ | ⟨e, -, -, h'⟩ | ⟨-, h'⟩ <;>
    simp [h', State.lane_setLane, State.lane_insertEvent, h]

/-- The test of R37 changes at most a lane's state. -/
theorem Lane.passTest_eq (x : Lane) (w : Nat) : x.passTest w = { x with state := (x.passTest w).state } := by
  unfold Lane.passTest
  split <;> (try split) <;> rfl

/-! A freed entry (R38). -/

/-- The insertion of a released record on a freed entry: nothing, or one insertion for a STALLED lane. -/
theorem State.insertReleased_cases :
    s.insertReleased = s ∨
      ∃ l e, (s.lane l).state = .stalled ∧ (s.lane l).releasedRecord = some e ∧ s.queueFull = false ∧
        s.insertReleased = s.insertEvent l e := by
  unfold State.insertReleased
  split
  · exact .inl rfl
  · rename_i l hl
    have hp := List.find?_some hl
    simp only [Bool.and_eq_true, beq_iff_eq] at hp
    split
    · exact .inl rfl
    · rename_i e he
      by_cases hf : s.queueFull = true
      · exact .inl (by simp [hf])
      · exact .inr ⟨l, e, hp.1, he, by simpa using hf, by simp [hf]⟩

/-! The silent front (R161). -/

/-- A silent event's application changes no lane but by taking the event away. -/
theorem State.lane_applySilent (l m : Fin 16) :
    (s.applySilent l).lane m = if m = l then { s.lane m with silent := none } else s.lane m := by
  unfold State.applySilent
  split
  · rename_i h
    split
    · subst m; rw [← h]
    · rfl
  · rename_i e h
    have := State.lane_setLane s l m { s.lane l with silent := none }
    rw [show ({ s.setLane l { s.lane l with silent := none } with
      dst := s.dst.update e.device fun d => d.applyEvent e.kind e.time (.lane l) } : State).lane m
      = (s.setLane l { s.lane l with silent := none }).lane m from rfl, this]
    split
    · subst m; rfl
    · rfl

/-- A property that the application of one silent event keeps is kept by the draining of the front. -/
theorem State.drainFront_induct {P : State → Prop} (h : ∀ s l, P s → P (s.applySilent l)) (n : Nat) {s : State}
    (hs : P s) : P (State.drainFront n s) := by
  induction n generalizing s with
  | zero => exact hs
  | succ n ih =>
    unfold State.drainFront
    split
    · split
      · exact hs
      · exact ih (h _ _ hs)
    · exact hs

/-- The end of a command (R103, R161, R162, R74, R75): the front drains, and the seek completes or not. -/
theorem State.settleSeek_cases :
    s.settleSeek = s ∨
      (s.rc.mode = .seeking ∧ s.afu.checkpoint = none ∧
        (s.settleSeek = State.drainFront 16 s ∨ s.settleSeek = (State.drainFront 16 s).completeSeek)) := by
  unfold State.settleSeek State.finishReplay
  split
  · rename_i h
    simp only [State.replaysSilently, Bool.and_eq_true, beq_iff_eq, Option.isNone_iff_eq_none] at h
    refine .inr ⟨h.1, h.2, ?_⟩
    split
    · exact .inr rfl
    · exact .inl rfl
  · exact .inl rfl

/-- Outside SEEKING nothing is replayed silently. -/
theorem State.settleSeek_of_ne {s : State} (h : s.rc.mode ≠ .seeking) : s.settleSeek = s := by
  rcases s.settleSeek_cases with h' | ⟨h', -⟩
  · exact h'
  · exact absurd h' h

end Sys2Proof.Machine
end

