-- ==== Sys2Proof/Laws/Line.lean ====
section
/-! SUPPORT. The hold line and the end of a command, said once: when the engine drives BHL, what settling can change
outside SEEKING, and what the tests of R37 and R38 do to the lanes when no lane holds a released record. -/

namespace Sys2Proof.Machine

/-! The drive of the hold line (R103, R104, R105, R116). -/

theorem State.allLanes_iff (s : State) (p : Lane → Bool) : s.allLanes p = true ↔ ∀ l, p (s.lane l) = true := by
  simp [State.allLanes, List.all_eq_true]

theorem State.anyLane_iff (s : State) (p : Lane → Bool) : s.anyLane p = true ↔ ∃ l, p (s.lane l) = true := by
  simp [State.anyLane, List.any_eq_true]

theorem State.gathered_iff (s : State) : s.gathered = true ↔ s.Gathered := by
  unfold State.gathered State.Gathered State.lanesFinished
  rw [Bool.or_eq_true, State.allLanes_iff, beq_iff_eq]
  refine or_congr (forall_congr' fun l => ?_) Iff.rfl
  simp only [Lane.configured, Lane.finished]
  cases (s.lane l).state <;> simp

theorem State.anyTrapped_iff (s : State) : s.anyTrapped = true ↔ ∃ l, (s.lane l).state = .trapped := by
  simp [State.anyTrapped, State.anyLane_iff]

theorem State.paceMet_iff (s : State) : s.paceMet = true ↔ s.PaceTestMet := by
  have h : ∀ a b : Nat, (a + 15) / 16 ≤ b ↔ a ≤ 16 * b := by omega
  unfold State.paceMet State.paceTime State.PaceTestMet
  rw [decide_eq_true_iff, h]

theorem State.nextWaiting_iff (s : State) : s.nextWaiting = true ↔ ∃ f ∈ s.biu.inbound, f.body = .next := by
  simp only [State.nextWaiting, List.any_eq_true]
  refine exists_congr fun f => and_congr Iff.rfl ?_
  unfold isNextFrame
  cases f.body <;> simp

/-- The drive that the state calls for is dominant exactly when the engine is to hold the line. -/
theorem State.driveFor_iff (s : State) : s.driveFor = .dominant ↔ s.HoldsLine := by
  unfold State.driveFor State.HoldsLine
  cases hm : s.rc.mode <;> cases hp : s.pu.phase <;>
    simp [State.mayRelease, ← State.gathered_iff, ← State.anyTrapped_iff, ← State.paceMet_iff,
      ← State.nextWaiting_iff]
  all_goals
    cases s.anyTrapped <;> cases s.nextWaiting <;> cases s.paceMet <;> cases s.gathered <;>
      cases s.pu.closePulse <;> simp

/-! The end of a command (R74, R75, R103). -/

/-- The cut record is all that its settling changes. -/
theorem State.settleCut_eq (s : State) : s.settleCut = { s with mq.cut := s.settleCut.mq.cut } := by
  unfold State.settleCut
  split
  · split <;> rfl
  · split <;> rfl
  · rfl

/-- Without a cut record and with an entry free, no cut is due. -/
theorem State.settleCut_of_absent {s : State} (h : s.mq.cut = .absent) (hl : s.mq.entries.length < 256) :
    s.settleCut = s := by
  have : s.queueFull = false := by
    simp only [State.queueFull, Config.queueCapacity, decide_eq_false_iff_not]
    omega
  simp [State.settleCut, h, State.cutDue, this]

/-- Outside SEEKING the end of a command changes the cut record and the drive alone. -/
theorem State.settle_of_ne {s : State} (h : s.rc.mode ≠ .seeking) :
    s.settle = { s with mq.cut := s.settleCut.mq.cut, pu.drive := s.settle.pu.drive } := by
  have e : s.settle = s.settleCut.refreshDrive := by
    unfold State.settle
    rw [State.settleSeek_of_ne h]
  obtain ⟨c, hc⟩ : ∃ c, s.settleCut = { s with mq.cut := c } := ⟨_, State.settleCut_eq s⟩
  rw [e, hc]
  rfl

/-- Outside SEEKING the end of a command changes no lane. -/
theorem State.lane_settle_of_ne {s : State} (h : s.rc.mode ≠ .seeking) (l : Fin 16) : s.settle.lane l = s.lane l := by
  rw [State.settle_of_ne h]
  rfl

/-- While a lane keeps the silent front waiting, no cut is computed or withdrawn. -/
theorem State.SeekGoesOn.settleCut_eq {s : State} {l : Fin 16} (h : s.SeekGoesOn l) : s.settleCut = s := by
  obtain ⟨m, -, hr, -, -⟩ := h.other
  have hl : s.lanesFinished = false := by
    rw [Bool.eq_false_iff, ne_eq, State.lanesFinished, State.allLanes_iff]
    intro hall
    have := hall m
    simp [Lane.configured, Lane.finished, hr] at this
  unfold State.settleCut State.cutDue
  cases hcut : s.mq.cut <;> simp [hl, h.mode, Mode.replaying]

/-- While a lane keeps the silent front waiting, the end of a command changes the drive alone. -/
theorem State.SeekGoesOn.settle_eq {s : State} {l : Fin 16} (h : s.SeekGoesOn l) : s.settle = s.refreshDrive := by
  obtain ⟨m, -, hr, hs, ht⟩ := h.other
  have hf : s.frontReady = false := by
    rw [Bool.eq_false_iff, ne_eq, State.frontReady, State.allLanes_iff]
    intro hall
    have := hall m
    simp only [Lane.clearOfFront, hr, hs, Option.isSome_none, Bool.false_or, decide_eq_true_iff] at this
    omega
  have hd : State.drainFront 16 s = s := by
    rw [State.drainFront, hf]
    rfl
  have ha : s.anyReading = true := by
    rw [State.anyReading, State.anyLane_iff]
    exact ⟨m, by simp [hr]⟩
  rw [State.settle, State.settleSeek, hd, State.finishReplay, ha]
  simp [h.settleCut_eq]

/-! Lanes without a released record (R37, R38). -/

/-- Where no lane of a list without repeats resumes a record, the test of R37 over the list is the state test of each of
its lanes, and the merge queue stays. -/
theorem State.foldl_retestLane {ls : List (Fin 16)} (hn : ls.Nodup) {s : State}
    (h : ∀ l ∈ ls, (s.lane l).resumesRecord s.pu.windowEnd = none) :
    (∀ m, (ls.foldl State.retestLane s).lane m =
        if m ∈ ls then (s.lane m).passTest s.pu.windowEnd else s.lane m) ∧
      (ls.foldl State.retestLane s).mq = s.mq := by
  induction ls generalizing s with
  | nil => simp
  | cons l ls ih =>
    rw [List.nodup_cons] at hn
    have e : s.retestLane l = s.setLane l ((s.lane l).passTest s.pu.windowEnd) := by
      unfold State.retestLane
      rw [h l List.mem_cons_self]
    have hl : ∀ m, (s.retestLane l).lane m = if m = l then (s.lane l).passTest s.pu.windowEnd else s.lane m := by
      intro m
      rw [e]
      exact State.lane_setLane _ _ _ _
    have := ih hn.2 (s := s.retestLane l) (by
      intro m hm
      have hne : m ≠ l := fun h => hn.1 (h ▸ hm)
      rw [hl m, if_neg hne, State.retestLane_pu]
      exact h m (List.mem_cons_of_mem _ hm))
    rw [List.foldl_cons]
    refine ⟨fun m => ?_, by rw [this.2, e]; rfl⟩
    rw [this.1 m, hl m, State.retestLane_pu]
    by_cases hm : m = l
    · subst hm
      simp [hn.1]
    · by_cases h2 : m ∈ ls <;> simp [hm, h2]

/-- Where no lane resumes a record, the test of R37 is the state test of each lane, and the merge queue stays. -/
theorem State.retestLanes_of_none {s : State} (h : ∀ l, (s.lane l).resumesRecord s.pu.windowEnd = none) :
    (∀ m, s.retestLanes.lane m = (s.lane m).passTest s.pu.windowEnd) ∧ s.retestLanes.mq = s.mq := by
  have := State.foldl_retestLane (List.nodup_finRange 16) (s := s) fun l _ => h l
  simpa [State.retestLanes] using this

/-- Where no lane holds a released record, a freed entry only makes the STALLED lanes READY. -/
theorem State.entryFreed_of_none {s : State} (h : ∀ l, (s.lane l).releasedRecord = none) :
    s.entryFreed = s.mapLanes Lane.resume := by
  unfold State.entryFreed
  rcases (s.mapLanes Lane.resume).insertReleased_cases with e | ⟨l, e, -, he, -⟩
  · exact e
  · rw [State.lane_mapLanes] at he
    have hl := h l
    have : ((s.lane l).resume).held = (s.lane l).held := by
      unfold Lane.resume
      split <;> rfl
    unfold Lane.releasedRecord at he hl
    rw [this, hl] at he
    cases he

end Sys2Proof.Machine
end

