-- ==== Sys2Proof/Laws/Front.lean ====
section
/-! SUPPORT. The silent front, said once: which event it applies next, what its draining leaves, and when the end of a
command leaves a seek as it stands (R160, R161, R162). -/

namespace Sys2Proof.Machine

/-- What the AFU reads for a lane is what the port is taken by (R24, R26). -/
theorem State.readsForLane_iff (s : State) : s.readsForLane = true ↔ s.LaneReadOutstanding := by
  unfold State.readsForLane State.LaneReadOutstanding
  rcases s.afu.request with _ | ⟨o, n, r⟩
  · simp
  · cases o <;> simp

/-- R24's two conditions, as the machine tests them. -/
theorem State.visitsAllowed_iff (s : State) : s.visitsAllowed = true ↔ s.MakesVisits := by
  unfold State.visitsAllowed State.MakesVisits
  cases s.rc.mode <;> simp [Mode.replaying]

/-- A lane that lets the front apply, as the machine tests it (R161). -/
theorem Lane.clearOfFront_iff (x : Lane) (seekTime : Nat) :
    x.clearOfFront seekTime = true ↔ x.LetsTheFrontApply seekTime := by
  unfold Lane.clearOfFront Lane.LetsTheFrontApply
  cases x.state <;> cases x.silent <;> simp

/-- With an empty front no event is the lowest. -/
theorem State.lowestSilent_of_empty {s : State} (h : ∀ l, (s.lane l).silent = none) : s.lowestSilent = none := by
  unfold State.lowestSilent
  generalize List.finRange 16 = ls
  induction ls with
  | nil => rfl
  | cons a ls ih =>
    rw [List.foldl_cons]
    unfold earlierSilent
    rw [h a]
    exact ih

/-- The search through a list of lanes in ascending order finds the lane of the lowest event, the lower lane between equal
times (R161). -/
theorem foldl_earlierSilent {s : State} {w : Fin 16} {e : SilentEvent} (hw : (s.lane w).silent = some e)
    (hmin : ∀ m g, (s.lane m).silent = some g → e.time ≤ g.time ∧ (m < w → e.time < g.time))
    (ls : List (Fin 16)) (b : Option (Fin 16)) (hs : ls.Pairwise (· < ·))
    (hb : ∀ x, b = some x → (∃ g, (s.lane x).silent = some g) ∧ ∀ m ∈ ls, x < m) (h : w ∈ ls ∨ b = some w) :
    ls.foldl (earlierSilent s) b = some w := by
  induction ls generalizing b with
  | nil => simpa using h
  | cons a ls ih =>
    rw [List.pairwise_cons] at hs
    rw [List.foldl_cons]
    cases ha : (s.lane a).silent with
    | none =>
      have e1 : earlierSilent s b a = b := by
        unfold earlierSilent
        rw [ha]
      rw [e1]
      refine ih b hs.2 (fun x hx => ⟨(hb x hx).1, fun m hm => (hb x hx).2 m (by simp [hm])⟩) ?_
      rcases h with h | h
      · rcases List.mem_cons.1 h with h | h
        · subst h
          rw [hw] at ha
          cases ha
        · exact .inl h
      · exact .inr h
    | some ea =>
      cases b with
      | none =>
        have e1 : earlierSilent s none a = some a := by
          unfold earlierSilent
          rw [ha]
        rw [e1]
        refine ih _ hs.2 (fun x hx => by cases hx; exact ⟨⟨ea, ha⟩, hs.1⟩) ?_
        rcases h with h | h
        · rcases List.mem_cons.1 h with h | h
          · subst h
            exact .inr rfl
          · exact .inl h
        · cases h
      | some x =>
        obtain ⟨⟨ex, hex⟩, hlt⟩ := hb x rfl
        have e1 : earlierSilent s (some x) a = if ea.time < ex.time then some a else some x := by
          unfold earlierSilent
          rw [ha]
          simp only
          rw [hex]
        rw [e1]
        refine ih _ hs.2 (fun y hy => ?_) ?_
        · split at hy <;> cases hy
          · exact ⟨⟨ea, ha⟩, hs.1⟩
          · exact ⟨⟨ex, hex⟩, fun m hm => hlt m (by simp [hm])⟩
        · rcases h with h | h
          · rcases List.mem_cons.1 h with h | h
            · subst h
              rw [hw] at ha
              cases ha
              rw [if_pos ((hmin x ex hex).2 (hlt w (by simp)))]
              exact .inr rfl
            · exact .inl h
          · cases h
            rw [hw] at hex
            cases hex
            rw [if_neg (by have := (hmin a ea ha).1; omega)]
            exact .inr rfl

/-- The front applies the lowest event next, and between equal times the one of the lower lane (R161). -/
theorem State.lowestSilent_eq {s : State} {w : Fin 16} {e : SilentEvent} (hw : (s.lane w).silent = some e)
    (hmin : ∀ m g, (s.lane m).silent = some g → e.time ≤ g.time ∧ (m < w → e.time < g.time)) :
    s.lowestSilent = some w :=
  foldl_earlierSilent hw hmin _ none (List.pairwise_lt_finRange 16) (by simp) (.inl (List.mem_finRange w))

/-- The application of a silent event changes the lanes and the device entries alone (R135). -/
theorem State.applySilent_eq {s : State} {w : Fin 16} {e : SilentEvent} (hw : (s.lane w).silent = some e) :
    s.applySilent w = { s with
      afu.lanes := (s.applySilent w).afu.lanes, dst := { s.dst with devices := e.appliedTo w s.dst.devices } } := by
  unfold State.applySilent
  rw [hw]
  simp only
  have e1 : s.dst.update e.device (fun d => d.applyEvent e.kind e.time (.lane w))
      = { s.dst with devices := e.appliedTo w s.dst.devices } := by
    unfold Dst.update SilentEvent.appliedTo
    congr 1
    apply List.map_congr_left
    intro d _
    by_cases h : d.number = e.device <;> simp [h, Device.applyEvent]
  rw [e1]
  rfl

/-- Where no lane is still read, the draining applies every event of the front, in ascending order of time and then of
lane, and leaves the front empty (R161). -/
theorem State.drainFront_all (events : List (Fin 16 × SilentEvent)) (n : Nat) (s : State) (hn : events.length ≤ n)
    (hev : ∀ k e, (k, e) ∈ events ↔ (s.lane k).silent = some e)
    (hp : events.Pairwise (fun a b => a.2.time < b.2.time ∨ a.2.time = b.2.time ∧ a.1 < b.1))
    (hst : ∀ m, (s.lane m).state ≠ .ready ∧ (s.lane m).state ≠ .waiting ∧ (s.lane m).state ≠ .trapped) :
    (∃ lanes, State.drainFront n s = { s with
      afu.lanes := lanes
      dst := { s.dst with devices := events.foldl (fun devices x => x.2.appliedTo x.1 devices) s.dst.devices } }) ∧
    ∀ k, (State.drainFront n s).lane k = { s.lane k with silent := none } := by
  induction events generalizing n s with
  | nil =>
    have hs : ∀ l, (s.lane l).silent = none := by
      intro l
      cases h : (s.lane l).silent with
      | none => rfl
      | some e => simpa using (hev l e).2 h
    have e1 : State.drainFront n s = s := by
      cases n with
      | zero => rfl
      | succ n =>
        rw [State.drainFront, State.lowestSilent_of_empty hs]
        simp
    rw [e1]
    exact ⟨⟨_, rfl⟩, fun k => by rw [← hs k]⟩
  | cons a events ih =>
    obtain ⟨w, e⟩ := a
    rw [List.pairwise_cons] at hp
    cases n with
    | zero => simp at hn
    | succ n =>
      have hw : (s.lane w).silent = some e := (hev w e).1 (by simp)
      have hready : s.frontReady = true := by
        unfold State.frontReady
        rw [State.allLanes_iff]
        intro m
        rw [Lane.clearOfFront_iff]
        have := hst m
        unfold Lane.LetsTheFrontApply
        cases hm : (s.lane m).state <;> simp_all
      have hlow : s.lowestSilent = some w := by
        refine State.lowestSilent_eq hw fun m g hg => ?_
        rcases List.mem_cons.1 ((hev m g).2 hg) with h | h
        · cases h
          exact ⟨le_refl _, fun h => absurd h (lt_irrefl _)⟩
        · rcases hp.1 _ h with h | ⟨h1, h2⟩
          · simp only at h
            omega
          · simp only at h1 h2
            exact ⟨by omega, fun hm => absurd hm (by omega)⟩
      have e1 : State.drainFront (n + 1) s = State.drainFront n (s.applySilent w) := by
        rw [State.drainFront, hready, hlow]
        simp
      obtain ⟨⟨lanes, h1⟩, h2⟩ := ih n (s.applySilent w) (by simpa using hn)
        (fun k g => by
          rw [State.lane_applySilent]
          split
          · subst k
            simp only [reduceCtorEq, iff_false]
            intro hg
            have h3 := (hev w g).1 (by simp [hg])
            rw [hw] at h3
            cases h3
            simpa using hp.1 _ hg
          · rename_i hk
            rw [← hev k g]
            simp only [List.mem_cons, Prod.mk.injEq, iff_or_self]
            exact fun h => absurd h.1 hk)
        hp.2
        (fun m => by
          rw [State.lane_applySilent]
          split <;> exact hst m)
      rw [e1]
      refine ⟨⟨lanes, ?_⟩, fun k => ?_⟩
      · rw [h1, State.applySilent_eq hw]
        rfl
      · rw [h2, State.lane_applySilent]
        split <;> rfl

/-- A seek that waits is left as it stands at the end of a command. -/
theorem State.settleSeek_of_waits {s : State} (h : s.rc.mode = .seeking → s.SeekWaits) : s.settleSeek = s := by
  by_cases hm : s.rc.mode = .seeking
  · rcases h hm with h | ⟨m, hr, hx⟩
    · rcases s.settleSeek_cases with h1 | ⟨-, h1, -⟩
      · exact h1
      · exact absurd h1 h
    · have hd : State.drainFront 16 s = s := by
        rw [State.drainFront]
        rcases hx with hx | ⟨h1, h2⟩
        · rw [State.lowestSilent_of_empty hx]
          simp
        · have h3 : s.frontReady = false := by
            rw [Bool.eq_false_iff]
            intro hc
            unfold State.frontReady at hc
            rw [State.allLanes_iff] at hc
            have := hc m
            unfold Lane.clearOfFront at this
            rcases hr with hr | hr <;> rw [hr] at this <;> simp [h1] at this <;> omega
          rw [h3]
          rfl
      have ha : s.anyReading = true := by
        unfold State.anyReading
        rw [State.anyLane_iff]
        exact ⟨m, by rcases hr with hr | hr <;> simp [hr]⟩
      unfold State.settleSeek State.finishReplay
      rw [hd, ha]
      simp
  · exact State.settleSeek_of_ne hm

end Sys2Proof.Machine
end

