-- ==== Sys2Proof/Laws/PerInstr.lean ====
section
/-! SUPPORT. A statement about every command, made command by command. -/

namespace Sys2Proof.Laws.WellFormedUnlessHeard

/-- A command is well formed whatever its operands, except one that carries a frame heard on the bus: that one is well
formed exactly when the frame is. -/
def Statement (c : Instr) : Prop :=
  (∃ h, (c = .frameAccepted h ∨ c = .frameVetoed h) ∧ c.wf = h.frame.wf) ∨
    (c.wf = true ∧ ∀ h, c ≠ .frameAccepted h ∧ c ≠ .frameVetoed h)

theorem powerOnReset : Statement .powerOnReset :=
  .inr ⟨rfl, fun _ => ⟨nofun, nofun⟩⟩

theorem pinReset : Statement .pinReset :=
  .inr ⟨rfl, fun _ => ⟨nofun, nofun⟩⟩

theorem resetEnd (straps : Straps) (edge : Bool) : Statement (.resetEnd straps edge) :=
  .inr ⟨rfl, fun _ => ⟨nofun, nofun⟩⟩

theorem loadSlotAnswer (words : List PortWord) : Statement (.loadSlotAnswer words) :=
  .inr ⟨rfl, fun _ => ⟨nofun, nofun⟩⟩

theorem archiveReadTimeout : Statement .archiveReadTimeout :=
  .inr ⟨rfl, fun _ => ⟨nofun, nofun⟩⟩

theorem laneVisitStart : Statement .laneVisitStart :=
  .inr ⟨rfl, fun _ => ⟨nofun, nofun⟩⟩

theorem laneSlotAnswer (words : List PortWord) : Statement (.laneSlotAnswer words) :=
  .inr ⟨rfl, fun _ => ⟨nofun, nofun⟩⟩

theorem checkpointSlotAnswer (words : List PortWord) : Statement (.checkpointSlotAnswer words) :=
  .inr ⟨rfl, fun _ => ⟨nofun, nofun⟩⟩

theorem joinOnClose : Statement .joinOnClose :=
  .inr ⟨rfl, fun _ => ⟨nofun, nofun⟩⟩

theorem joinIdleExpiry : Statement .joinIdleExpiry :=
  .inr ⟨rfl, fun _ => ⟨nofun, nofun⟩⟩

theorem openCondition (line : Level) : Statement (.openCondition line) :=
  .inr ⟨rfl, fun _ => ⟨nofun, nofun⟩⟩

theorem arbitrationComplete (others : Option ArbField) : Statement (.arbitrationComplete others) :=
  .inr ⟨rfl, fun _ => ⟨nofun, nofun⟩⟩

theorem stretchEnd (line : Level) : Statement (.stretchEnd line) :=
  .inr ⟨rfl, fun _ => ⟨nofun, nofun⟩⟩

theorem bitError : Statement .bitError :=
  .inr ⟨rfl, fun _ => ⟨nofun, nofun⟩⟩

theorem abortConditionHeard : Statement .abortConditionHeard :=
  .inr ⟨rfl, fun _ => ⟨nofun, nofun⟩⟩

theorem busAbandonTimeout : Statement .busAbandonTimeout :=
  .inr ⟨rfl, fun _ => ⟨nofun, nofun⟩⟩

theorem frameAccepted (heard : HeardFrame) : Statement (.frameAccepted heard) :=
  .inl ⟨heard, .inl rfl, rfl⟩

theorem frameVetoed (heard : HeardFrame) : Statement (.frameVetoed heard) :=
  .inl ⟨heard, .inr rfl, rfl⟩

theorem cutTaken : Statement .cutTaken :=
  .inr ⟨rfl, fun _ => ⟨nofun, nofun⟩⟩

theorem eventTaken : Statement .eventTaken :=
  .inr ⟨rfl, fun _ => ⟨nofun, nofun⟩⟩

theorem nextTaken : Statement .nextTaken :=
  .inr ⟨rfl, fun _ => ⟨nofun, nofun⟩⟩

theorem reportFrameTaken : Statement .reportFrameTaken :=
  .inr ⟨rfl, fun _ => ⟨nofun, nofun⟩⟩

theorem run : Statement .run :=
  .inr ⟨rfl, fun _ => ⟨nofun, nofun⟩⟩

theorem pause : Statement .pause :=
  .inr ⟨rfl, fun _ => ⟨nofun, nofun⟩⟩

theorem step : Statement .step :=
  .inr ⟨rfl, fun _ => ⟨nofun, nofun⟩⟩

theorem seek : Statement .seek :=
  .inr ⟨rfl, fun _ => ⟨nofun, nofun⟩⟩

theorem halt : Statement .halt :=
  .inr ⟨rfl, fun _ => ⟨nofun, nofun⟩⟩

theorem epoch : Statement .epoch :=
  .inr ⟨rfl, fun _ => ⟨nofun, nofun⟩⟩

theorem rate : Statement .rate :=
  .inr ⟨rfl, fun _ => ⟨nofun, nofun⟩⟩

theorem release : Statement .release :=
  .inr ⟨rfl, fun _ => ⟨nofun, nofun⟩⟩

theorem query : Statement .query :=
  .inr ⟨rfl, fun _ => ⟨nofun, nofun⟩⟩

theorem poll : Statement .poll :=
  .inr ⟨rfl, fun _ => ⟨nofun, nofun⟩⟩

theorem undefinedCommand : Statement .undefinedCommand :=
  .inr ⟨rfl, fun _ => ⟨nofun, nofun⟩⟩

theorem closePulseEnd : Statement .closePulseEnd :=
  .inr ⟨rfl, fun _ => ⟨nofun, nofun⟩⟩

theorem paceTimeMet : Statement .paceTimeMet :=
  .inr ⟨rfl, fun _ => ⟨nofun, nofun⟩⟩

theorem bhlRise : Statement .bhlRise :=
  .inr ⟨rfl, fun _ => ⟨nofun, nofun⟩⟩

theorem bhlDominantRead : Statement .bhlDominantRead :=
  .inr ⟨rfl, fun _ => ⟨nofun, nofun⟩⟩

theorem referenceLost : Statement .referenceLost :=
  .inr ⟨rfl, fun _ => ⟨nofun, nofun⟩⟩

theorem referenceRestored : Statement .referenceRestored :=
  .inr ⟨rfl, fun _ => ⟨nofun, nofun⟩⟩

theorem unacceptedFrameClose : Statement .unacceptedFrameClose :=
  .inr ⟨rfl, fun _ => ⟨nofun, nofun⟩⟩

theorem discardedAnswer : Statement .discardedAnswer :=
  .inr ⟨rfl, fun _ => ⟨nofun, nofun⟩⟩

end Sys2Proof.Laws.WellFormedUnlessHeard
end

