-- ==== Sys2Proof/Laws/Port.lean ====
section
/-! SUPPORT. The words of an archive answer (R171): the eight words of a slot spell it, a whole answer is handed on, and
a part of one is kept. -/

namespace Sys2Proof.Machine

/-- Bit i of a run of words, the first word most significant. -/
theorem getLsbD_foldl_words (ws : List (BitVec 32)) (acc : BitVec 256) (i : Nat) :
    (ws.foldl (fun (acc : Slot) w => acc <<< 32 ||| w.setWidth 256) acc).getLsbD i =
      (decide (i < 256) &&
        if i < 32 * ws.length then ((ws[ws.length - 1 - i / 32]?).getD 0#32).getLsbD (i % 32)
        else acc.getLsbD (i - 32 * ws.length)) := by
  induction ws generalizing acc with
  | nil => simp; intro h; exact BitVec.lt_of_getLsbD h
  | cons w ws ih =>
    rw [List.foldl_cons, ih]
    simp only [List.length_cons]
    by_cases hi : i < 256
    · simp only [hi, decide_true, Bool.true_and]
      by_cases h1 : i < 32 * ws.length
      · have : ws.length + 1 - 1 - i / 32 = (ws.length - 1 - i / 32) + 1 := by omega
        rw [if_pos h1, if_pos (by omega), this, List.getElem?_cons_succ]
      · rw [if_neg h1]
        by_cases h2 : i < 32 * (ws.length + 1)
        · have : ws.length + 1 - 1 - i / 32 = 0 := by omega
          rw [if_pos h2, this]
          have h3 : i - 32 * ws.length < 32 := by omega
          have h4 : i % 32 = i - 32 * ws.length := by omega
          simp [h3, h4]; omega
        · rw [if_neg h2]
          have h3 : ¬ (i - 32 * ws.length < 32) := by omega
          have h4 : i - 32 * ws.length - 32 = i - 32 * (ws.length + 1) := by omega
          have h5 : (w.getLsbD (i - 32 * ws.length)) = false := BitVec.getLsbD_of_ge _ _ (by omega)
          simp [h3, h4, h5]; omega
    · simp [hi]

/-- The eight words of a slot spell it. -/
theorem slotOfWords_words (d : Slot) :
    slotOfWords ((List.range 8).map fun i => d.extractLsb' (32 * (7 - i)) 32) = d := by
  apply BitVec.eq_of_getLsbD_eq
  intro i hi
  have h7 : 7 - i / 32 < 8 := by omega
  have e : 32 * (7 - (7 - i / 32)) + i % 32 = i := by omega
  have h32 : i % 32 < 32 := Nat.mod_lt _ (by decide)
  rw [slotOfWords, getLsbD_foldl_words]
  have hl : ((List.range 8).map fun i => d.extractLsb' (32 * (7 - i)) 32).length = 8 := by simp
  rw [hl, if_pos (by omega)]
  simp [hi, h7, e, h32]

/-- Words that complete a slot hand it on. -/
theorem State.Brings.takeWords_eq {s : State} {words : List PortWord} {d : Slot} (h : s.Brings words d)
    (handOn : Slot → State) : s.takeWords words handOn = handOn d := by
  have hl : ((s.wordsTaken words).take 8).length = 8 := by
    rw [State.wordsTaken, h]
    simp
  have : ¬(s.wordsTaken words).length < 8 := by
    rw [List.length_take] at hl
    omega
  rw [State.takeWords, if_neg this, State.wordsTaken, h, slotOfWords_words]

/-- Fewer than eight words are kept, and nothing else changes. -/
theorem State.takeWords_of_short {s : State} {words : List PortWord} (h : (s.wordsTaken words).length < 8)
    (handOn : Slot → State) : s.takeWords words handOn = { s with afu.words := s.wordsTaken words } := by
  rw [State.takeWords, if_pos h]

/-- Words of which none bears the current tag leave the words taken as they are. -/
theorem State.wordsTaken_of_stale {s : State} {words : List PortWord} (h : ∀ w ∈ words, w.echo ≠ s.afu.atag) :
    s.wordsTaken words = s.afu.words := by
  have : words.filter (fun w => w.echo == s.afu.atag) = [] := by
    simpa [List.filter_eq_nil_iff] using h
  simp [State.wordsTaken, this]

end Sys2Proof.Machine
end

