-- ==== Sys2Proof/Laws/Visit.lean ====
section
/-! SUPPORT. The end of a visit's slot, said once: from a state whose lane l has taken its slot, the visit goes on with
the next slot or ends (R24, R25, R26). -/

namespace Sys2Proof.Machine

/-- Lane l's slot has been taken from `s` and has left the lane as `x`; the visit has not yet gone on or ended. -/
structure State.SlotTaken (s u : State) (l : Fin 16) (x : Lane) : Prop where
  lane : u.lane l = x
  others : ∀ m, m ≠ l → u.lane m = s.lane m
  rotation : u.afu.rotation = s.afu.rotation
  request : u.afu.request = none
  atag : u.afu.atag = s.afu.atag
  aadr : u.afu.aadr = s.afu.aadr
  words : u.afu.words = []
  visitEnding : u.afu.visitEnding = s.afu.visitEnding
  visitCount : u.afu.visitCount = s.afu.visitCount + 1
  directory : u.afu.directory = s.afu.directory
  checkpoint : u.afu.checkpoint = s.afu.checkpoint
  rc : u.rc = s.rc
  pu : u.pu = s.pu
  cut : u.mq.cut = s.mq.cut

/-- The answer's command: once the words have brought the slot, it is taken, and the visit goes on or ends. -/
theorem State.AnswersLane.exec_eq {s : State} {l : Fin 16} (h : s.AnswersLane l) {words : List PortWord} {d : Slot}
    (hb : s.Brings words d) :
    exec (.laneSlotAnswer words) s = .next (((s.answerTaken l).takeSlot l d).continueVisit l).settle := by
  obtain ⟨hl, n, r, hr⟩ : s.inReset = false ∧ ∃ n r, s.afu.request = some { owner := .lane l, slot := n, retry := r } :=
    h.elim (fun h => ⟨h.live, h.request⟩) fun h => ⟨h.live, h.request⟩
  simp only [exec, execLaneSlotAnswer, State.whenLive_live hl, hr, hb.takeWords_eq]

@[simp] theorem State.lane_answerTaken (s : State) (l : Fin 16) :
    (s.answerTaken l).lane l = { s.lane l with state := .ready } :=
  State.lane_setLane_same s l _

/-- A slot whose taking only sets its lane has been taken. -/
theorem State.slotTaken_setLane {s : State} {l : Fin 16} (x : Lane) :
    s.SlotTaken ((s.answerTaken l).setLane l x) l x := by
  constructor
  · exact State.lane_setLane_same _ _ _
  · intro m hm
    rw [State.lane_setLane_other _ hm]
    exact State.lane_setLane_other s hm _
  all_goals rfl

/-- After a slot has been taken, the visit's end changes no lane but the lane of the visit. -/
theorem State.lane_continueVisit_other (u : State) {l m : Fin 16} (h : m ≠ l) :
    (u.continueVisit l).lane m = u.lane m := by
  unfold State.continueVisit
  split
  · rw [State.readLane, State.lane_issueRead]
    exact State.lane_setLane_other _ h _
  · rfl

/-- A silent replay that goes on before a slot goes on after it. -/
theorem State.SlotTaken.seekGoesOn {s u : State} {l : Fin 16} {x : Lane} (h : s.SlotTaken u l x)
    (hs : s.SeekGoesOn l) : (u.continueVisit l).SeekGoesOn l := by
  obtain ⟨m, hm, h1, h2, h3⟩ := hs.other
  have e : (u.continueVisit l).lane m = s.lane m := by
    rw [State.lane_continueVisit_other u hm, h.others m hm]
  have hr : (u.continueVisit l).rc = s.rc := by
    rw [← h.rc]
    unfold State.continueVisit
    split <;> simp
  have hc : (u.continueVisit l).afu.checkpoint = s.afu.checkpoint := by
    rw [← h.checkpoint]
    unfold State.continueVisit
    split <;> simp
  exact ⟨by rw [hr, hs.mode], by rw [hc, hs.checkpoint], m, hm, by rw [e, h1], by rw [e, h2], by rw [e, hr]; exact h3⟩

/-- After a lane's slot has been taken, the command's end changes the cut record and the drive alone. -/
theorem State.SlotTaken.settle_eq {s u : State} {l : Fin 16} {x : Lane} (ha : s.AnswersLane l)
    (h : s.SlotTaken u l x) :
    (u.continueVisit l).settle =
      { u.continueVisit l with
        mq.cut := (u.continueVisit l).settleCut.mq.cut, pu.drive := (u.continueVisit l).settle.pu.drive } := by
  rcases ha with ha | ha
  · refine State.settle_of_ne ?_
    have : (u.continueVisit l).rc = u.rc := by
      unfold State.continueVisit
      split <;> simp
    rw [this, h.rc]
    exact ha.mode
  · have hg := h.seekGoesOn ha.seek
    rw [hg.settle_eq, hg.settleCut_eq]
    rfl

/-- After a slot has been taken, the visit reads on or ends as `State.TakesSlot` says. -/
theorem State.SlotTaken.takes {s u : State} {l : Fin 16} {x : Lane} (ha : s.AnswersLane l) (h : s.SlotTaken u l x)
    (hx : x.silent = none) (hw : x.fetchWidth = (s.lane l).fetchWidth) :
    s.TakesSlot (u.continueVisit l).settle l x := by
  have hcond : u.mayContinue l = true ↔ x.state = .ready ∧ s.MayReadOn l := by
    unfold State.mayContinue
    rw [h.lane, h.visitCount, hx, hw, h.visitEnding]
    unfold State.visitsAllowed State.MayReadOn State.MakesVisits
    rw [h.rc, h.pu, h.cut, h.checkpoint]
    cases hmm : s.rc.mode <;> simp_all [Mode.replaying] <;> tauto
  have hl : ∀ m, (u.continueVisit l).settle.lane m = (u.continueVisit l).lane m := by
    intro m
    rw [h.settle_eq ha]
    rfl
  by_cases hc : x.state = .ready ∧ s.MayReadOn l
  · have e : u.continueVisit l = u.readLane l := by
      unfold State.continueVisit
      rw [if_pos (hcond.2 hc)]
    have hlm : ∀ m, (u.readLane l).lane m = if m = l then { u.lane l with state := .waiting } else u.lane m := by
      intro m
      unfold State.readLane
      rw [State.lane_issueRead]
      exact State.lane_setLane _ _ _ _
    refine ⟨fun _ _ => ⟨?_, ?_, ?_, ?_, ?_⟩, fun hn => absurd hc hn, ?_, ?_, ?_, ?_, ?_⟩
    · rw [hl, e, hlm, if_pos rfl, h.lane]
    · simp [e, h.rotation]
    · rw [State.settle_afu_request, e]
      simp [State.readLane, State.issueRead, Lane.archiveSlot, h.lane]
    · rw [State.settle_afu_atag, e]
      simp [State.readLane, State.issueRead, h.atag]
    · rw [State.settle_afu_aadr, e]
      simp [State.readLane, State.issueRead, Lane.archiveSlot, h.lane]
    · intro m hm'
      rw [hl, e, hlm, if_neg hm', h.others m hm']
    · simp [e, h.visitCount]
    · simp [e, h.directory, h.checkpoint]
    · simp [e, State.readLane]
    · simp [e, State.readLane, h.visitEnding, hc.2.2.2]
  · have e : u.continueVisit l = u.endVisit l := by
      unfold State.continueVisit
      rw [if_neg fun h => hc (hcond.1 h)]
    refine ⟨fun h1 h2 => absurd ⟨h1, h2⟩ hc, fun _ => ⟨?_, ?_, ?_, ?_, ?_⟩, ?_, ?_, ?_, ?_, ?_⟩
    · rw [hl, e, State.lane_endVisit, h.lane]
    · simp [e]
    · simp [e, h.request]
    · simp [e, h.atag]
    · simp [e, h.aadr]
    · intro m hm'
      rw [hl, e, State.lane_endVisit, h.others m hm']
    · simp [e, h.visitCount]
    · simp [e, h.directory, h.checkpoint]
    · simp [e, h.words]
    · simp [e]

/-- A slot whose taking sets its lane and the merge queue's entries has been taken. -/
theorem State.slotTaken_insert {s : State} {l : Fin 16} (x : Lane) (q : List Entry) :
    s.SlotTaken { (s.answerTaken l).setLane l x with mq.entries := q } l x :=
  { State.slotTaken_setLane (s := s) (l := l) x with
    lane := State.lane_setLane_same _ _ _
    others := fun _ hm => (State.lane_setLane_other _ hm _).trans (State.lane_setLane_other s hm _) }

/-- A slot that also raises findings has been taken. -/
theorem State.SlotTaken.withCku {s u : State} {l : Fin 16} {x : Lane} (h : s.SlotTaken u l x) (k : Cku) :
    s.SlotTaken { u with cku := k } l x :=
  { h with }

/-- After a slot has been taken, the command's end changes the lanes, the port, the queues and the drive alone. -/
theorem State.SlotTaken.onlyLanes {s u : State} {l : Fin 16} {x : Lane} (ha : s.AnswersLane l)
    (h : s.SlotTaken u l x)
    (hu : u = { s with afu := u.afu, mq := u.mq, cku := u.cku }) :
    s.OnlyLanesAndQueues (u.continueVisit l).settle := by
  have e : (u.continueVisit l).inReset = s.inReset ∧ (u.continueVisit l).straps = s.straps ∧
      (u.continueVisit l).ccu = s.ccu ∧ (u.continueVisit l).biu = s.biu ∧ (u.continueVisit l).pu = s.pu ∧
      (u.continueVisit l).dst = s.dst ∧ (u.continueVisit l).rc = s.rc ∧ (u.continueVisit l).pending = s.pending := by
    rw [hu]
    unfold State.continueVisit
    split <;> simp
  rw [h.settle_eq ha]
  constructor <;> simp [e]

/-- The going on or ending of a visit leaves the merge queue's entries and the findings as the slot left them. -/
theorem State.settle_continueVisit (u : State) (l : Fin 16) :
    (u.continueVisit l).settle.mq.entries = u.mq.entries ∧ (u.continueVisit l).settle.cku = u.cku := by
  unfold State.continueVisit
  split <;> simp

end Sys2Proof.Machine
end

