-- ==== Sys2Proof/Tests/Slice0.lean ====
section
/-! SUPPORT. Tests on fixed values, each expected value taken from the manual's worked figures or computed by hand from
its rules, and one witness for every statement with hypotheses: concrete states and operands that meet them. -/

namespace Sys2Proof.Tests
open Sys2Proof Sys2Proof.Machine

/-! Well-formed frames: one ill-formed term for each check. -/

/-- A frame of a body, from station 9. -/
def frame (key : BitVec 40) (body : Body) : Frame :=
  { key := key, station := 9, body := body }

/-- A COMMAND body that names ALL. -/
def commandBody (numeric : BitVec 40) : CommandBody :=
  { station := 63, lane := 0, action := 0, numeric := numeric }

/-- A COMMAND frame of a code. -/
def command (code : BitVec 8) (numeric : BitVec 40) : Frame :=
  frame (code ++ 0#32) (.command (commandBody numeric))

/-- An OPENED of device 3301 (section 7.7). -/
def eventBody : EventBody :=
  { lane := 1, laneSeq := 0, recorder := 0, device := 3301, kind := 6, rawStamp := 0, tickCode := 0, quality := 2,
    held := false, gapBefore := false, lostCount := 0, duplicate := false, released := false, anomalies := 0 }

/-- A finding without a device. -/
def findingBody : FindingBody :=
  { lane := 0, group := 1, anomalies := 0x800, disposition := 1, devicePresent := false, device := 0, slot := 5 }

/-- A device without a travel, a change or an event. -/
def stateBody : StateBody :=
  { role := 0, cls := 2, maxTravel := 0, position := 3, lockout := false, pickup := false, travelPresent := false,
    travelStart := 0, lastChangePresent := false, lastChange := 0, lastEventPresent := false, lastEventKind := 0,
    lastEventTime := 0, sourceForm := 0, sourceNumber := 0, operations := 0, corroborations := 0 }

/-- A report in STANDBY. -/
def statusBody : StatusBody :=
  { mode := 2, startCause := 0, faultCause := 10, timebase := 0, windowStart := 0, lanesTrapped := 0, lanesEnded := 0,
    lanesLost := 0, lostFindings := 0, seekDegraded := false, configWarning := false }

theorem test_wf_accepts_every_class :
    (command 4 0).wf ∧ (frame 7 .cut).wf ∧ (frame 7 (.event eventBody)).wf ∧ (frame 7 .next).wf ∧
      (frame 7 (.finding findingBody)).wf ∧ (frame 3301 (.state stateBody)).wf ∧ (frame 0 (.status statusBody)).wf := by
  decide

theorem test_wf_refuses_key_below_command_code :
    Instr.wf (.frameAccepted ⟨frame 0x0400000001 (.command (commandBody 0)), 0⟩) = false := by decide

theorem test_wf_refuses_event_kind_0_and_11 :
    (frame 7 (.event { eventBody with kind := 0 })).wf = false ∧
      (frame 7 (.event { eventBody with kind := 11 })).wf = false := by decide

theorem test_wf_refuses_quality_3 : (frame 7 (.event { eventBody with quality := 3 })).wf = false := by decide

theorem test_wf_refuses_lost_count_without_gap :
    (frame 7 (.event { eventBody with lostCount := 1 })).wf = false := by decide

theorem test_wf_refuses_finding_group_5 : (frame 7 (.finding { findingBody with group := 5 })).wf = false := by decide

theorem test_wf_refuses_disposition_5 :
    (frame 7 (.finding { findingBody with disposition := 5 })).wf = false := by decide

theorem test_wf_refuses_absent_device_with_number :
    (frame 7 (.finding { findingBody with device := 1 })).wf = false := by decide

theorem test_wf_refuses_state_class_3 : (frame 3301 (.state { stateBody with cls := 3 })).wf = false := by decide

theorem test_wf_refuses_absent_times_with_value :
    (frame 3301 (.state { stateBody with travelStart := 1 })).wf = false ∧
      (frame 3301 (.state { stateBody with lastChange := 1 })).wf = false ∧
      (frame 3301 (.state { stateBody with sourceNumber := 1 })).wf = false := by decide

theorem test_wf_refuses_state_key_above_device_number : (frame 0x10000 (.state stateBody)).wf = false := by decide

theorem test_wf_refuses_status_key : (frame 1 (.status statusBody)).wf = false := by decide

theorem test_wf_refuses_fault_cause_11 :
    (frame 0 (.status { statusBody with faultCause := 11 })).wf = false := by decide

theorem test_wf_refuses_class_7 : Instr.wf (.frameVetoed ⟨frame 0 .invalid, 0⟩) = false := by decide

/-! Check octets, computed by hand from R170. -/

/-- SEEK to 3,612,344,000 from console 30. -/
def seekFrame : Frame :=
  { key := 0x0400000000, station := 30, body := .command (commandBody 3612344000) }

theorem test_octet_of_seek : seekFrame.checkOctet = 0x43#8 := by decide +kernel

theorem test_octet_of_next_none : (frame (BitVec.allOnes 40) .next).checkOctet = 0x17#8 := by decide +kernel

/-! Slots written out byte by byte from Table 11-1. -/

/-- EVENT: OPENED of device 5120, raw stamp 3,612,345,678, sequence 81,226. -/
def eventSlot : Slot := 0x010614000000D750054E00013D4A0000000000000000000000000000000000A9#256

/-- SYNC_MARK: raw stamp 3,660,000,000, reference 3,659,999,152, sequence 81,227. -/
def markSlot : Slot := 0x020000000000DA272B0000013D4B00DA2727B0000000000000000000000000C9#256

/-- GAP: 65,535 lost, sequence 9. -/
def gapSlot : Slot := 0x0300FFFF0000000000000000000900000000000000000000000000000000000A#256

/-- Type 0x04, which no record has. -/
def strangeSlot : Slot := 0x0400000000000000000000000000000000000000000000000000000000000004#256

/-- The EVENT with its last byte off by one. -/
def damagedSlot : Slot := 0x010614000000D750054E00013D4A0000000000000000000000000000000000A8#256

theorem test_event_slot_is_read : classify eventSlot = .event 5120 .opened 3612345678 81226 := by decide

theorem test_mark_slot_is_read : classify markSlot = .mark 3660000000 3659999152 81227 := by decide

theorem test_gap_slot_is_read : classify gapSlot = .gap 65535 9 := by decide

theorem test_damage_comes_before_undecodable : classify damagedSlot = .damaged := by decide

theorem test_undecodable_slots :
    classify strangeSlot = .undecodable ∧
      -- event kind 11, device 0, mark without a time, gap of 0
      classify 0x010B14000000000000000000000000000000000000000000000000000000001E#256 = .undecodable ∧
      classify 0x0101000000000000000000000000000000000000000000000000000000000000#256 = .undecodable ∧
      classify 0x0200000000000000000000000000FFFFFFFFFF000000000000000000000000FD#256 = .undecodable ∧
      classify 0x0300000000000000000000000000000000000000000000000000000000000003#256 = .undecodable := by decide

theorem test_erased_slot_is_read : classify (BitVec.allOnes 256) = .erased := by decide

/-! The engine of the tests. -/

/-- The eight words of a slot on the port, under a tag: bytes 0 to 3 first, most significant byte first (R171). -/
def wordsOf (tag : Bool) (d : Slot) : List PortWord :=
  (List.range 8).map fun i => { echo := tag, data := d.extractLsb' (32 * (7 - i)) 32 }

/-- With no word taken yet, the eight words of a slot bring it. -/
theorem brings {s : State} (hw : s.afu.words = []) (ht : s.afu.atag = false) (d : Slot) :
    s.Brings (wordsOf false d) d := by
  rw [State.Brings, hw, ht]; rfl

/-- The clock model of section 3.5.1, before its event. -/
def clock : ClockModel :=
  { tick := .us1, lambda := 350, nominalOffset := 0, nominalDrift := 12000, offset := -1250, drift := 40000,
    referenceRaw := 3600000000, markCount := 2, lastRaw := 3612345600, lastCorrected := 3612344494,
    lastMarkOffset := -1250, lastMarkRaw := 3600000000 }

/-- A lane with one slot read, of four, and PASS for every group. -/
def lane : Lane :=
  { state := .ready, base := 200000, slotCount := 4, fetchWidth := 4, recorder := 77, readPos := 1,
    lastSeq := some 81225, gap := none, insertions := 5, held := none, clock := clock,
    mask := { group1 := .pass, group2 := .pass, group3 := .pass, group4 := .pass }, trap := none, silent := none }

/-- The lane with HOLD for every group. -/
def holding : Lane :=
  { lane with mask := { group1 := .hold, group2 := .hold, group3 := .hold, group4 := .hold } }

/-- An OWNED BREAKER, number 5120, CLOSED (section 7.7's device 3301 but for its number). -/
def device : Device :=
  { number := 5120, role := .owned, cls := .breaker, maxTravel := 80, position := .closed, lockout := false,
    pickup := true, travelStart := none, lastChange := some 8999000000,
    lastEvent := some { kind := .closed, time := 8999000000, source := .lane 1 }, operations := 41,
    corroborations := 0 }

/-- Engine 7, RUNNING in GATHER in the window of section 3.5.1, with a lane 0, one device, and the port idle. -/
def engine (x : Lane) : State :=
  { State.reset with
    inReset := false, straps := { station := 7, busRate := 0, archiveSize := 1 }
    afu.lanes := State.reset.afu.lanes.set 0 x
    afu.directory := [⟨3612000000, 1000⟩, ⟨3612340000, 2000⟩, ⟨3612400000, 3000⟩]
    ccu := { driftShift := 2, stepLimit := 1000000 }
    biu.state := .idle
    pu.windowStart := 3612344000, pu.windowEnd := 3612345000, pu.drive := .dominant
    dst.devices := [device]
    cku.tolerance := 2000
    rc.mode := .running }

/-- The engine with lane 0's read outstanding. -/
def reading (x : Lane) (retry : Bool) : State :=
  { engine { x with state := .waiting } with
    afu.request := some { owner := .lane 0, slot := 200001, retry := retry }, afu.visitCount := 1 }

/-- The state a command answers. -/
def after (c : Instr) (s : State) : State :=
  match exec c s with
  | .next t => t
  | .fault _ | .refused _ => s

/-! Worked figures: clock correction (section 3.5). -/

/-- The event of section 3.5.1. -/
theorem test_event_figures :
    clock.driftTerm 3612345678 = 494 ∧ clock.unheld 3612345678 = 3612344572 ∧
      clock.clamped 3612345678 = false := by decide

/-- The mark of section 3.5.1: no step, D 31,675, O −848. -/
theorem test_mark_figures :
    clock.markAnomalies 1000000 3660000000 3659999152 = {} ∧
      (clock.applyMark 2 3660000000 3659999152).drift = 31675 ∧
      (clock.applyMark 2 3660000000 3659999152).offset = -848 := by decide

/-- The model of section 3.5.2. -/
def millisecondClock : ClockModel :=
  { clock with
    tick := .us1000, lambda := 4000, offset := -3400, drift := -120000, lastRaw := 3612300000,
    lastCorrected := 3612291260, lastMarkOffset := -3400 }

/-- Halves away from zero in the measurement, toward zero in the filter (section 3.5.2). -/
theorem test_millisecond_figures :
    millisecondClock.rawTime 3612349 = 3612349000 ∧ millisecondClock.unheld 3612349000 = 3612340118 ∧
      millisecondClock.measuredDrift 3612800000 3612793100 = -273438 ∧
      (millisecondClock.applyMark 2 3612800000 3612793100).drift = -158359 := by decide

/-- The step of section 3.5.3: the residual 1,999,999 lies outside the limit of 1,000,000. -/
theorem test_step_figures :
    let c := { clock with offset := -848, drift := 31675, referenceRaw := 3660000000 }
    c.driftTerm 3720000000 = 1901 ∧ c.residual 3720000000 3722001052 = 1999999 ∧
      (c.markAnomalies 1000000 3720000000 3722001052).clockStep = true ∧
      (c.applyStep 3720000000 3722001052).markCount = 1 := by decide

/-! Worked figures: the start-up load (section 1.2.8). -/

/-- A header slot: format, lane count, device count, k, directory count. -/
def headerSlot (format lanes devices k directory : Nat) : Slot :=
  BitVec.ofNat 256 (format * 2 ^ 224 + lanes * 2 ^ 216 + devices * 2 ^ 200 + k * 2 ^ 168 + directory * 2 ^ 96)

/-- A lane entry slot: base, slot count, tick code, nominal drift, fetch width. -/
def laneSlot (base count tick drift width : Nat) : Slot :=
  BitVec.ofNat 256
    (base * 2 ^ 192 + count * 2 ^ 160 + tick * 2 ^ 152 + drift * 2 ^ 64 + width * 2 ^ 56)

theorem test_header_k_5_is_taken_as_4 :
    (headerOf (headerSlot 0x640 3 6 5 3)).driftShift = 4 ∧ (headerOf (headerSlot 0x640 3 6 5 3)).deviceCount = 6 ∧
      (headerOf (headerSlot 0x640 3 6 5 3)).directoryCount = 3 := by decide

theorem test_lane_1_is_adjusted :
    (laneConfigOf (laneSlot 200000 50000 3 620000 12) .us1000).nominalDrift = 500000 ∧
      (laneConfigOf (laneSlot 200000 50000 3 620000 12) .us1000).fetchWidth = 8 ∧
      laneAdjusted (laneSlot 200000 50000 3 620000 12) = true := by decide

theorem test_touching_and_empty_regions_do_not_overlap :
    anyOverlap
      [laneConfigOf (laneSlot 0 200000 0 12000 4) .us1, laneConfigOf (laneSlot 200000 50000 3 620000 12) .us1000,
        laneConfigOf (laneSlot 250000 0 1 0 0) .us10] = false := by decide

/-- A device slot of four entries: numbers, with role and class codes. -/
def deviceSlot (entries : List (Nat × Nat × Nat)) : Slot :=
  BitVec.ofNat 256 (entries.foldl (fun acc e => acc * 2 ^ 64 + (e.1 * 2 ^ 48 + e.2.1 * 2 ^ 40 + e.2.2 * 2 ^ 32)) 0)

/-- Positions 3 and 5 of the device list are ignored. -/
theorem test_device_list_is_read :
    let first := acceptDevices (deviceSlot [(5120, 0, 0), (4711, 1, 0), (0, 0, 2), (5130, 0, 1)]) 4 0 []
    let second := acceptDevices (deviceSlot [(5120, 1, 2), (5131, 0, 1), (0, 0, 0), (0, 0, 0)]) 2 0 first.1
    second.1.map (fun d => d.number) = [5120, 4711, 5130, 5131] ∧ first.2 = true ∧ second.2 = true := by decide

/-! Commands. -/

theorem test_power_on_reset : (after .powerOnReset (engine lane)).rc.mode = .loading := by decide

theorem test_pin_reset_cause : (after .pinReset (engine lane)).rc.startCause = .pin := by decide

/-- The first station-block slot of a 1 GiB archive (section 1.2.8). -/
theorem test_reset_end_reads_the_header :
    (after (.resetEnd { station := 7, busRate := 0, archiveSize := 1 } true) State.reset).afu.request =
      some { owner := .load, slot := 33552384, retry := false } := by decide

/-- A load in progress, with a header and the directory entries read. -/
def progress (stage : LoadStage) (header : Header) (directory : List DirEntry) : LoadProgress :=
  { stage := stage, header := header, lanes := [], devices := [], ranges := [], directory := directory }

/-- The engine with its load in progress, a read for it outstanding. -/
def loadingAt (p : LoadProgress) : State :=
  { engine Lane.disabled with
    afu.lanes := State.reset.afu.lanes, afu.directory := []
    afu.request := some { owner := .load, slot := 33552384, retry := true }
    dst := State.reset.dst, pu.drive := .released
    rc := { State.reset.rc with load := some p } }

/-- The load of the engine, at a stage, with a header. -/
def loading (stage : LoadStage) (header : Header) (directory : List DirEntry) : State :=
  loadingAt (progress stage header directory)

/-- The state after the load's read is answered with a slot. -/
def afterLoadSlot (d : Slot) (s : State) : State :=
  after (.loadSlotAnswer (wordsOf false d)) s

/-- The state after the lane's read is answered with a slot. -/
def afterLaneSlot (d : Slot) (s : State) : State :=
  after (.laneSlotAnswer (wordsOf false d)) s

/-- The state after the checkpoint load's read is answered with a slot. -/
def afterCheckpointSlot (d : Slot) (s : State) : State :=
  after (.checkpointSlotAnswer (wordsOf false d)) s

/-- The header of section 1.2.8. -/
def header : Header :=
  headerOf (headerSlot 0x640 3 6 5 3)

theorem test_load_reads_the_next_lane_entry :
    (afterLoadSlot (laneSlot 0 200000 0 12000 4) (loading (.lane 0) header [])).afu.request =
      some { owner := .load, slot := 33552386, retry := false } := by decide

theorem test_load_ends_in_standby :
    (afterLoadSlot (headerSlot 0x640 17 6 5 3) (loading .header header [])).rc.faultCause = .badLaneCount ∧
      (afterLoadSlot 0 (loading (.directory 1) header [])).rc.mode = .standby := by decide

theorem test_timeout_retries_then_loses_the_lane :
    (after .archiveReadTimeout (reading lane false)).afu.request =
        some { owner := .lane 0, slot := 200001, retry := true } ∧
      ((after .archiveReadTimeout (reading lane true)).lane 0).state = .lost := by decide

theorem test_visit_reads_base_plus_position :
    (after .laneVisitStart (engine lane)).afu.request = some { owner := .lane 0, slot := 200001, retry := false } := by
  decide

/-- The event of section 3.5.1 goes in, and its lane stays within the window. -/
theorem test_lane_answer_inserts :
    (afterLaneSlot eventSlot (reading lane true)).mq.entries.map (fun e => e.time) = [3612344572] ∧
      ((afterLaneSlot eventSlot (reading lane true)).lane 0).clock.lastCorrected = 3612344572 := by decide

/-- A visit whose condition has ceased since its read was issued reads no more (R24). -/
theorem test_ceased_visit_reads_no_more :
    (afterLaneSlot eventSlot { reading lane true with afu.visitEnding := true }).afu.request = none ∧
      (afterLaneSlot eventSlot (reading lane true)).afu.request =
        some { owner := .lane 0, slot := 200002, retry := false } := by decide

/-- A regression under HOLD leaves the position at the slot (section 8.9). -/
theorem test_lane_answer_traps_regression :
    let t := afterLaneSlot eventSlot
      (reading { holding with clock := { clock with lastRaw := 3612345679 } } true)
    (t.lane 0).trap = some (.fetch 2) ∧ (t.lane 0).readPos = 1 ∧
      t.cku.findings.map (fun f => f.disposition) = [.heldForRelease] := by decide

/-- Words of another tag are ignored, five words are kept, and the eighth one completes the slot (R171). -/
theorem test_words_are_taken_under_the_tag :
    let first := (wordsOf true 0).take 4 ++ (wordsOf false eventSlot).take 5
    let s := after (.laneSlotAnswer first) (reading lane true)
    s.afu.words = [0x01061400, 0x0000D750, 0x054E0001, 0x3D4A0000, 0] ∧ (s.lane 0).state = .waiting ∧
      (after (.laneSlotAnswer ((wordsOf false eventSlot).drop 5)) s).mq.entries.map (fun e => e.time) =
        [3612344572] := by decide

/-- The engine in SEEKING, a checkpoint load in progress. -/
def checking (c : CheckpointLoad) : State :=
  { engine lane with
    afu.request := some { owner := .checkpoint, slot := 2000, retry := false }, afu.checkpoint := some c
    rc := { State.reset.rc with mode := .seeking, seekTime := 3612344000 } }

/-- The engine in SEEKING, a checkpoint slot being read. -/
def loadingCheckpoint (taken : Nat) : State :=
  checking
    { entry := ⟨3612340000, 2000⟩, taken := taken, laneCount := 0, deviceCount := 0, firstSlot := none, lanes := [],
      devices := [] }

/-- A checkpoint header slot: study time, lane count, device count, and the byte that makes the XOR 0. -/
def checkpointHeader (time lanes devices xor : Nat) : Slot :=
  BitVec.ofNat 256 (time * 2 ^ 216 + lanes * 2 ^ 208 + devices * 2 ^ 192 + xor)

/-- The checkpoint of section 1.4.4 occupies ten slots. -/
theorem test_checkpoint_header :
    ((afterCheckpointSlot (checkpointHeader 3612340000 3 3 0x57) (loadingCheckpoint 0)).afu.checkpoint.map
      CheckpointLoad.slots) = some 10 := by decide +kernel

theorem test_checkpoint_damage_degrades_the_seek :
    (afterCheckpointSlot (checkpointHeader 3612340000 3 3 0x56) (loadingCheckpoint 0)).rc.seekDegraded =
      true := by decide +kernel

theorem test_join_ends :
    (after .joinOnClose { engine lane with biu.state := .joining }).biu.state = .idle ∧
      (after .joinIdleExpiry { engine lane with biu.state := .joining }).biu.state = .idle := by decide

/-- An entry of device 5120 from lane 0. -/
def entry (time laneSeq : Nat) : Entry :=
  { time := time, lane := 0, laneSeq := laneSeq, recorder := 77, slot := 0, device := 5120, kind := .opened,
    rawStamp := 0, tick := .us1, quality := .tracking, held := false, gapBefore := none, released := false }

/-- The engine in EMIT, its line released, with entries in its queue and lane 0 PASSED. -/
def emitting (x : Lane) (entries : List Entry) : State :=
  { engine { x with state := .passed } with
    mq.entries := entries, pu.phase := .emit, pu.drive := .released }

/-- Engine 13 of section 5.10 offers the NEXT of its head, and engine 1 its EVENT. -/
theorem test_open_condition_offers :
    (after (.openCondition .recessive) (emitting lane [entry 3612345400 0])).biu.outbound.map
        (fun o => (o.frame.body.classCode, o.frame.key)) = some (3, 3612345400) ∧
      (after (.openCondition .recessive) (emitting lane [entry 3612344250 0])).biu.outbound.map
        (fun o => (o.frame.body.classCode, o.frame.key)) = some (2, 3612344250) := by decide

theorem test_open_condition_suspends :
    (after (.openCondition .dominant) (emitting lane [entry 3612344250 0])).pu.phase = .suspended := by decide

/-- The engine with its EVENT in contention, stretching or being sent. -/
def offering (x : Lane) (bus : BusState) : State :=
  { emitting x [entry 3612344250 0] with
    biu.state := bus
    biu.outbound := some { frame := (entry 3612344250 0).frame 7 false {}, entry := some (entry 3612344250 0).key } }

/-- Equal keys: the lower station wins (section 5.10). -/
theorem test_arbitration :
    (after (.arbitrationComplete (some ⟨2, 3612344250, 1⟩)) (offering lane .contending)).biu.state = .receiving ∧
      (after (.arbitrationComplete (some ⟨2, 3612344250, 8⟩)) (offering lane .contending)).biu.state = .stretching := by
  decide

/-- The OPENED of a device already OPEN is REDUNDANT, which HOLD traps; the lane's state before the trap is noted. -/
theorem test_stretch_end_traps :
    let s := { offering holding .stretching with dst.devices := [{ device with position := .opened }] }
    ((after (.stretchEnd .recessive) s).lane 0).trap = some (.winning (entry 3612344250 0).key .passed) ∧
      (after (.stretchEnd .recessive) s).pu.drive = .dominant := by decide

theorem test_stretch_end_sends :
    (after (.stretchEnd .recessive) (offering lane .stretching)).biu.state = .sending ∧
      (after (.stretchEnd .dominant) (offering lane .stretching)).biu.state = .idle := by decide

theorem test_sixteenth_failure_withdraws :
    (after .bitError { offering lane .sending with biu.failureCount := 15 }).rc.mode = .withdrawn ∧
      (after .abortConditionHeard { offering lane .sending with biu.failureCount := 14 }).biu.failureCount = 15 ∧
      (after .busAbandonTimeout { offering lane .contending with biu.failureCount := 3 }).biu.failureCount = 4 := by
  decide

/-- The engine receiving, in a mode. -/
def receiving (mode : Mode) : State :=
  { engine lane with biu.state := .receiving, rc := { State.reset.rc with mode := mode } }

theorem test_accepted_frame_is_queued_if_intact :
    (after (.frameAccepted ⟨seekFrame, 0x43⟩) (receiving .standby)).biu.inbound = [seekFrame] ∧
      (after (.frameAccepted ⟨seekFrame, 0x42⟩) (receiving .standby)).biu.inbound = [] := by decide +kernel

theorem test_eighth_veto_withdraws :
    (after (.frameVetoed ⟨seekFrame, 0x42⟩) { receiving .running with biu.vetoCount := 7 }).rc.mode = .withdrawn ∧
      (after (.frameVetoed ⟨seekFrame, 0x43⟩) { receiving .running with biu.vetoCount := 7 }).biu.vetoCount = 0 := by
  decide +kernel

theorem test_unaccepted_close_ends_the_frame :
    (after .unacceptedFrameClose (receiving .running)).biu.state = .idle ∧
      (after .discardedAnswer (receiving .running)).biu.state = .receiving := by decide

/-- The engine with a frame at the front of its inbound queue. -/
def taking (s : State) (f : Frame) : State :=
  { s with biu.inbound := [f] }

/-- A CUT inside the window: the lane at its time passes (section 4.7.1). -/
theorem test_cut_taken :
    let t := after .cutTaken (taking (engine { lane with state := .stalled }) (frame 3612344494 .cut))
    t.pu.windowEnd = 3612344494 ∧ (t.lane 0).state = .passed := by decide +kernel

/-- OPENED from TRAVEL raises the count from 41 to 42; its duplicate raises the corroborations (section 7.7). -/
theorem test_event_taken :
    let s := { emitting lane [] with dst.devices := [{ device with position := .travel, travelStart := some 9000000165 }] }
    let b := { eventBody with device := 5120 }
    (after .eventTaken (taking s (frame 9000000212 (.event b)))).dst.devices.map
        (fun d => (d.position, d.operations, d.travelStart)) = [(.opened, 42, none)] ∧
      (after .eventTaken (taking s (frame 9000000230 (.event { b with duplicate := true })))).dst.devices.map
        (fun d => (d.operations, d.corroborations)) = [(41, 1)] := by decide

/-- Engine 5 at t1 (section 6.12). -/
theorem test_next_taken :
    let s := { emitting { lane with clock := { clock with lastCorrected := 8000001200 } } [entry 8000001200 0] with
      pu.windowStart := 8000000000, pu.windowEnd := 8000001000, pu.budget := .epochs 2 }
    let t := after .nextTaken (taking s (frame 8000001200 .next))
    (t.pu.windowStart, t.pu.windowEnd) = (8000001200, 8000002200) ∧ t.pu.budget = .epochs 1 ∧
      (t.lane 0).state = .ready := by decide +kernel

theorem test_report_taken :
    (after .reportFrameTaken (taking (engine lane) (frame 0 (.status statusBody)))).biu.inbound = [] ∧
      (after .undefinedCommand (taking (engine lane) (command 11 0))).biu.inbound = [] := by decide

theorem test_run_pause_step :
    (after .run (taking { engine lane with rc.mode := .paused } (command 1 0))).rc.mode = .running ∧
      (after .pause (taking (engine lane) (command 2 0))).rc.mode = .paused ∧
      (after .step (taking (engine lane) (command 3 300))).pu.budget = .epochs 255 := by decide

/-- The directory's latest entry at or below the seek time (section 1.4.4). -/
theorem test_seek_chooses_the_checkpoint :
    (after .seek (taking (engine lane) (command 4 3612344000))).afu.request =
      some { owner := .checkpoint, slot := 2000, retry := false } := by decide

theorem test_halt : (after .halt (taking (engine lane) (command 5 0))).rc.mode = .standby := by decide

theorem test_epoch_and_rate :
    (after .epoch (taking (engine lane) (command 6 5))).pu.span = 10 ∧
      (after .rate (taking (engine lane) (command 7 256))).pu.pace = 255 := by decide

/-- The regression of section 8.9, held, and engine 7's lane 0 TRAPPED with it. -/
def trapped (group : Nat) : Lane :=
  { holding with
    state := .trapped, held := some (.event (clock.correct 2210 .closed 3612345599 1)), trap := some (.fetch group) }

/-- A RELEASE of engine 7's lane 0. -/
def releaseFrame (action : BitVec 2) : Frame :=
  frame 0x0800000000 (.command { station := 7, lane := 0, action := action, numeric := 0 })

/-- APPLY of a group 2 event whose device is not held: group 3 traps it again; SKIP of that trap passes the slot. -/
theorem test_release :
    ((after .release (taking (engine (trapped 2)) (releaseFrame 1))).lane 0).trap = some (.fetch 3) ∧
      ((after .release (taking (engine (trapped 2)) (releaseFrame 1))).lane 0).readPos = 1 ∧
      ((after .release (taking (engine (trapped 3)) (releaseFrame 0))).lane 0).readPos = 2 := by decide

theorem test_query_and_poll :
    (after .query (taking (engine lane) (command 9 5120))).dst.replies = [5120] ∧
      (after .poll (taking (engine lane) (command 10 0))).rc.statusPending = true := by decide

theorem test_close_pulse_end :
    (after .closePulseEnd { engine { lane with state := .passed } with pu.closePulse := true }).pu.drive = .released := by
  decide

/-- p = 32 over a window of 1,000 is 2,000 µs (section 6.12). -/
theorem test_pace_time :
    (after .paceTimeMet { engine lane with pu.pace := 32 }).pu.paceTimer = 2000 := by decide

theorem test_line_moves_the_phase :
    (after .bhlRise { engine { lane with state := .passed } with pu.drive := .released }).pu.phase = .emit ∧
      (after .bhlDominantRead (emitting lane [])).pu.phase = .suspended := by decide

theorem test_timebase :
    (after .referenceLost { engine lane with pu.timebase := .reference }).pu.timebase = .internal ∧
      (after .referenceRestored { engine lane with pu.timebase := .internal }).rc.statusPending = true := by decide

theorem test_table_words_spell_nothing : decodeTableWord 8 0 = none := by decide

/-! Witnesses: the hypotheses of each statement hold together on concrete states and operands, and the premise of each
clause holds somewhere, at the boundary values of its range. Each is named after its statement. -/

theorem witness_StepRunsTheFrontCommand :
    { engine lane with pending := [.laneVisitStart, .run] }.pending = .laneVisitStart :: [.run] := rfl

theorem witness_EmptyQueuePassesOneMicrosecond :
    (engine lane).pending = [] ∧ (engine lane).inReset = false ∧ State.reset.pending = [] ∧
      State.reset.inReset = true := by decide

theorem witness_AResetInProgressHoldsTheEngine :
    State.reset.inReset = true ∧ Instr.seek ≠ .powerOnReset ∧ Instr.seek ≠ .pinReset ∧
      ∀ straps edge, Instr.seek ≠ .resetEnd straps edge :=
  ⟨rfl, by decide, by decide, fun _ _ h => nomatch h⟩

theorem witness_ResetEndSamplesStrapsAndReadsTheHeader : State.reset.inReset = true := rfl

/-- What a load's statement wants of a state: its read is outstanding, words can bring it any slot, and its load stands
at a stage. -/
def LoadsAt (s : State) (p : LoadProgress) (stage : LoadStage) : Prop :=
  s.inReset = false ∧ (∀ d, s.Brings (wordsOf false d) d) ∧
    s.afu.request = some { owner := .load, slot := 33552384, retry := true } ∧ s.rc.load = some p ∧ p.stage = stage

theorem loads (p : LoadProgress) : LoadsAt (loadingAt p) p p.stage :=
  ⟨rfl, brings rfl rfl, rfl, rfl, rfl⟩

theorem witness_HeaderSlotPassesChecksOneAndTwo :
    LoadsAt (loading .header header []) (progress .header header []) .header ∧
      natAt (headerSlot 0x641 1 6 5 3) 0 4 ≠ 0x640 ∧
      (natAt (headerSlot 0x640 0 6 5 3) 0 4 = 0x640 ∧ natAt (headerSlot 0x640 0 6 5 3) 4 1 = 0) ∧
      (natAt (headerSlot 0x640 17 6 5 3) 0 4 = 0x640 ∧ 16 < natAt (headerSlot 0x640 17 6 5 3) 4 1) ∧
      (natAt (headerSlot 0x640 1 6 4 3) 0 4 = 0x640 ∧ natAt (headerSlot 0x640 1 6 4 3) 4 1 = 1) ∧
      (natAt (headerSlot 0x640 16 6 5 3) 0 4 = 0x640 ∧ natAt (headerSlot 0x640 16 6 5 3) 4 1 = 16) :=
  ⟨loads _, by decide, by decide, by decide, by decide, by decide⟩

/-- A load at the last of two lane entries, the first lane's region the slots 0 to 4; with a count of devices. -/
def lastLane (devices : Nat) : LoadProgress :=
  { progress (.lane 1) (headerOf (headerSlot 0x640 2 devices 5 3)) [] with
    lanes := [laneConfigOf (laneSlot 0 5 0 0 1) .us1] }

/-- No two regions of two lanes share a slot where the second begins at the end of the first or later. -/
theorem apart {c c' : LaneConfig} (h : c.base + c.slotCount ≤ c'.base) (j k slot : Nat) (a b : LaneConfig) (hjk : j < k)
    (ha : [c, c'][j]? = some a) (hb : [c, c'][k]? = some b) :
    ¬(a.base ≤ slot ∧ slot < a.base + a.slotCount ∧ b.base ≤ slot ∧ slot < b.base + b.slotCount) := by
  match j, k with
  | 0, 0 | 1, 0 | 1, 1 => omega
  | 0, 1 =>
    obtain rfl : c = a := by simpa using ha
    obtain rfl : c' = b := by simpa using hb
    omega
  | _, k + 2 => simp at hb
  | j + 2, 0 | j + 2, 1 => omega

/-- The last region that fits ends at the first station-block slot, 33,552,384. A second region that begins in the last
slot of the first, and one that begins behind it; 4,097, 4,096 and no devices. -/
theorem witness_LaneEntryPassesChecksThreeAndFour :
    LoadsAt (loading (.lane 1) header []) (progress (.lane 1) header []) (.lane 1) ∧ 1 + 1 < header.laneCount ∧
      3 < natAt (laneSlot 0 4 4 0 1) 12 1 ∧
      (natAt (laneSlot 33552380 5 3 0 1) 12 1 ≤ 3 ∧
        stationBlock 1 < natAt (laneSlot 33552380 5 3 0 1) 4 4 + natAt (laneSlot 33552380 5 3 0 1) 8 4) ∧
      (natAt (laneSlot 33552380 4 3 0 1) 12 1 ≤ 3 ∧
        natAt (laneSlot 33552380 4 3 0 1) 4 4 + natAt (laneSlot 33552380 4 3 0 1) 8 4 ≤ stationBlock 1) ∧
      LoadsAt (loadingAt (lastLane 0)) (lastLane 0) (.lane 1) ∧ (lastLane 0).header.laneCount ≤ 1 + 1 ∧
      (let shared := (lastLane 0).lanes ++ [laneConfigOf (laneSlot 4 5 0 0 1) .us1]
        ∃ (j k slot : Nat) (a b : LaneConfig), j < k ∧ shared[j]? = some a ∧ shared[k]? = some b ∧
          a.base ≤ slot ∧ slot < a.base + a.slotCount ∧ b.base ≤ slot ∧ slot < b.base + b.slotCount) ∧
      (let touching := (lastLane 0).lanes ++ [laneConfigOf (laneSlot 5 5 0 0 1) .us1]
        ∀ (j k slot : Nat) (a b : LaneConfig), j < k → touching[j]? = some a → touching[k]? = some b →
          ¬(a.base ≤ slot ∧ slot < a.base + a.slotCount ∧ b.base ≤ slot ∧ slot < b.base + b.slotCount)) ∧
      4096 < (lastLane 4097).header.deviceCount ∧ (lastLane 4096).header.deviceCount = 4096 ∧
      (lastLane 0).header.deviceCount = 0 :=
  ⟨loads _, by decide, by decide, by decide, by decide, loads _, by decide,
    ⟨0, 1, 4, laneConfigOf (laneSlot 0 5 0 0 1) .us1, laneConfigOf (laneSlot 4 5 0 0 1) .us1, by decide, rfl, rfl,
      by decide, by decide, by decide, by decide⟩,
    apart (by decide), by decide, by decide, by decide⟩

/-- A directory slot of two entries: times and slot indexes. -/
def directorySlot (time slot time' slot' : Nat) : Slot :=
  BitVec.ofNat 256 (time * 2 ^ 216 + slot * 2 ^ 184 + time' * 2 ^ 88 + slot' * 2 ^ 56)

/-- The first entries of a directory slot. -/
def directoryEntries (d : Slot) (count : Nat) : List DirEntry :=
  (List.range count).map fun j => { time := natAt d (16 * j) 5, slot := natAt d (16 * j + 5) 4 }

/-- A range slot of one range. -/
def rangeSlot (low high : Nat) : Slot :=
  BitVec.ofNat 256 (low * 2 ^ 240 + high * 2 ^ 224 + 2 ^ 208)

/-- The range of a range slot of one. -/
def onlyRange (d : Slot) : DeviceRange :=
  { low := natAt d 0 2, high := natAt d 2 2, mask := bytesAt d 4 2 }

/-- Six devices, one range and a directory of 3: the first and the last device slot. A range of every number, one of
number 0, one of 65,535 and one upside down. The first directory slot, the last of an odd count and the last of an even
one; the greatest time in the last slot of the record area, NONE, the station block, and a time not above the last. -/
theorem witness_LastDirectoryEntryEndsTheLoad :
    (LoadsAt (loading (.devices 0) header []) (progress (.devices 0) header []) (.devices 0) ∧
      4 * (0 + 1) < header.deviceCount ∧
      LoadsAt (loading (.devices 1) header []) (progress (.devices 1) header []) (.devices 1) ∧
      ¬4 * (1 + 1) < header.deviceCount ∧ min 4 (header.deviceCount - 4 * 1) = 2) ∧
    (LoadsAt (loading .ranges { header with rangeCount := 1 } []) (progress .ranges { header with rangeCount := 1 } [])
        .ranges ∧
      (1 ≤ (onlyRange (rangeSlot 1 65534)).low ∧ (onlyRange (rangeSlot 1 65534)).high ≤ 65534 ∧
        (onlyRange (rangeSlot 1 65534)).low ≤ (onlyRange (rangeSlot 1 65534)).high) ∧
      ¬1 ≤ (onlyRange (rangeSlot 0 65534)).low ∧ ¬(onlyRange (rangeSlot 1 65535)).high ≤ 65534 ∧
      ¬(onlyRange (rangeSlot 6 5)).low ≤ (onlyRange (rangeSlot 6 5)).high) ∧
    LoadsAt (loading (.directory 0) header []) (progress (.directory 0) header []) (.directory 0) ∧
      2 * (0 + 1) < header.directoryCount ∧
    LoadsAt (loading (.directory 1) header [⟨5, 0⟩, ⟨6, 0⟩]) (progress (.directory 1) header [⟨5, 0⟩, ⟨6, 0⟩])
        (.directory 1) ∧
      ¬2 * (1 + 1) < header.directoryCount ∧ min 2 (header.directoryCount - 2 * 1) = 1 ∧
    ¬2 * (1 + 1) < { header with directoryCount := 4 }.directoryCount ∧
      min 2 ({ header with directoryCount := 4 }.directoryCount - 2 * 1) = 2 ∧
    (let entries := directoryEntries (directorySlot 1099511627773 0 1099511627774 33552383) 2;
      (∀ e ∈ entries, e.time ≤ 1099511627774 ∧ e.slot < stationBlock 1) ∧
        (∀ e ∈ entries, ∀ x ∈ [DirEntry.mk 5 0, DirEntry.mk 6 0], x.time < e.time) ∧
        entries.Pairwise (fun a b => a.time < b.time)) ∧
    (¬∀ e ∈ directoryEntries (directorySlot 1099511627775 0 0 0) 1, e.time ≤ 1099511627774) ∧
    (¬∀ e ∈ directoryEntries (directorySlot 7 33552384 0 0) 1, e.slot < stationBlock 1) ∧
    (¬∀ e ∈ directoryEntries (directorySlot 6 0 0 0) 1, ∀ x ∈ [DirEntry.mk 5 0, DirEntry.mk 6 0], x.time < e.time) ∧
    ¬(directoryEntries (directorySlot 7 0 7 0) 2).Pairwise (fun a b => a.time < b.time) :=
  ⟨⟨loads _, by decide, loads _, by decide, by decide⟩, ⟨loads _, by decide, by decide, by decide, by decide⟩, loads _,
    by decide, loads _, by decide, by decide, by decide, by decide, by decide, by decide, by decide, by decide,
    by decide⟩

/-- The search wraps from lane 15 to lane 0, in RUNNING and in SEEKING; an engine without a READY lane waits; no visits
in EMIT, after the own cut, in STANDBY, and with a read outstanding; and a start and an answer that issue a read. -/
theorem witness_VisitBeginsOnTheFirstReadyLane :
    let s := { engine lane with afu.rotation := 15 }
    let seeking := { s with rc.mode := .seeking }
    let idle := engine { lane with state := .ended }
    (s.inReset = false ∧ s.afu.request = none ∧ s.MakesVisits) ∧
      (seeking.inReset = false ∧ seeking.afu.request = none ∧ seeking.MakesVisits) ∧
      ((0 : Fin 16) = s.afu.rotation + 1 ∧ (s.lane 0).state = .ready ∧ (s.lane 0).silent = none ∧
        ∀ k : Fin 16, k < 1 →
          ¬((s.lane (s.afu.rotation + k)).state = .ready ∧ (s.lane (s.afu.rotation + k)).silent = none)) ∧
      (idle.inReset = false ∧ idle.afu.request = none ∧ idle.MakesVisits ∧
        ∀ l, ¬((idle.lane l).state = .ready ∧ (idle.lane l).silent = none)) ∧
      (¬(emitting lane []).MakesVisits ∧ ¬{ engine lane with mq.cut := .taken }.MakesVisits ∧
        ¬(receiving .standby).MakesVisits ∧ (reading lane false).afu.request ≠ none) ∧
      (∃ t, exec .laneVisitStart s = .next t ∧
        t.afu.request = some { owner := .lane 0, slot := 200001, retry := false }) ∧
      ∃ t, exec (.laneSlotAnswer (wordsOf false eventSlot)) (reading lane true) = .next t ∧
        t.afu.request = some { owner := .lane 0, slot := 200002, retry := false } :=
  ⟨⟨rfl, rfl, .inl ⟨.inr rfl, rfl, nofun⟩⟩, ⟨rfl, rfl, .inr ⟨rfl, rfl⟩⟩, by decide,
    ⟨rfl, rfl, .inl ⟨.inr rfl, rfl, nofun⟩, by decide⟩,
    ⟨by unfold State.MakesVisits; decide, by unfold State.MakesVisits; decide, by unfold State.MakesVisits; decide,
      nofun⟩, ⟨_, rfl, rfl⟩, ⟨_, rfl, by decide⟩⟩

/-- Seven words of a slot, for each block that reads; words of the other tag; and words without a request. -/
theorem witness_FirstTimeoutRetriesAndLateAnswersChangeNothing :
    let seven := (wordsOf false eventSlot).take 7
    let taken (s : State) := s.afu.words ++ (seven.filter fun w => w.echo == s.afu.atag).map PortWord.data
    (reading lane false).inReset = false ∧
      (reading lane false).afu.request = some { owner := .lane 0, slot := 200001, retry := false } ∧
      (taken (reading lane false)).length < 8 ∧
      ((loading .header header []).afu.request = some { owner := .load, slot := 33552384, retry := true } ∧
        (taken (loading .header header [])).length < 8 ∧ (loading .header header []).rc.load.isSome = true) ∧
      ((loadingCheckpoint 0).afu.request = some { owner := .checkpoint, slot := 2000, retry := false } ∧
        (taken (loadingCheckpoint 0)).length < 8 ∧ (loadingCheckpoint 0).afu.checkpoint.isSome = true) ∧
      (∀ w ∈ wordsOf true eventSlot, w.echo ≠ (reading lane false).afu.atag) ∧ (engine lane).afu.request = none ∧
      (reading lane false).afu.words.length < 8 := by decide

/-- The engine in SEEKING towards a time, lane 0's read outstanding, with a READY lane 1 that has not reached the
time. -/
def seekingTo (x : Lane) (time : Nat) : State :=
  { reading x true with
    afu.lanes := (reading x true).afu.lanes.set 1 lane
    rc := { State.reset.rc with mode := .seeking, seekTime := time } }

/-- The engine in SEEKING just above lane 0's event. -/
def silentReplay : State :=
  seekingTo lane 3612344573

theorem seekGoesOn (x : Lane) {time : Nat} (h : 3612344494 < time) : (seekingTo x time).SeekGoesOn 0 :=
  ⟨rfl, rfl, 1, by decide, rfl, rfl, h⟩

theorem witness_SecondTimeoutLosesTheLaneOrFaultsTheLoad :
    ((reading lane true).inReset = false ∧ (reading lane true).rc.mode ≠ .seeking ∧
      (reading lane true).afu.request = some { owner := .lane 0, slot := 200001, retry := true }) ∧
      (silentReplay.inReset = false ∧ silentReplay.SeekGoesOn 0 ∧
        silentReplay.afu.request = some { owner := .lane 0, slot := 200001, retry := true }) ∧
      (loading .header header []).inReset = false ∧
      (loading .header header []).afu.request = some { owner := .load, slot := 33552384, retry := true } :=
  ⟨⟨rfl, nofun, rfl⟩, ⟨rfl, seekGoesOn lane (by decide), rfl⟩, rfl, rfl⟩

/-- A lane's read is answered, whatever the lane. -/
theorem answers (x : Lane) (hx : x.silent = none) (retry : Bool) : (reading x retry).AnswersLane 0 :=
  .inl ⟨rfl, nofun, hx, 200001, retry, rfl⟩

/-- A lane's read is answered in SEEKING, whatever the lane. -/
theorem answersInSeek (x : Lane) (hx : x.silent = none) {time : Nat} (h : 3612344494 < time) :
    (seekingTo x time).AnswersLane 0 :=
  .inr ⟨rfl, seekGoesOn x h, hx, 200001, true, rfl⟩

/-- Words bring any slot to the engine whose lane reads, and to the one in SEEKING. -/
theorem readingBrings (x : Lane) (retry : Bool) (d : Slot) : (reading x retry).Brings (wordsOf false d) d :=
  brings rfl rfl d

theorem seekBrings (x : Lane) (time : Nat) (d : Slot) : (seekingTo x time).Brings (wordsOf false d) d :=
  brings rfl rfl d

/-- Lane 0's read outstanding with lane 1 as given, 256 entries in the queue, and no cut record. -/
def full (y : Lane) : State :=
  { reading lane true with
    mq.entries := (List.range 256).map (entry 3612344000)
    afu.lanes := (reading lane true).afu.lanes.set 1 y }

/-- A STALLED lane with a last corrected time. -/
def stalled (time : Nat) : Lane :=
  { lane with state := .stalled, clock := { clock with lastCorrected := time } }

theorem fullAnswers (y : Lane) : (full y).AnswersLane 0 :=
  .inl ⟨rfl, nofun, rfl, 200001, true, rfl⟩

/-- A PENDING cut whose only lane ends, with another lane that holds the engine back, and with the engine's own CUT in
wait. A full queue with another lane to read; and without one, lane 0 or lane 1 the lowest in time, equal times giving
lane 0; a time at the window start, whose cut is forced, and one just above it, whose cut is not. -/
theorem witness_ErasedSlotEndsAndFullQueueStalls :
    let pending := { reading lane true with mq.cut := .pending 3612344494 none }
    let own := { frame 3612344494 .cut with station := 7 }
    (pending.AnswersLane 0 ∧ pending.Brings (wordsOf false (BitVec.allOnes 256)) (BitVec.allOnes 256) ∧
      (∀ m, m ≠ 0 → (pending.lane m).state = .disabled) ∧ pending.biu.inbound = [] ∧
      ((full (stalled 3612344494)).lane 1).state = .stalled ∧ own.body = .cut ∧
      own.station = pending.straps.station) ∧
    (seekingTo lane 3612344573).AnswersLane 0 ∧
    (∀ y, (full y).AnswersLane 0 ∧ (full y).Brings (wordsOf false eventSlot) eventSlot) ∧
    classify eventSlot = .event 5120 .opened 3612345678 81226 ∧ 256 ≤ (full lane).mq.entries.length ∧
    ((full lane).rc.mode = .running ∧ (full lane).pu.phase = .gather ∧ (full lane).mq.cut = .absent ∧
      ((full lane).lane 1).state = .ready) ∧
    (∀ m, m ≠ 0 →
      ((full (stalled 0)).lane m).state ≠ .ready ∧ ((full (stalled 0)).lane m).state ≠ .waiting) ∧
    (3612344494 = ((full (stalled 3612344494)).lane 0).clock.lastCorrected ∧
      ∀ m, m = 0 ∨ ((full (stalled 3612344494)).lane m).state = .stalled ∨
          ((full (stalled 3612344494)).lane m).state = .trapped →
        3612344494 ≤ ((full (stalled 3612344494)).lane m).clock.lastCorrected ∧
          (m < 0 → 3612344494 < ((full (stalled 3612344494)).lane m).clock.lastCorrected)) ∧
    (3612344001 = ((full (stalled 3612344001)).lane 1).clock.lastCorrected ∧
      ((full (stalled 3612344001)).lane 1).state = .stalled ∧
      ∀ m, m = 0 ∨ ((full (stalled 3612344001)).lane m).state = .stalled ∨
          ((full (stalled 3612344001)).lane m).state = .trapped →
        3612344001 ≤ ((full (stalled 3612344001)).lane m).clock.lastCorrected ∧
          (m < 1 → 3612344001 < ((full (stalled 3612344001)).lane m).clock.lastCorrected)) ∧
    ((full (stalled 3612344000)).lane 1).clock.lastCorrected ≤ (full lane).pu.windowStart ∧
    ¬((full (stalled 3612344001)).lane 1).clock.lastCorrected ≤ (full lane).pu.windowStart :=
  ⟨⟨.inl ⟨rfl, nofun, rfl, 200001, true, rfl⟩, brings rfl rfl _, by decide, rfl, rfl, rfl, rfl⟩,
    answersInSeek lane rfl (by decide), fun y => ⟨fullAnswers y, brings rfl rfl _⟩, by decide, by decide +kernel,
    ⟨rfl, rfl, rfl, rfl⟩, by decide, ⟨rfl, by decide⟩, ⟨rfl, rfl, by decide⟩, by decide, by decide⟩

theorem witness_BadSlotIsSkippedOrHeld :
    (reading lane true).AnswersLane 0 ∧ (reading holding true).AnswersLane 0 ∧
      (seekingTo holding 3612344573).AnswersLane 0 ∧ classify damagedSlot = .damaged ∧
      classify strangeSlot = .undecodable ∧
      (reading lane true).Brings (wordsOf false damagedSlot) damagedSlot ∧
      (reading holding true).Brings (wordsOf false strangeSlot) strangeSlot ∧
      (seekingTo holding 3612344573).Brings (wordsOf false strangeSlot) strangeSlot ∧
      ((reading lane true).lane 0).mask.group1 = .pass ∧ ((reading holding true).lane 0).mask.group1 = .hold ∧
      (reading lane true).rc.mode ≠ .seeking ∧ silentReplay.rc.mode = .seeking :=
  ⟨answers lane rfl true, answers holding rfl true, answersInSeek holding rfl (by decide), by decide, by decide,
    readingBrings _ _ _, readingBrings _ _ _, seekBrings _ _ _, rfl, rfl, nofun, rfl⟩

theorem witness_GapRecordAddsToGapPending :
    (reading lane true).AnswersLane 0 ∧ (reading lane true).Brings (wordsOf false gapSlot) gapSlot ∧
      silentReplay.AnswersLane 0 ∧ silentReplay.Brings (wordsOf false gapSlot) gapSlot ∧
      classify gapSlot = .gap 65535 9 :=
  ⟨answers lane rfl true, readingBrings _ _ _, answersInSeek lane rfl (by decide), seekBrings _ _ _, by decide⟩

/-- The mark of section 3.5.1, whose estimate is due; one whose span is 999,999; and one without a step limit; in
SEEKING too. -/
theorem witness_SyncMarkWithoutAnomalyIsApplied :
    (reading lane true).AnswersLane 0 ∧ (reading lane true).Brings (wordsOf false markSlot) markSlot ∧
      silentReplay.AnswersLane 0 ∧ silentReplay.Brings (wordsOf false markSlot) markSlot ∧
      classify markSlot = .mark 3660000000 3659999152 81227 ∧
      ((reading lane true).lane 0).clock = clock ∧ (silentReplay.lane 0).clock = clock ∧
      3660000000 = (3660000000#48).toNat * clock.tick.micros ∧
      ((-848 : Int) = ((3659999152 : Nat) : Int) - (3660000000 : Nat)) ∧ clock.lastRaw ≤ 3660000000 ∧
      |(-848 : Int) -
        (clock.offset + divNearest (clock.drift * (((3660000000 : Nat) : Int) - clock.referenceRaw)) 1000000000)| ≤
          (reading lane true).ccu.stepLimit ∧
      (1 ≤ clock.markCount ∧ clock.lastMarkRaw + 1000000 ≤ 3660000000) ∧
      (31675 : Int) = clock.drift +
        (max (-500000) (min 500000 (divNearest (((-848 : Int) - clock.lastMarkOffset) * 1000000000)
          (3660000000 - clock.lastMarkRaw))) - clock.drift).tdiv (2 ^ (reading lane true).ccu.driftShift) ∧
      ¬({ clock with lastMarkRaw := 3659000001 }.lastMarkRaw + 1000000 ≤ 3660000000) ∧
      { engine lane with ccu.stepLimit := 0 }.ccu.stepLimit = 0 :=
  ⟨answers lane rfl true, readingBrings _ _ _, answersInSeek lane rfl (by decide), seekBrings _ _ _, by decide, rfl, rfl,
    by decide, by decide, by decide, by decide, by decide, by decide, by decide, rfl⟩

/-- A regression, and a step of 1,000,001 against the limit of 1,000,000, under PASS, under HOLD and in SEEKING. -/
theorem witness_SyncMarkWithAnomalyIsSteppedOrHeld :
    (reading lane true).AnswersLane 0 ∧ (reading holding true).AnswersLane 0 ∧
      (seekingTo holding 3612344573).AnswersLane 0 ∧
      (∀ x, (reading x true).Brings (wordsOf false markSlot) markSlot) ∧
      (seekingTo holding 3612344573).Brings (wordsOf false markSlot) markSlot ∧
      classify markSlot = .mark 3660000000 3659999152 81227 ∧ 3660000000 = (3660000000#48).toNat * clock.tick.micros ∧
      decide (3660000000 < { clock with lastRaw := 3660000001 }.lastRaw) = true ∧
      decide ((1000000 : Nat) ≠ 0 ∧ ((1000000 : Nat) : Int) < |(-848 : Int) -
        ({ clock with offset := -1003249 }.offset +
          divNearest (clock.drift * (((3660000000 : Nat) : Int) - clock.referenceRaw)) 1000000000)|) = true ∧
      ((reading lane true).lane 0).mask.group2 = .pass ∧ ((reading holding true).lane 0).mask.group2 = .hold ∧
      (reading lane true).rc.mode ≠ .seeking ∧ (seekingTo holding 3612344573).rc.mode = .seeking :=
  ⟨answers lane rfl true, answers holding rfl true, answersInSeek holding rfl (by decide), fun _ => readingBrings _ _ _,
    seekBrings _ _ _, by decide, by decide, by decide, by decide, rfl, rfl, nofun, rfl⟩

/-- The event of section 3.5.1, in a table that holds its device; with no range, and with the range that ends at it. In
SEEKING at exactly its time, after a greater raw stamp. -/
theorem witness_EventIsCorrectedHeldAndInserted :
    let s := reading lane true
    let seek := seekingTo { lane with clock := { clock with lastRaw := 3612345679 } } 3612344572
    let ranged := { s with dst.ranges := [{ low := 5000, high := 5120, mask := 1 }] }
    s.AnswersLane 0 ∧ s.Brings (wordsOf false eventSlot) eventSlot ∧ seek.AnswersLane 0 ∧
      seek.Brings (wordsOf false eventSlot) eventSlot ∧
      classify eventSlot = .event 5120 .opened 3612345678 81226 ∧ s.mq.entries.length < 256 ∧
      seek.mq.entries.length < 256 ∧ (s.lane 0).clock = clock ∧
      3612345678 = (3612345678#48).toNat * clock.tick.micros ∧ clock.lastRaw ≤ 3612345678 ∧
      (∃ dev ∈ s.dst.devices, dev.number = 5120) ∧ (∃ dev ∈ seek.dst.devices, dev.number = 5120) ∧
      s.dst.ranges = [] ∧ seek.dst.ranges = [] ∧
      (∃ r ∈ ranged.dst.ranges, r.low ≤ (5120#16).toNat ∧ (5120#16).toNat ≤ r.high ∧ r.mask.getLsbD 0 = true) ∧
      (3612344572 : Int) = (3612345678 : Nat) + clock.offset
        + divNearest (clock.drift * (((3612345678 : Nat) : Int) - clock.referenceRaw)) 1000000000 - clock.lambda ∧
      ((3612344572 : Nat) : Int) = max 0 (min 1099511627774 3612344572) ∧
      3612344572 = max 3612344572 (max clock.lastCorrected s.pu.windowStart) ∧
      3612344572 = max 3612344572 (max (seek.lane 0).clock.lastCorrected 0) ∧ seek.rc.mode = .seeking ∧
      seek.rc.seekTime ≤ 3612344572 :=
  ⟨answers lane rfl true, readingBrings _ _ _, answersInSeek _ rfl (by decide), seekBrings _ _ _, by decide, by decide,
    by decide, rfl, by decide, by decide, ⟨device, by decide, rfl⟩, ⟨device, by decide, rfl⟩, rfl, rfl,
    ⟨_, List.mem_singleton.mpr rfl, by decide, by decide, by decide⟩, by decide, by decide, by decide, by decide, rfl,
    by decide⟩

/-- The successor of 2^32 − 1 is 0, and 81,227 after 81,225 has lost one. -/
theorem witness_SequenceJumpsAreCounted :
    { lane with lastSeq := none }.lastSeq = none ∧ (0#32).toNat = ((4294967295#32).toNat + 1) % 2 ^ 32 ∧
      lane.lastSeq = some 81225 ∧ (81227#32).toNat ≠ ((81225#32).toNat + 1) % 2 ^ 32 ∧
      ((81227#32).toNat + 2 ^ 32 - (81225#32).toNat - 1) % 2 ^ 32 = 1 := by decide

/-- A table that does not hold 5120, and a range that ends below it; a regression under HOLD and under PASS, and none;
a device that is held and allowed; and SEEKING at exactly the event's time. -/
theorem witness_EventWithAnomalyIsHeldOrSkipped :
    let e := clock.correct 5120 .opened 3612345678 1
    let regression : Finding :=
      { lane := 0, group := 2, anomalies := { regression := true }, disposition := .applied, device := some 5120,
        slot := 1, key := e.unheld }
    (∀ x, (reading x true).Brings (wordsOf false eventSlot) eventSlot) ∧ (reading lane true).AnswersLane 0 ∧
      (reading holding true).AnswersLane 0 ∧ (seekingTo holding 3612344572).AnswersLane 0 ∧
      (seekingTo holding 3612344572).Brings (wordsOf false eventSlot) eventSlot ∧
      classify eventSlot = .event 5120 .opened 3612345678 81226 ∧ (reading lane true).mq.entries.length < 256 ∧
      (seekingTo holding 3612344572).mq.entries.length < 256 ∧
      (seekingTo holding 3612344572).rc.seekTime ≤ max e.unheld clock.lastCorrected ∧
      e.raw < { clock with lastRaw := 3612345679 }.lastRaw ∧ clock.lastRaw ≤ e.raw ∧
      (reading lane true).cku.Raises { (reading lane true).cku with findings := [regression] } regression ∧
      (∀ dev ∈ [{ device with number := 5121 }], dev.number ≠ 5120) ∧
      (∀ r ∈ [DeviceRange.mk 5000 5119 1], r.low ≤ (5120#16).toNat → (5120#16).toNat ≤ r.high →
        r.mask.getLsbD 0 = false) ∧
      decide (∀ dev ∈ (reading lane true).dst.devices, dev.number ≠ 5120) = false ∧
      (reading lane true).dst.ranges = [] ∧ lane.mask.group2 = .pass ∧ lane.mask.group3 = .pass ∧
      holding.mask.group2 = .hold ∧ holding.mask.group3 = .hold :=
  ⟨fun _ => readingBrings _ _ _, answers lane rfl true, answers holding rfl true, answersInSeek holding rfl (by decide),
    seekBrings _ _ _, by decide, by decide, by decide, by decide, by decide, by decide,
    (if_pos (by decide : ([] : List Finding).length < 8)).mpr rfl, by decide, by decide, by decide, rfl, rfl, rfl, rfl,
    rfl⟩

/-- Lane 0's read outstanding just above its event's time, with lane 1's silent event on the front: lane 1 is READY. -/
def fronting (time : Nat) : State :=
  { silentReplay with
    afu.lanes := silentReplay.afu.lanes.set 1
      { lane with silent := some { time := time, device := 5120, kind := .travel } } }

/-- Lane 0 once its event has become its silent event. -/
def handedLane : Lane :=
  { lane with
    lastSeq := some 81226, readPos := 2, clock := { clock with lastRaw := 3612345678, lastCorrected := 3612344572 }
    silent := some { time := 3612344572, device := 5120, kind := .opened } }

/-- A READY lane 1 keeps the front waiting; at equal times lane 0's event is applied, at a lower time lane 1's. -/
theorem witness_EventBelowTheSeekTimeIsHandedToSilentReplay :
    silentReplay.inReset = false ∧ silentReplay.SeekGoesOn 0 ∧
      (∀ time, (fronting time).inReset = false ∧ (fronting time).rc.mode = .seeking ∧
        (fronting time).afu.checkpoint = none ∧
        (fronting time).afu.request = some { owner := .lane 0, slot := 200001, retry := true } ∧
        (fronting time).Brings (wordsOf false eventSlot) eventSlot ∧
        ((fronting time).lane 1).LetsTheFrontApply silentReplay.rc.seekTime ∧
        ((fronting time).lane 1).state = .ready ∧
        ((fronting time).lane 1).clock.lastCorrected < (fronting time).rc.seekTime ∧
        ((fronting time).lane 1).silent = some { time := time, device := 5120, kind := .travel }) ∧
      (∀ m, m ≠ 0 → m ≠ 1 → ((fronting 0).lane m).state = .disabled ∧ ((fronting 0).lane m).silent = none) ∧
      ((reading lane true).lane 0).noteSequence 81226 = { lane with state := .waiting, lastSeq := some 81226 } ∧
      handedLane.state = .ready ∧ handedLane.clock.lastCorrected < silentReplay.rc.seekTime ∧
      3612344572 ≤ 3612344572 ∧ 3612344571 < 3612344572 ∧
      silentReplay.afu.request = some { owner := .lane 0, slot := 200001, retry := true } ∧
      silentReplay.Brings (wordsOf false eventSlot) eventSlot ∧
      classify eventSlot = .event 5120 .opened 3612345678 81226 ∧ silentReplay.mq.entries.length < 256 ∧
      (silentReplay.lane 0).clock = clock ∧ 3612345678 = (3612345678#48).toNat * clock.tick.micros ∧
      ((3612344572 : Nat) : Int) = max 0 (min 1099511627774 ((3612345678 : Nat) + clock.offset
        + divNearest (clock.drift * (((3612345678 : Nat) : Int) - clock.referenceRaw)) 1000000000 - clock.lambda)) ∧
      3612344572 = max 3612344572 clock.lastCorrected ∧ 3612344572 < silentReplay.rc.seekTime :=
  ⟨rfl, seekGoesOn lane (by decide),
    fun _ => ⟨rfl, rfl, rfl, rfl, brings rfl rfl _, .inl nofun, rfl,
      (by decide : clock.lastCorrected < 3612344573), rfl⟩, by decide, by decide, rfl,
    by decide, by decide, by decide, rfl, seekBrings _ _ _, by decide, by decide, rfl, by decide, by decide, by decide,
    by decide⟩

/-- What a checkpoint's statements want of a state: its slot's read is outstanding, words can bring it any slot, its load
is in progress, and no lane holds anything. -/
structure ChecksAt (s : State) (c : CheckpointLoad) : Prop where
  live : s.inReset = false
  brings : ∀ d, s.Brings (wordsOf false d) d
  request : s.afu.request = some { owner := .checkpoint, slot := 2000, retry := false }
  load : s.afu.checkpoint = some c
  mode : s.rc.mode = .seeking
  lanes : ∀ l, (s.lane l).silent = none ∧ (s.lane l).held = none

theorem checks (c : CheckpointLoad) : ChecksAt (checking c) c :=
  ⟨rfl, brings rfl rfl, rfl, rfl, rfl,
    (by decide : ∀ l, ((engine lane).lane l).silent = none ∧ ((engine lane).lane l).held = none)⟩

/-- A checkpoint of a count of lane and of device sub-records, some of its slots taken. -/
def partRead (taken lanes devices : Nat) (firstSlot : Option Slot) : CheckpointLoad :=
  { entry := ⟨3612340000, 2000⟩, taken := taken, laneCount := lanes, deviceCount := devices, firstSlot := firstSlot,
    lanes := [], devices := [] }

/-- The first slot of a lane sub-record: lane 0, next slot 1, and the byte that makes the XOR 0. -/
def laneSubSlot (lane : Nat) : Slot :=
  BitVec.ofNat 256 (lane * 2 ^ 248 + 2 ^ 216 + lane.xor 1)

/-- A device sub-record of 5120 with a position code. -/
def deviceSubSlot (position : Nat) : Slot :=
  BitVec.ofNat 256 (5120 * 2 ^ 240 + position * 2 ^ 232 + position.xor 0x14)

/-- A header of 16 lane sub-records and 1,024 device sub-records, ending at the station block; a header of none, with
which the load ends; both slots of a lane sub-record, and a device sub-record, each followed by a slot and the last; at
exactly the seek time and below it. -/
theorem witness_UsableCheckpointHeaderLeadsToTheNextSlot :
    let wide := checkpointHeader 3612340000 16 1024 0x43
    let none' := checkpointHeader 3612340000 0 0 0x57
    ChecksAt (checking (partRead 0 0 0 none)) (partRead 0 0 0 none) ∧
      (wide ≠ BitVec.allOnes 256 ∧ xorBytes wide = 0#8 ∧ natAt wide 0 5 = 3612340000 ∧ natAt wide 5 1 ≤ 16 ∧
        natAt wide 6 2 ≤ 1024 ∧ 2000 + (1 + 2 * natAt wide 5 1 + natAt wide 6 2) ≤ stationBlock 1 ∧
        1 < 1 + 2 * natAt wide 5 1 + natAt wide 6 2) ∧
      (none' ≠ BitVec.allOnes 256 ∧ xorBytes none' = 0#8 ∧ natAt none' 0 5 = 3612340000 ∧
        1 + 2 * natAt none' 5 1 + natAt none' 6 2 ≤ 1) ∧
      ChecksAt (checking (partRead 1 1 1 none)) (partRead 1 1 1 none) ∧
      (laneSubSlot 15 ≠ BitVec.allOnes 256 ∧ xorBytes (laneSubSlot 15) = 0#8 ∧ 1 ≤ 1 ∧ 1 ≤ 2 * 1 ∧
        natAt (laneSubSlot 15) 0 1 = 15 ∧ 1 + 1 < 1 + 2 * 1 + 1) ∧
      ChecksAt (checking (partRead 2 1 1 (some (laneSubSlot 0)))) (partRead 2 1 1 (some (laneSubSlot 0))) ∧
      (0#256 ≠ BitVec.allOnes 256 ∧ xorBytes 0#256 = 0#8 ∧ 1 ≤ 2 ∧ 2 ≤ 2 * 1 ∧ 2 + 1 < 1 + 2 * 1 + 1 ∧
        ((checking (partRead 2 1 1 (some (laneSubSlot 0)))).lane 0).state ≠ .disabled ∧
        natAt (laneSubSlot 0) 0 1 = 0 ∧ 1 + 2 * 1 + 0 ≤ 2 + 1) ∧
      ChecksAt (checking (partRead 3 1 1 none)) (partRead 3 1 1 none) ∧
      (deviceSubSlot 3 ≠ BitVec.allOnes 256 ∧ xorBytes (deviceSubSlot 3) = 0#8 ∧ 2 * 1 < 3 ∧
        natAt (deviceSubSlot 3) 0 2 = 5120 ∧
        [Position.opened, .closed, .travel, .unknown][natAt (deviceSubSlot 3) 2 1]? = some .unknown ∧
        1 + 2 * 1 + 1 ≤ 3 + 1 ∧ 3 + 1 < 1 + 2 * 1 + 2) ∧
      (checking (partRead 3 1 1 none)).rc.seekTime ≠ 3612340000 ∧
      { checking (partRead 3 1 1 none) with rc.seekTime := 3612340000 }.rc.seekTime = 3612340000 :=
  ⟨checks _, by decide +kernel, by decide +kernel, checks _, by decide +kernel, checks _, by decide +kernel, checks _,
    by decide +kernel, by decide, rfl⟩

/-- An erased slot, a failing XOR; a header of another time, of 17 lanes, of 1,025 devices, and of 9 slots that end one
slot beyond the record area; lane 16; device 0, device 65,535 and position code 4; and a retry. -/
theorem witness_UnusableCheckpointLeavesNominalValues :
    ChecksAt (checking (partRead 0 0 0 none)) (partRead 0 0 0 none) ∧
      (xorBytes (checkpointHeader 3612340000 3 3 0x56) ≠ 0#8 ∧
        natAt (checkpointHeader 3612340001 3 3 0) 0 5 ≠ 3612340000 ∧ 16 < natAt (checkpointHeader 3612340000 17 0 0) 5 1 ∧
        1024 < natAt (checkpointHeader 3612340000 0 1025 0) 6 2 ∧
        stationBlock 1 < 33552376 + (1 + 2 * natAt (checkpointHeader 3612340000 3 2 0) 5 1
          + natAt (checkpointHeader 3612340000 3 2 0) 6 2)) ∧
      ChecksAt (checking (partRead 1 1 1 none)) (partRead 1 1 1 none) ∧ 1 ≤ 2 * 1 ∧
      16 ≤ natAt (laneSubSlot 16) 0 1 ∧ ChecksAt (checking (partRead 3 1 1 none)) (partRead 3 1 1 none) ∧ 2 * 1 < 3 ∧
      natAt 0#256 0 2 = 0 ∧ natAt (BitVec.ofNat 256 (65535 * 2 ^ 240)) 0 2 = 65535 ∧
      3 < natAt (deviceSubSlot 4) 2 1 ∧
      { checking (partRead 3 1 1 none) with
        afu.request := some { owner := .checkpoint, slot := 2000, retry := true } }.afu.request =
          some { owner := .checkpoint, slot := 2000, retry := true } :=
  ⟨checks _, by decide +kernel, checks _, by decide, by decide, checks _, by decide, by decide, by decide, by decide,
    rfl⟩

/-- The greatest pace time that the timer can reach, and one engine for each side of the phase clauses. -/
theorem witness_HoldLineAndPhaseFollowTheirInputs :
    let s := { engine lane with pu.windowEnd := 3612344000 + 268435440, pu.pace := 1 }
    s.inReset = false ∧ (s.pu.windowEnd - s.pu.windowStart) * s.pu.pace ≤ 16 * 16777215 ∧
      (emitting lane []).pu.drive = .released ∧ (emitting lane []).pu.phase = .emit ∧
      (engine lane).pu.drive = .dominant ∧
      { reading lane true with pu.drive := .released }.afu.request =
        some { owner := .lane 0, slot := 200001, retry := true } ∧
      { reading lane true with pu.drive := .released }.rc.mode = .running := by decide

/-- A silent event of the tests. -/
def silentEvent (time : Nat) : SilentEvent :=
  { time := time, device := 5120, kind := .travel }

/-- The engine in SEEKING with lane 0 still read and lanes 1 to 3 ENDED with their silent events on the front: lanes 1 and
2 at the same time, lane 3 below them. -/
def lastRead (x : Lane) (time : Nat) : State :=
  { seekingTo x time with
    afu.lanes := (((seekingTo x time).afu.lanes.set 1 { lane with state := .ended, silent := some (silentEvent 999) }).set
      2 { lane with state := .ended, silent := some (silentEvent 999) }).set
      3 { lane with state := .ended, silent := some (silentEvent 998) } }

/-- What the silent front of the engine holds, in its order. -/
def front : List (Fin 16 × SilentEvent) :=
  [(3, silentEvent 998), (1, silentEvent 999), (2, silentEvent 999)]

theorem lastRead_lane (x : Lane) (time : Nat) (k : Fin 16) (hk : k ≠ 0) :
    (lastRead x time).lane k = (lastRead lane 0).lane k := by
  fin_cases k
  · exact absurd rfl hk
  all_goals rfl

theorem lastRead_silent (x : Lane) (hx : x.silent = none) (time : Nat) (k : Fin 16) (e : SilentEvent) :
    (k, e) ∈ front ↔ ((lastRead x time).lane k).silent = some e := by
  have h : ((lastRead x time).lane k).silent =
      if k = 3 then some (silentEvent 998) else if k = 1 ∨ k = 2 then some (silentEvent 999) else none := by
    by_cases hk : k = 0
    · subst hk; exact hx
    · rw [lastRead_lane x time k hk]; revert k; decide
  rw [h]
  by_cases h3 : k = 3
  · subst h3; simp [front, eq_comm]
  · by_cases h12 : k = 1 ∨ k = 2
    · rcases h12 with rfl | rfl <;> simp [front, eq_comm]
    · rw [not_or] at h12
      simp [front, h3, h12.1, h12.2]

/-- The silent front once lane 0's last event has been handed over. -/
def frontWithLast : List (Fin 16 × SilentEvent) :=
  front ++ [(0, { time := 3612344572, device := 5120, kind := .opened })]

theorem frontWithLast_silent (k : Fin 16) (g : SilentEvent) :
    (k, g) ∈ frontWithLast ↔
      if k = 0 then g = { time := 3612344572, device := 5120, kind := .opened }
      else ((lastRead { lane with slotCount := 2 } 3612344573).lane k).silent = some g := by
  by_cases hk : k = 0
  · subst hk; simp [frontWithLast, front]
  · rw [if_neg hk, ← lastRead_silent _ rfl]; simp [frontWithLast, hk]

/-- An erased slot, an event whose slot is the region's last, one whose time has just reached the window end and the seek
time, a second timeout; and a last slot that is bad, a GAP record, a mark with an anomaly, an event of no device of the
table, and one just below the seek time. -/
theorem witness_LastLaneEndingDrainsTheFrontAndCompletesTheSeek :
    let two := { lane with slotCount := 2 }
    (∀ x time, x.silent = none →
      (lastRead x time).inReset = false ∧ (lastRead x time).rc.mode = .seeking ∧
        (lastRead x time).afu.checkpoint = none ∧
        (lastRead x time).afu.request = some { owner := .lane 0, slot := 200001, retry := true } ∧
        (∀ d, (lastRead x time).Brings (wordsOf false d) d) ∧
        ((∀ k, k ≠ 0 → ((lastRead x time).lane k).state ≠ .ready ∧ ((lastRead x time).lane k).state ≠ .waiting ∧
          ((lastRead x time).lane k).state ≠ .trapped) ∧
        ∀ k e, (k, e) ∈ front ↔ ((lastRead x time).lane k).silent = some e)) ∧
      front.Pairwise (fun a b => a.2.time < b.2.time ∨ a.2.time = b.2.time ∧ a.1 < b.1) ∧
      classify eventSlot = .event 5120 .opened 3612345678 81226 ∧ (lastRead lane 3612344572).mq.entries.length < 256 ∧
      3612344572 = max (clock.correct 5120 .opened 3612345678 1).unheld clock.lastCorrected ∧
      (lastRead lane 3612344572).rc.seekTime ≤ 3612344572 ∧
      (∃ dev ∈ (lastRead lane 3612344572).dst.devices, dev.number = 5120) ∧
      (lastRead lane 3612344572).dst.ranges = [] ∧ two.slotCount ≤ two.readPos + 1 ∧
      { lastRead lane 3612344572 with pu.windowEnd := 3612344572 }.pu.windowEnd ≤ 3612344572 ∧
      (classify damagedSlot = .damaged ∧ classify strangeSlot = .undecodable ∧ classify gapSlot = .gap 65535 9 ∧
        classify markSlot = .mark 3660000000 3659999152 81227 ∧ 3660000000 = two.clock.rawTime 3660000000 ∧
        (two.clock.markAnomalies 1 3660000000 3659999152).any = true ∧
        (two.clock.markAnomalies 1000000 3660000000 3659999152).any = false) ∧
      decide (∀ dev ∈ { lastRead two 3612344572 with dst.devices := [] }.dst.devices, dev.number ≠ 5120) = true ∧
      3612344572 < (lastRead two 3612344573).rc.seekTime ∧
      (∀ k g, (k, g) ∈ frontWithLast ↔
        if k = 0 then g = { time := 3612344572, device := 5120, kind := .opened }
        else ((lastRead two 3612344573).lane k).silent = some g) ∧
      frontWithLast.Pairwise (fun a b => a.2.time < b.2.time ∨ a.2.time = b.2.time ∧ a.1 < b.1) :=
  ⟨fun x time hx => ⟨rfl, rfl, rfl, rfl, brings rfl rfl,
      fun k hk => by rw [lastRead_lane x time k hk]; revert k; decide, lastRead_silent x hx time⟩,
    by decide, by decide, by decide, by decide, by decide, ⟨device, List.mem_singleton.mpr rfl, rfl⟩, rfl, by decide,
    by decide, by decide, by decide, by decide, frontWithLast_silent, by decide⟩

theorem witness_JoinAndUnacceptedFramesEndInIdle :
    (engine lane).inReset = false ∧ { engine lane with biu.state := .joining }.biu.state = .joining ∧
      (receiving .running).biu.state = .receiving := by decide

/-- Head below the end, head at the end, an empty queue with a lane to read, and one whose lanes have ended; and an
engine in EMIT that reads the line dominant. -/
theorem witness_OpenConditionInEmitOffersTheEarliestPendingTime :
    (emitting lane []).inReset = false ∧ (emitting lane []).biu.state = .idle ∧
      (emitting lane []).rc.mode = .running ∧ (emitting lane []).biu.inbound.length < 16 ∧
      (emitting lane []).pu.drive = .released ∧
      ((emitting lane [entry 3612344999 0]).mq.entries = entry 3612344999 0 :: [] ∧
        (entry 3612344999 0).time < (emitting lane []).pu.windowEnd) ∧
      ((emitting lane [entry 3612345000 0]).mq.entries = entry 3612345000 0 :: [] ∧
        (emitting lane []).pu.windowEnd ≤ (entry 3612345000 0).time) ∧
      ((emitting lane []).mq.entries = [] ∧ ∃ l, ((emitting lane []).lane l).state ≠ .disabled ∧
        ((emitting lane []).lane l).state ≠ .ended ∧ ((emitting lane []).lane l).state ≠ .lost) ∧
      (∀ l, (({ emitting lane [] with afu := State.reset.afu } : State).lane l).state = .disabled) ∧
      (emitting lane []).pu.phase = .emit ∧
      { emitting lane [] with afu.request := (reading lane true).afu.request }.afu.request =
        some { owner := .lane 0, slot := 200001, retry := true } := by decide

/-- 15 and 16 frames waiting; a PENDING cut; a finding; a STATE reply; a pending STATUS; WITHDRAWN. -/
theorem witness_OpenConditionOffersInTheOrderOfTheBus :
    let s := engine lane
    let busy := { s with biu.inbound := List.replicate 16 seekFrame }
    let ready := { s with biu.inbound := List.replicate 15 seekFrame }
    let cut := { s with mq.cut := .pending 3612344494 none }
    let replying := { s with dst.replies := [5120] }
    s.inReset = false ∧ s.biu.state = .idle ∧ s.rc.mode = .running ∧ s.pu.phase ≠ .emit ∧ s.pu.drive = .dominant ∧
      16 ≤ busy.biu.inbound.length ∧ ready.biu.inbound.length < 16 ∧ s.pu.phase = .gather ∧
      cut.mq.cut = .pending 3612344494 none ∧ s.mq.cut = .absent ∧ s.cku.findings = [] ∧
      replying.dst.replies = 5120 :: [] ∧ replying.dst.find 5120 = some device ∧ s.dst.replies = [] ∧
      (receiving .withdrawn).rc.mode = .withdrawn := by decide

/-- An equal field wins, the next higher station loses, and class 7 is above all. -/
theorem witness_ArbitrationIsWonByTheLowestField :
    let o : Outbound := { frame := (entry 3612344250 0).frame 7 false {}, entry := some (entry 3612344250 0).key }
    (offering lane .contending).inReset = false ∧ (offering lane .contending).biu.state = .contending ∧
      (offering lane .contending).biu.outbound = some o ∧
      o.frame.arbitration.value ≤ (ArbField.mk 2 3612344250 7).value ∧
      (ArbField.mk 2 3612344250 6).value < o.frame.arbitration.value ∧
      o.frame.arbitration.value ≤ (ArbField.mk 7 0 0).value ∧ (receiving .running).inReset = false ∧
      (receiving .running).biu.state = .receiving ∧ (ArbField.mk 7 0 0).cls = 7#3 := by decide

/-- The engine FAULTED by its load, its STATUS pending. -/
def faulted : State :=
  (loading .header header []).enterFaulted .badFormat

/-- The entry whose EVENT is in contention, and the anomalies that its sequence check finds in an OPEN device. -/
def winner : Entry :=
  entry 3612344250 0

/-- The frame of the winner as offered. -/
def winning : Outbound :=
  { frame := winner.frame 7 false {}, entry := some winner.key }

/-- A stretch at whose end the OPENED is a duplicate, is without anomaly, and is REDUNDANT under PASS and HOLD: the
last event of the device, a station's, lies exactly at the tolerance of 2,000, or just beyond it. -/
def stretching (x : Lane) (position : Position) (last : Nat) : State :=
  { offering x .stretching with
    dst.devices := [{ device with
      position := position, lastEvent := some { kind := .opened, time := last, source := .station 4 } }] }

theorem witness_StretchEndJudgesTheWinningEvent :
    let s := stretching lane .closed 3612342249
    let at2000 := stretching lane .closed 3612342250
    let redundant : AnomalySet := { redundant := true }
    (s.inReset = false ∧ s.biu.state = .stretching ∧ s.biu.outbound = some winning ∧ s.biu.inbound = [] ∧
      winning.entry = some winner.key ∧ s.findEntry winner.key = some winner ∧ s.rc.mode = .running ∧
      s.pu.phase = .emit ∧ s.pu.drive = .released ∧ winner.time < s.pu.windowEnd) ∧
      (s.dst.find winner.device).isSome = true ∧
      (∃ last ∈ (at2000.dst.find winner.device).bind Device.lastEvent, last.kind = winner.kind ∧
        |(winner.time : Int) - last.time| ≤ at2000.cku.tolerance ∧ last.source ≠ .lane winner.lane) ∧
      (∀ last ∈ (s.dst.find winner.device).bind Device.lastEvent,
        ¬|(winner.time : Int) - last.time| ≤ s.cku.tolerance) ∧
      sequenceCheck device winner = {} ∧ sequenceCheck { device with position := .opened } winner = redundant ∧
      (stretching holding .opened 0).findEntry winner.key = some winner ∧
      ((stretching holding .opened 0).lane 0).mask.group4 = .hold ∧
      ((stretching holding .opened 0).lane 0).releasedRecord = none ∧ winner.released = false ∧
      ((stretching lane .opened 0).lane 0).mask.group4 = .pass ∧
      (Lane.releasedRecord { holding with
        held := some (.released (clock.correct 5120 .opened 3612345678 1)) }) ≠ none := by decide

/-- SUSPENDED, a dominant line, a flushed queue, and an end at the entry's time. -/
theorem witness_StretchEndAbortsWhatMayNotBeSent :
    let s := offering lane .stretching
    s.inReset = false ∧ s.biu.state = .stretching ∧ s.biu.outbound = some winning ∧ s.biu.inbound = [] ∧
      winning.entry = some winner.key ∧ { s with pu.phase := .suspended }.pu.phase ≠ .emit ∧
      Level.dominant = .dominant ∧ (∀ e ∈ { s with mq.entries := [] }.mq.entries, e.key ≠ winner.key) ∧
      { s with pu.windowEnd := 3612344250 }.pu.windowEnd ≤ winner.key.time := by decide

theorem witness_FailedAttemptsAreCountedAndTheSixteenthWithdraws :
    (offering lane .sending).inReset = false ∧ (offering lane .sending).biu.state = .sending ∧
      (offering lane .contending).biu.state = .contending ∧ 14 + 1 < 16 ∧ 16 ≤ 15 + 1 ∧
      { offering lane .sending with biu.failureCount := 15 }.rc.mode.takesFrames = true ∧
      (receiving .withdrawn).rc.mode = .withdrawn ∧ (receiving .loading).rc.mode = .loading := by decide

/-- The engine sending a frame, with 15 frames in its inbound queue. -/
def sending (f : Frame) (k : Option EntryKey) : State :=
  { offering lane .sending with
    biu.outbound := some { frame := f, entry := k }, biu.inbound := List.replicate 15 seekFrame }

/-- A lane STALLED with a released record. -/
def waitingRecord : Lane :=
  { lane with state := .stalled, held := some (.released (clock.correct 5120 .opened 3612345678 1)) }

/-- A state with STALLED lanes: lane 1 without a released record, lanes 2 and 3 with one. -/
def withStalled (s : State) : State :=
  { s with
    afu.lanes := ((s.afu.lanes.set 1 { lane with state := .stalled }).set 2 waitingRecord).set 3 waitingRecord }

/-- A silent replay below lane 1's READY waits. -/
theorem silentReplay_waits : silentReplay.SeekWaits :=
  .inr ⟨1, .inl rfl, .inr ⟨rfl, by decide⟩⟩

/-- With and without released records; the queue left with 0 and with 256 entries; in STANDBY and ENDED, in a silent replay
that waits, and in WITHDRAWN and FAULTED. -/
theorem witness_OwnFrameAcceptedSettlesItsOffer :
    let s := sending winning.frame (some winner.key)
    let w := withStalled s
    let rest := s.mq.entries.filter fun e => e.key ≠ winner.key
    s.inReset = false ∧ s.biu.state = .sending ∧ s.biu.outbound = some winning ∧ s.rc.mode = .running ∧
      s.biu.inbound.length < 16 ∧ (∀ l e, (s.lane l).state = .stalled → (s.lane l).held ≠ some (.released e)) ∧
      winning.frame.body = .event (winner.body false {}) ∧ (∃ e ∈ s.mq.entries, e.key = winner.key) ∧
      ((w.lane 1).state = .stalled ∧ (w.lane 1).held = none ∧ (w.lane 0).state ≠ .stalled) ∧
      ((w.lane 2).state = .stalled ∧ (w.lane 2).held = some (.released (clock.correct 5120 .opened 3612345678 1)) ∧
        rest.length < 256 ∧ (∀ l, l < 2 → (w.lane l).releasedRecord = none) ∧ (2 : Fin 16) < 3 ∧
        (w.lane 3).held = some (.released (clock.correct 5120 .opened 3612345678 1))) ∧
      256 ≤ (List.replicate 256 winner).length ∧
      (frame 0 (.finding findingBody)).body = .finding findingBody ∧
      (frame 5120 (.state stateBody)).body = .state stateBody ∧
      (frame 0 (.status statusBody)).body = .status statusBody ∧
      (∀ f mode, { sending f none with rc.mode := mode }.inReset = false ∧
        { sending f none with rc.mode := mode }.biu.state = .sending ∧
        { sending f none with rc.mode := mode }.biu.outbound = some { frame := f, entry := none } ∧
        { sending f none with rc.mode := mode }.biu.inbound.length < 16) ∧
      (Mode.standby.takesFrames = true ∧ Mode.ended.takesFrames = true ∧ Mode.seeking.takesFrames = true) ∧
      ∀ f, { silentReplay with biu := (sending f none).biu }.SeekWaits ∧
        { silentReplay with biu := (sending f none).biu }.rc.mode = .seeking :=
  ⟨rfl, rfl, rfl, rfl, by decide,
    fun l e h => absurd h ((by decide : ∀ l, ((emitting lane []).lane l).state ≠ .stalled) l),
    rfl, ⟨winner, List.mem_singleton.mpr rfl, rfl⟩, ⟨rfl, rfl, nofun⟩,
    ⟨rfl, rfl, by decide, by decide, by decide, rfl⟩, by decide +kernel, rfl, rfl, rfl,
    fun _ _ => ⟨rfl, rfl, rfl, (by decide : (List.replicate 15 seekFrame).length < 16)⟩,
    ⟨rfl, rfl, rfl⟩, fun _ => ⟨silentReplay_waits, rfl⟩⟩

/-- A frame heard to its end, in any mode. -/
theorem hears (mode : Mode) (octet : BitVec 8) : (receiving mode).Hears ⟨seekFrame, octet⟩ :=
  ⟨rfl, rfl, rfl, rfl, nofun⟩

/-- 15 and 16 frames in the inbound queue, an octet that matches and one that does not; a silent replay that waits;
LOADING and FAULTED; and a frame of the invalid class, by its arbitration and by itself. -/
theorem witness_AcceptedFramesJoinTheInboundQueue :
    (receiving .standby).Hears ⟨seekFrame, 0x43⟩ ∧ (receiving .running).Hears ⟨seekFrame, 0x43⟩ ∧
      (receiving .running).rc.mode.takesFrames = true ∧ HeardFrame.intact ⟨seekFrame, 0x43⟩ = true ∧
      (receiving .running).biu.fullAtOpen = false ∧ (List.replicate 15 seekFrame).length < 16 ∧
      seekFrame.station ≠ (receiving .running).straps.station ∧
      (∀ c forced, (receiving .standby).mq.cut ≠ .pending c forced) ∧
      HeardFrame.intact ⟨seekFrame, 0x42⟩ = false ∧ (receiving .standby).rc.mode.takesFrames = true ∧
      16 ≤ (List.replicate 16 seekFrame).length ∧
      ({ silentReplay with biu.state := .receiving }.Hears ⟨seekFrame, 0x43⟩ ∧
        { silentReplay with biu.state := .receiving }.SeekWaits ∧
        { silentReplay with biu.state := .receiving }.biu.fullAtOpen = false ∧
        { silentReplay with biu.state := .receiving }.biu.inbound.length < 16) ∧
      ((receiving .loading).Hears ⟨seekFrame, 0x43⟩ ∧ (receiving .loading).rc.mode = .loading ∧
        seekFrame.station ≠ (receiving .loading).straps.station ∧ (receiving .faulted).Hears ⟨seekFrame, 0x43⟩ ∧
        (receiving .faulted).rc.mode = .faulted) ∧
      { receiving .running with biu.discarding := true }.biu.state = .receiving ∧
      { receiving .running with biu.discarding := true }.inReset = false ∧ (frame 0 .invalid).body = .invalid :=
  ⟨hears .standby 0x43, hears .running 0x43, rfl, by decide +kernel, rfl, by decide, by decide, nofun,
    by decide +kernel, rfl, by decide, ⟨⟨rfl, rfl, rfl, rfl, nofun⟩, silentReplay_waits, rfl, by decide⟩,
    ⟨hears .loading 0x43, rfl, by decide, hears .faulted 0x43, rfl⟩, rfl, rfl, rfl⟩

theorem witness_VetoesAreCountedAndTheEighthWithdraws :
    (receiving .running).Hears ⟨seekFrame, 0x42⟩ ∧ (receiving .running).rc.mode = .running ∧
      { loadingCheckpoint 0 with biu.state := .receiving }.Hears ⟨seekFrame, 0x42⟩ ∧
      (loadingCheckpoint 0).rc.mode = .seeking ∧ (loadingCheckpoint 0).SeekWaits ∧
      { silentReplay with biu.state := .receiving }.SeekWaits ∧
      HeardFrame.intact ⟨seekFrame, 0x42⟩ = false ∧ HeardFrame.intact ⟨seekFrame, 0x43⟩ = true ∧
      (receiving .running).biu.fullAtOpen = false ∧ 6 + 1 < 8 ∧ 8 ≤ 7 + 1 ∧
      (sending seekFrame none).biu.state = .sending ∧ (sending seekFrame none).inReset = false ∧
      (sending seekFrame none).biu.outbound = some { frame := seekFrame, entry := none } :=
  ⟨hears .running 0x42, rfl, ⟨rfl, rfl, rfl, rfl, nofun⟩, rfl, .inl nofun, silentReplay_waits,
    by decide +kernel, by decide +kernel, rfl,
    by decide, by decide, rfl, rfl, rfl⟩

/-- A NEXT(NONE) of the engine's own number, 7, not sent by it. -/
def ownNumber : Frame :=
  { key := 0, station := 7, body := .cut }

theorem witness_DuplicateStationNumberFaultsTheEngine :
    (receiving .running).Hears ⟨ownNumber, ownNumber.checkOctet⟩ ∧
      HeardFrame.intact ⟨ownNumber, ownNumber.checkOctet⟩ = true ∧
      ownNumber.station = (receiving .running).straps.station ∧ (receiving .running).rc.mode ≠ .faulted ∧
      (receiving .running).biu.fullAtOpen = false ∧ (receiving .running).biu.inbound.length < 16 :=
  ⟨⟨rfl, rfl, rfl, rfl, nofun⟩, by decide +kernel, rfl, nofun, rfl, by decide⟩

/-- The directory's entry at exactly the seek time is the latest at or below it, and so it is just below the next; and a
SEEK below the first entry. -/
theorem witness_WithdrawnEngineRejoinsOnSeekAlone :
    let early := command 4 3611999999
    (receiving .withdrawn).Hears ⟨seekFrame, 0x43⟩ ∧ HeardFrame.intact ⟨seekFrame, 0x43⟩ = true ∧
      seekFrame.station ≠ (receiving .withdrawn).straps.station ∧ (receiving .withdrawn).rc.mode = .withdrawn ∧
      Frame.Commands seekFrame 4 (commandBody 3612344000) ∧
      3612344000 = min (3612344000#40).toNat 1099511627774 ∧
      (receiving .withdrawn).afu.directory = [⟨3612000000, 1000⟩] ++ ⟨3612340000, 2000⟩ :: [⟨3612400000, 3000⟩] ∧
      3612340000 ≤ 3612340000 ∧ (∀ x ∈ [DirEntry.mk 3612400000 3000], 3612399999 < x.time) ∧
      (∀ a, ¬Frame.Commands ownNumber 4 a) ∧ (receiving .withdrawn).mq.cut = .absent ∧
      (receiving .withdrawn).Hears ⟨early, early.checkOctet⟩ ∧ HeardFrame.intact ⟨early, early.checkOctet⟩ = true ∧
      early.station ≠ (receiving .withdrawn).straps.station ∧ Frame.Commands early 4 (commandBody 3611999999) ∧
      3611999999 = min (3611999999#40).toNat 1099511627774 ∧
      (∀ x ∈ (receiving .withdrawn).afu.directory, 3611999999 < x.time) ∧
      ∀ l, ((receiving .withdrawn).lane l).state = .disabled →
        ((receiving .withdrawn).lane l).held = none ∧ ((receiving .withdrawn).lane l).silent = none :=
  ⟨hears .withdrawn 0x43, by decide +kernel, by decide, rfl, ⟨rfl, by decide⟩, by decide, rfl, by decide, by decide,
    fun _ (h : Frame.Commands ownNumber 4 _) => (nomatch h.body), rfl, ⟨rfl, rfl, rfl, rfl, nofun⟩, by decide +kernel,
    by decide, ⟨rfl, by decide⟩, by decide, by decide, by decide⟩

/-- An engine that takes frames takes the one at the front of its inbound queue. -/
theorem takes (x : Lane) (f : Frame) : (taking (engine x) f).Takes f [] :=
  ⟨rfl, rfl, rfl⟩

/-- A COMMAND of a code. -/
theorem commands (code : BitVec 8) (n : Nat) (h : commandCode (command code 0) = n) :
    Frame.Commands (command code 0) n (commandBody 0) :=
  ⟨rfl, h⟩

/-- The engine with a CUT at the front of its inbound queue, a cut record, and lane 0. -/
def cutting (f : Frame) (cut : CutRecord) (x : Lane) : State :=
  { taking (engine x) f with mq.cut := cut }

/-- CUTs at the start, just inside on both sides, and at the end; the lane's time at the cut; the engine's own CUT,
forced and not, with the full queue of its PENDING record; another station's CUT that leaves every lane finished, one
that does not, and one before a CUT of the engine's own; a TAKEN record; an ABSENT one with and without a full queue;
and SEEKING in a checkpoint load and in a silent replay that a lane keeps from ending. -/
theorem witness_CutsAreAdoptedInsideTheWindow :
    let f := frame 3612344494 .cut
    let own : Frame := { f with station := 7 }
    let s := cutting f .absent lane
    let forced := { cutting own (.pending 3612344494 (some 0)) (stalled 3612344494) with
      mq.entries := (List.range 256).map (entry 3612344000) }
    let seek := { checking (partRead 0 0 0 none) with biu.inbound := [f] }
    let silent := { seekingTo lane 3612344573 with biu.inbound := [f] }
    s.Takes f [] ∧ f.body = .cut ∧ 3612344494 = f.key.toNat ∧ s.rc.mode = .running ∧ s.pu.phase = .gather ∧
      (∀ l, (s.lane l).state = .passed → s.pu.windowEnd ≤ (s.lane l).clock.lastCorrected) ∧
      (s.pu.windowStart < (3612344001#40).toNat ∧ (3612344999#40).toNat < s.pu.windowEnd) ∧
      (¬s.pu.windowStart < (3612344000#40).toNat ∧ ¬(3612345000#40).toNat < s.pu.windowEnd) ∧
      ((s.lane 0).state = .ready ∧ 3612344494 ≤ (s.lane 0).clock.lastCorrected ∧
        ¬3612344495 ≤ (s.lane 0).clock.lastCorrected) ∧
      (forced.Takes own [] ∧ own.body = .cut ∧ own.station = forced.straps.station ∧
        forced.mq.cut = .pending 3612344494 (some 0) ∧ 256 ≤ forced.mq.entries.length ∧
        (forced.lane 0).state = .stalled) ∧
      ((cutting own (.pending 3612344494 none) lane).mq.cut = .pending 3612344494 none ∧
        f.station ≠ s.straps.station ∧ (cutting f .taken lane).mq.cut = .taken) ∧
      (s.mq.cut = .absent ∧ s.mq.entries.length < 256 ∧ (∀ g ∈ [f], g.body = .cut → g.station ≠ s.straps.station) ∧
        ¬∀ g ∈ [own], g.body = .cut → g.station ≠ s.straps.station) ∧
      (seek.Takes f [] ∧ seek.rc.mode = .seeking ∧ seek.afu.checkpoint ≠ none ∧ seek.pu.windowStart < 3612344494) ∧
      (silent.Takes f [] ∧ silent.rc.mode = .seeking ∧ (silent.lane 1).state = .ready ∧
        (silent.lane 1).silent = none ∧ (silent.lane 1).clock.lastCorrected < silent.rc.seekTime) ∧
      { silent with pu.windowStart := 3612344573 }.rc.seekTime ≤ 3612344573 ∧
      ({ cutting own (.pending 3612344494 none) lane with afu := (reading lane true).afu }.Takes own [] ∧
        { cutting own (.pending 3612344494 none) lane with afu := (reading lane true).afu }.LaneReadOutstanding) :=
  ⟨takes lane _, rfl, by decide, rfl, rfl, by decide, by decide, by decide, by decide,
    ⟨⟨rfl, rfl, rfl⟩, rfl, rfl, rfl, by decide +kernel, rfl⟩, ⟨rfl, by decide, rfl⟩,
    ⟨rfl, by decide, by decide, by decide⟩,
    ⟨⟨rfl, rfl, rfl⟩, rfl, nofun, by decide⟩, ⟨⟨rfl, rfl, rfl⟩, rfl, rfl, rfl, by decide⟩, by decide,
    ⟨rfl, rfl, rfl⟩, _, 0, rfl, rfl⟩

theorem witness_EventFramesAreAppliedToTheDeviceTable :
    let f := frame 9000000212 (.event { eventBody with device := 5120 })
    let s := taking (emitting lane []) f
    s.Takes f [] ∧ f.body = .event { eventBody with device := 5120 } ∧
      ({ eventBody with device := 5120 } : EventBody).kind.toNat = EventKind.opened.code ∧ s.rc.mode = .running ∧
      s.pu.phase ≠ .gather ∧ s.dst.devices[0]? = some device ∧ device.number = 5120 ∧ eventBody.device ≠ 5120 ∧
      eventBody.duplicate = false ∧ (engine lane).pu.phase = .gather ∧ device.position ≠ .unknown ∧
      device.operations = 41 :=
  ⟨⟨rfl, rfl, rfl⟩, rfl, rfl, rfl, nofun, rfl, rfl, by decide, rfl, rfl, nofun, rfl⟩

/-- The greatest time below NONE, and a budget at its last epoch; and lanes PASSED with released records, of which the
queue has room for one, and a lane without one that stays PASSED. -/
theorem witness_NextClosesTheEpoch :
    let f := frame 1099511627774 .next
    let s := taking { emitting lane [] with pu.budget := .epochs 1 } f
    let passed := { waitingRecord with state := .passed }
    let w := { taking (emitting lane ((List.range 255).map (entry 3612344000))) (frame 3612345000 .next) with
      afu.lanes := ((emitting lane []).afu.lanes.set 1 passed).set 2 passed }
    s.Takes f [] ∧ f.body = .next ∧ f.key.toNat ≠ 1099511627775 ∧ s.rc.mode = .running ∧ s.pu.phase ≠ .gather ∧
      1099511627774 = min (max s.pu.windowEnd f.key.toNat) 1099511627774 ∧
      1099511627775 = min (1099511627774 + s.pu.span) 1099511627775 ∧
      (w.Takes (frame 3612345000 .next) [] ∧ w.rc.mode = .running ∧ w.pu.phase ≠ .gather ∧
        3612345000 = min (max w.pu.windowEnd (frame 3612345000 .next).key.toNat) 1099511627774 ∧
        3612346000 = min (3612345000 + w.pu.span) 1099511627775) ∧
      ((w.lane 1).held = some (.released (clock.correct 5120 .opened 3612345678 1)) ∧
        (w.resumed 3612345000 3612346000 1).map Entry.time = some 3612345000 ∧
        (w.resumed 3612345000 3612346000 2).map Entry.lane = some 2 ∧
        (w.resumedEntries 3612345000 3612346000).map Entry.lane = [1]) ∧
      w.resumed 3612345000 3612346000 0 = none ∧ (w.lane 0).state = .passed :=
  ⟨⟨rfl, rfl, rfl⟩, rfl, by decide, rfl, by decide, by decide, by decide,
    ⟨⟨rfl, rfl, rfl⟩, rfl, nofun, by decide, by decide⟩, ⟨rfl, by decide, by decide, by decide +kernel⟩, rfl, rfl⟩

theorem witness_NextNoneEndsTheHistory :
    let f := frame 1099511627775 .next
    (taking (emitting lane []) f).Takes f [] ∧ f.body = .next ∧ (emitting lane []).rc.mode = .running ∧
      (emitting lane []).pu.phase ≠ .gather ∧ f.key.toNat = 1099511627775 ∧ (engine lane).pu.phase = .gather ∧
      (taking (engine lane) f).Takes f [] :=
  ⟨⟨rfl, rfl, rfl⟩, rfl, rfl, nofun, by decide, rfl, takes lane _⟩

theorem witness_ReportsAndUndefinedCommandsAreDropped :
    (taking (engine lane) (frame 0 (.status statusBody))).Takes (frame 0 (.status statusBody)) [] ∧
      (frame 0 (.status statusBody)).body.classCode = 6#3 ∧
      (taking (engine lane) (command 11 0)).Takes (command 11 0) [] ∧
      Frame.Commands (command 11 0) 11 (commandBody 0) ∧ Frame.Commands (command 0 0) 0 (commandBody 0) :=
  ⟨takes lane _, rfl, takes lane _, commands 11 11 (by decide), commands 0 0 (by decide)⟩

/-- STEP of 0 is taken as 1, and STEP of 256 as 255. -/
theorem witness_RunStepAndPauseActByMode :
    (taking (engine lane) (command 1 0)).Takes (command 1 0) [] ∧ Frame.Commands (command 1 0) 1 (commandBody 0) ∧
      Frame.Commands (command 2 0) 2 (commandBody 0) ∧ Frame.Commands (command 3 0) 3 (commandBody 0) ∧
      1 = max 1 (min 255 (0#40).toNat) ∧ 255 = max 1 (min 255 (256#40).toNat) ∧ (engine lane).rc.mode = .running ∧
      (engine lane).pu.phase = .gather ∧ (emitting lane []).pu.phase ≠ .gather :=
  ⟨takes lane _, commands 1 1 (by decide), commands 2 2 (by decide), commands 3 3 (by decide), by decide, by decide, rfl,
    rfl, nofun⟩

/-- The seek of section 1.4.4, and one below every directory entry. -/
theorem witness_SeekSetsTheBlocksAndReadsTheCheckpoint :
    (taking (engine lane) seekFrame).Takes seekFrame [] ∧ Frame.Commands seekFrame 4 (commandBody 3612344000) ∧
      3612344000 = min (3612344000#40).toNat 1099511627774 ∧
      (taking (engine lane) seekFrame).afu.directory =
        [⟨3612000000, 1000⟩] ++ ⟨3612340000, 2000⟩ :: [⟨3612400000, 3000⟩] ∧
      3612340000 ≤ 3612344000 ∧ (∀ x ∈ [DirEntry.mk 3612400000 3000], 3612344000 < x.time) ∧
      ((taking (engine lane) (command 4 3611999999)).Takes (command 4 3611999999) [] ∧
        Frame.Commands (command 4 3611999999) 4 (commandBody 3611999999) ∧
        3611999999 = min (3611999999#40).toNat 1099511627774 ∧
        (∀ x ∈ (engine lane).afu.directory, 3611999999 < x.time) ∧
        ∀ l, ((engine lane).lane l).state = .disabled →
          ((engine lane).lane l).held = none ∧ ((engine lane).lane l).silent = none) :=
  ⟨takes lane _, ⟨rfl, by decide⟩, by decide, rfl, by decide, by decide, takes lane _, ⟨rfl, by decide⟩, by decide,
    by decide, by decide⟩

theorem witness_HaltStopsTheReplay :
    (taking (engine lane) (command 5 0)).Takes (command 5 0) [] ∧ Frame.Commands (command 5 0) 5 (commandBody 0) ∧
      (engine lane).rc.mode ≠ .standby ∧ (receiving .standby).rc.mode = .standby :=
  ⟨takes lane _, commands 5 5 (by decide), nofun, rfl⟩

/-- Spans of 9 and 1,000,001 µs, and device numbers 5120 and 65,535. -/
theorem witness_EpochRateQueryAndPollSetWhatTheyName :
    (taking (engine lane) (command 6 9)).Takes (command 6 9) [] ∧
      Frame.Commands (command 6 9) 6 (commandBody 9) ∧ Frame.Commands (command 6 1000001) 6 (commandBody 1000001) ∧
      Frame.Commands (command 7 256) 7 (commandBody 256) ∧ Frame.Commands (command 9 5120) 9 (commandBody 5120) ∧
      (engine lane).dst.find (BitVec.ofNat 16 (5120#40).toNat) = some device ∧ device.role = .owned ∧
      (65534#40).toNat ≤ 65534 ∧ device.number ∉ (engine lane).dst.replies ∧ 65534 < (65535#40).toNat ∧
      (engine lane).dst.find 4711 = none ∧ Frame.Commands (command 10 0) 10 (commandBody 0) ∧
      (commandBody 0).station.toNat = 63 ∧ (receiving .loading).rc.mode = .loading ∧ faulted.rc.mode = .faulted :=
  ⟨takes lane _, ⟨rfl, by decide⟩, ⟨rfl, by decide⟩, ⟨rfl, by decide⟩, ⟨rfl, by decide⟩, by decide, rfl, by decide,
    by decide, by decide, by decide, commands 10 10 (by decide), rfl, rfl, rfl⟩

/-- The RELEASE of the tests is a RELEASE. -/
theorem releases (action : BitVec 2) :
    Frame.Commands (releaseFrame action) 8 { station := 7, lane := 0, action := action, numeric := 0 } :=
  ⟨rfl, (by decide : commandCode (releaseFrame 0) = 8)⟩

/-- SKIP of a group 3 trap; APPLY of a trapped slot, of a group 3 event, of a mark, and of a group 2 event: with its
device held, an entry free and the queue full, and with the device not held, under HOLD and under PASS. -/
theorem witness_ReleaseOfAFetchTrapPassesTheSlot :
    let s := taking (engine (trapped 3)) (releaseFrame 0)
    let apply (x : Lane) := taking (engine x) (releaseFrame 1)
    let slot : Lane := { trapped 1 with held := some .slot }
    let marked : Lane := { trapped 2 with held := some (.mark 3660000000 3659999152) }
    let known : Lane := { trapped 2 with held := some (.event (clock.correct 5120 .closed 3612345599 1)) }
    let passing : Lane := { trapped 2 with mask := lane.mask }
    let unknown : AnomalySet := { unknownDevice := true }
    (s.Takes (releaseFrame 0) [] ∧
      Frame.Commands (releaseFrame 0) 8 { station := 7, lane := 0, action := 0, numeric := 0 } ∧
      Frame.Commands (releaseFrame 1) 8 { station := 7, lane := 0, action := 1, numeric := 0 } ∧
      (7#6).toNat = s.straps.station.toNat ∧ (0#4).toFin = 0 ∧ s.rc.mode ≠ .seeking) ∧
      (∀ x, (apply x).Takes (releaseFrame 1) [] ∧ (apply x).lane 0 = x ∧ (apply x).rc.mode ≠ .seeking) ∧
      (s.lane 0 = trapped 3 ∧ (trapped 3).state = .trapped ∧ (trapped 3).trap = some (.fetch 3) ∧
        (trapped 3).held = some (.event (clock.correct 2210 .closed 3612345599 1)) ∧ 3 ≠ 2) ∧
      (slot.state = .trapped ∧ slot.trap = some (.fetch 1) ∧ slot.held = some .slot) ∧
      (marked.state = .trapped ∧ marked.trap = some (.fetch 2) ∧ marked.held = some (.mark 3660000000 3659999152)) ∧
      (known.state = .trapped ∧ known.trap = some (.fetch 2) ∧
        known.held = some (.event (clock.correct 5120 .closed 3612345599 1)) ∧
        decide (∀ dev ∈ (apply known).dst.devices, dev.number ≠ 5120) = false ∧ (apply known).dst.ranges = [] ∧
        (apply known).mq.entries.length < 256 ∧ 256 ≤ (full lane).mq.entries.length) ∧
      ((trapped 2).state = .trapped ∧ (trapped 2).trap = some (.fetch 2) ∧ (trapped 2).mask.group3 = .hold ∧
        unknown.unknownDevice = decide (∀ dev ∈ (apply (trapped 2)).dst.devices, dev.number ≠ 2210)) ∧
      passing.state = .trapped ∧ passing.trap = some (.fetch 2) ∧ passing.mask.group3 = .pass :=
  ⟨⟨takes _ _, releases 0, releases 1, by decide, rfl, nofun⟩, fun x => ⟨takes _ _, rfl, nofun⟩,
    ⟨rfl, rfl, rfl, rfl, by decide⟩, ⟨rfl, rfl, rfl⟩, ⟨rfl, rfl, rfl⟩,
    ⟨rfl, rfl, rfl, by decide, rfl, by decide, by decide +kernel⟩, ⟨rfl, rfl, rfl, by decide⟩, rfl, rfl, rfl⟩

/-- Lane 0 trapped at winning with its entry at the head, alone and beside STALLED lanes with released records, its entry
the only one and one of 257; and an action that is not defined. -/
theorem witness_ReleaseOfAWinningTrapFreesTheLane :
    let x := { holding with state := .trapped, trap := some (.winning winner.key .passed) }
    let s := taking { engine x with mq.entries := [winner] } (releaseFrame 1)
    let w := withStalled s
    let rest := s.mq.entries.filter fun e => e.key ≠ winner.key
    s.Takes (releaseFrame 1) [] ∧ w.Takes (releaseFrame 1) [] ∧
      Frame.Commands (releaseFrame 1) 8 { station := 7, lane := 0, action := 1, numeric := 0 } ∧
      Frame.Commands (releaseFrame 0) 8 { station := 7, lane := 0, action := 0, numeric := 0 } ∧
      (7#6).toNat = s.straps.station.toNat ∧ s.rc.mode ≠ .seeking ∧ (s.lane 0).state = .trapped ∧
      (s.lane 0).trap = some (.winning winner.key .passed) ∧ (∃ e ∈ s.mq.entries, e.key = winner.key) ∧
      (∀ l e, (s.lane l).state = .stalled → (s.lane l).held ≠ some (.released e)) ∧
      ((w.lane 0).state = .trapped ∧ (w.lane 0).trap = some (.winning winner.key .passed) ∧
        (w.lane 1).state = .stalled ∧ (w.lane 1).held = none ∧ (w.lane 2).state = .stalled ∧
        (w.lane 2).held = some (.released (clock.correct 5120 .opened 3612345678 1)) ∧ rest.length < 256 ∧
        (∀ l, l < 2 → (w.lane l).releasedRecord = none) ∧ (w.lane 4).state ≠ .stalled) ∧
      256 ≤ ((winner :: List.replicate 256 (entry 3612344999 9)).filter fun e => e.key ≠ winner.key).length ∧
      (1#2).toNat ≤ 1 ∧ 1 < (2#2).toNat ∧ (8#6).toNat ≠ s.straps.station.toNat ∧
      ((engine lane).lane 0).state ≠ .trapped :=
  ⟨⟨rfl, rfl, rfl⟩, ⟨rfl, rfl, rfl⟩, releases 1, releases 0, by decide, nofun, rfl, rfl,
    ⟨winner, List.mem_singleton.mpr rfl, rfl⟩,
    fun l e h => absurd h ((by decide : ∀ l, ((engine
      { holding with state := .trapped, trap := some (.winning winner.key .passed) }).lane l).state ≠ .stalled) l),
    ⟨rfl, rfl, rfl, rfl, rfl, rfl, by decide, by decide, nofun⟩, by decide +kernel, by decide, by decide, by decide,
    nofun⟩

theorem witness_TimebaseFollowsTheReference :
    (engine lane).inReset = false ∧ (engine lane).pu.timebase = .internal ∧
      { engine lane with pu.timebase := .reference }.pu.timebase = .reference := by decide

/-- Halves: −273,437.5 and 1,900.5 go away from zero, and −38,359.5 toward it when so rounded (section 3.5). A value
below the range, above it, and at its limit. -/
theorem witness_QuotientsAreRoundedAsR46Says :
    (-500000 : Int) ≤ 500000 ∧ (-500001 : Int) < -500000 ∧ (500000 : Int) < 500001 ∧ 0 < 12800000 ∧
      divNearest (-3500000000000) 12800000 = -273438 ∧ divNearest 1900500000000 1000000000 = 1901 ∧
      divTowardZero (-153438) 4 = -38359 := by
  decide

/-! A state that satisfies every invariant, with two entries queued, and a command waiting. -/

/-- The engine with two entries of lane 0 queued, in GATHER, and a visit to come. -/
def steady : State :=
  { engine lane with mq.entries := [entry 3612344100 0, entry 3612344200 1], pending := [.laneVisitStart] }

theorem steady_lane (l : Fin 16) : steady.lane l = lane ∨ steady.lane l = Lane.disabled := by
  revert l; decide

theorem steady_answers : ∃ t, step steady = .next t := ⟨_, rfl⟩

theorem witness_StepKeepsTheBoundsAndTheWindow :
    steady.WithinBounds ∧ steady.WindowSound ∧ ∃ t, step steady = .next t :=
  ⟨⟨by decide, by decide, by decide, by decide, by decide, by decide, by decide⟩,
    ⟨by decide, by decide, by decide, by decide, by decide⟩, steady_answers⟩

theorem steady_port : steady.PortSound :=
  ⟨nofun, nofun, nofun, nofun, nofun, ⟨by decide, fun _ => rfl⟩, nofun, nofun, nofun⟩

theorem steady_line : steady.HoldLineSound :=
  ⟨⟨fun _ => .inr (.inr (.inl ⟨rfl, rfl, .inr (.inl (by
      rintro (h | h)
      · rcases h 0 with h | h | h | h <;> exact absurd h (by decide)
      · exact absurd h (by decide)))⟩)), fun _ => rfl⟩, fun _ => rfl⟩

/-- The engine, its own cut TAKEN, with lane 0's last read outstanding. -/
def ceased : State :=
  { reading lane true with
    mq.cut := .taken, afu.visitEnding := true, pu.closePulse := true, pending := [.discardedAnswer] }

/-- Without a read outstanding, and with a lane's that is to be its visit's last. -/
theorem witness_StepKeepsThePortAndTheHoldLine :
    (steady.PortSound ∧ steady.HoldLineSound ∧ ∃ t, step steady = .next t) ∧
      ceased.PortSound ∧ ceased.HoldLineSound ∧ ceased.afu.visitEnding = true ∧ ∃ t, step ceased = .next t :=
  ⟨⟨steady_port, steady_line, steady_answers⟩,
    ⟨nofun, nofun, nofun, nofun,
      fun r l h hl => by cases h; cases hl; exact ⟨rfl, .inr (.inr (.inl rfl))⟩,
      ⟨by decide, nofun⟩, fun _ _ _ _ => .inr rfl, fun _ => ⟨_, 0, rfl, rfl⟩, nofun⟩,
    ⟨⟨fun _ => .inr (.inr (.inl ⟨rfl, rfl, .inl rfl⟩)), fun _ => rfl⟩, fun _ => rfl⟩, rfl, _, rfl⟩

theorem steady_queue : steady.QueueOrdered :=
  ⟨by decide, by decide, by decide⟩

theorem witness_StepKeepsTheMergeQueueOrdered : steady.QueueOrdered ∧ ∃ t, step steady = .next t :=
  ⟨steady_queue, steady_answers⟩

theorem witness_StepKeepsTheDeviceTableSound : steady.TableSound ∧ ∃ t, step steady = .next t :=
  ⟨⟨⟨by decide, by decide, fun d hd => by
      obtain rfl : d = device := List.mem_singleton.mp hd
      exact ⟨by decide, by decide, by decide⟩⟩, by decide, nofun, nofun⟩, steady_answers⟩

theorem steady_traps : steady.TrapsSound := by
  refine ⟨fun l => ?_, by decide⟩
  rcases steady_lane l with h | h <;> rw [h]
  · exact ⟨by decide, nofun, nofun, fun _ => .inl rfl⟩
  · exact ⟨by decide, nofun, nofun, fun _ => .inl rfl⟩

theorem witness_StepKeepsTheTrapsSound : steady.PortSound ∧ steady.TrapsSound ∧ ∃ t, step steady = .next t :=
  ⟨steady_port, steady_traps, steady_answers⟩

theorem steady_reads : steady.ReadsSound := by
  refine ⟨nofun, fun l => ?_, fun _ l => ?_, by decide, by decide, nofun, nofun, nofun⟩
  · rcases steady_lane l with h | h <;> rw [h] <;> decide
  · rcases steady_lane l with h | h <;> rw [h]
    · exact ⟨by decide, by decide, nofun, nofun⟩
    · exact ⟨by decide, by decide, nofun, nofun⟩

theorem witness_StepIssuesNoReadOutsideTheArchive :
    steady.PortSound ∧ steady.HoldLineSound ∧ steady.QueueOrdered ∧ steady.TrapsSound ∧ steady.ReadsSound ∧
      ∃ t, step steady = .next t :=
  ⟨steady_port, steady_line, steady_queue, steady_traps, steady_reads, steady_answers⟩

theorem witness_FaultedLastsUntilAReset :
    faulted.inReset = false ∧ faulted.rc.mode = .faulted ∧ faulted.rc.load = none ∧ faulted.afu.request = none ∧
      faulted.afu.checkpoint = none ∧ faulted.biu.inbound = [] ∧ (∀ l, faulted.lane l = Lane.disabled) ∧
      Instr.openCondition .recessive ≠ .powerOnReset ∧ Instr.openCondition .recessive ≠ .pinReset ∧
      ∃ t, exec (.openCondition .recessive) faulted = .next t :=
  ⟨rfl, rfl, rfl, rfl, rfl, rfl, by decide, nofun, nofun, _, rfl⟩

end Sys2Proof.Tests
end

section
/-! PROOFS. What a command can make of the state, said once: every command leaves the state as it was, resets it, ends a
reset, or has one of the effects below. The invariants of the step are proved effect by effect. -/

namespace Sys2Proof.Machine

/-- The frame at the front of the inbound queue is taken outside a reset, in a mode that takes frames (R93, R95). -/
theorem State.frontFrame_eq_some {s : State} {f : Frame} :
    s.frontFrame = some f ↔ s.inReset = false ∧ s.rc.mode.takesFrames = true ∧ s.biu.inbound.head? = some f := by
  unfold State.frontFrame
  cases s.inReset <;> cases s.rc.mode.takesFrames <;> simp

/-- A COMMAND of a code is taken from the front of the inbound queue (R156). -/
theorem State.frontCommand_eq_some {s : State} {code : Nat} {a : CommandBody} :
    s.frontCommand code = some a ↔ ∃ f, s.frontFrame = some f ∧ f.body = .command a ∧ commandCode f = code := by
  unfold State.frontCommand
  cases s.frontFrame with
  | none => simp
  | some f => cases hb : f.body <;> simp [hb, and_comm]

/-- What a command can make of a state outside a reset, where it changes anything: one case for each outcome that the
commands' meanings distinguish, with the conditions under which it comes about. -/
inductive State.Effect (s : State) : State → Prop
  /-- Words of an answer that is not yet whole are kept (R171). -/
  | words (ws : List (BitVec 32)) : s.afu.request.isSome = true → ws.length < 8 →
      s.Effect { s with afu.words := ws }
  | loadAnswer (n : Nat) (retry : Bool) (p : LoadProgress) (d : Slot) :
      s.afu.request = some { owner := .load, slot := n, retry := retry } → s.rc.load = some p →
      s.Effect (s.loadAnswer p d).refreshDrive
  | retry (r : Request) : s.afu.request = some r → s.Effect (s.issueRead r.owner r.slot true)
  | readFailed (r : Request) : s.afu.request = some r → s.Effect (s.readFailed r.owner).settle
  | visit (l : Fin 16) : s.visitsAllowed = true → s.afu.request = none → (s.lane l).state = .ready →
      s.Effect (s.beginVisit l)
  | laneAnswer (l : Fin 16) (n : Nat) (retry : Bool) (d : Slot) :
      s.afu.request = some { owner := .lane l, slot := n, retry := retry } →
      s.Effect (((s.answerTaken l).takeSlot l d).continueVisit l).settle
  | checkpointAnswer (n : Nat) (retry : Bool) (c : CheckpointLoad) (d : Slot) :
      s.afu.request = some { owner := .checkpoint, slot := n, retry := retry } → s.afu.checkpoint = some c →
      s.Effect (s.checkpointAnswer c d).settle
  /-- The bus state moves on, with the outbound frame kept or given up. -/
  | bus (b : BusState) (o : Option Outbound) (x : Bool) : o = s.biu.outbound ∨ o = none →
      s.Effect { s with biu.state := b, biu.outbound := o, biu.discarding := x }
  | opened (line : Level) : s.Effect (s.readAtOpen line).beginAttempt.refreshDrive
  | stretchEnds (o : Outbound) (line : Level) : s.biu.outbound = some o → s.Effect (s.endStretch o line).refreshDrive
  | attemptFails : s.Effect s.busIdle.failAttempt.refreshDrive
  | ownAccepted (o : Outbound) : s.biu.outbound = some o → s.Effect (s.ownAccepted o).settle
  | heardAccepted (h : HeardFrame) : s.Effect (s.heardAccepted h).settle
  | heardVetoed (h : HeardFrame) : s.Effect (s.heardVetoed h).refreshDrive
  | dropped (f : Frame) : s.frontFrame = some f → f.body ≠ .next → s.Effect s.popInbound
  | cut (f : Frame) : s.frontFrame = some f → f.body = .cut → s.Effect (s.popInbound.takeCut f).settle
  | event (f : Frame) (e : EventBody) : s.frontFrame = some f → f.body = .event e → s.inEmit = true →
      s.Effect { s.popInbound with dst := s.dst.applyFrame s.straps.station f e }
  | historyEnds (f : Frame) : s.frontFrame = some f → f.body = .next → s.inEmit = true →
      s.Effect s.popInbound.endHistory.settle
  | epochCloses (f : Frame) : s.frontFrame = some f → f.body = .next → s.inEmit = true →
      s.Effect (s.popInbound.closeEpoch f.key.toNat).settle
  | nextIgnored (f : Frame) : s.frontFrame = some f → s.Effect s.popInbound.refreshDrive
  | closePulseEnds : s.Effect { s with pu.closePulse := false }.refreshDrive
  | timerSet (n : Nat) : n ≤ max s.pu.paceTimer Config.maxPaceTimer →
      s.Effect { s with pu.paceTimer := n }.refreshDrive
  | rises : s.Effect s.rise.refreshDrive
  | suspends : s.Effect (s.suspendOn .dominant).refreshDrive
  | timebase (b : Timebase) : s.Effect { s with pu.timebase := b }.placeStatus
  | run (f : Frame) : s.frontFrame = some f → s.Effect s.popInbound.doRun.refreshDrive
  | pause (f : Frame) : s.frontFrame = some f → s.Effect s.popInbound.doPause.refreshDrive
  | step (f : Frame) (a : CommandBody) : s.frontFrame = some f → s.Effect (s.popInbound.doStep (stepArg a)).refreshDrive
  | seek (f : Frame) (a : CommandBody) : s.frontFrame = some f → s.Effect (s.popInbound.beginSeek (seekArg a)).settle
  | halt (f : Frame) : s.frontFrame = some f → s.Effect s.popInbound.haltBlocks.refreshDrive
  | epoch (f : Frame) (a : CommandBody) : s.frontFrame = some f → f.body = .command a →
      s.Effect { s.popInbound with pu.span := epochArg a }
  | rate (f : Frame) (a : CommandBody) : s.frontFrame = some f →
      s.Effect { s.popInbound with pu.pace := rateArg a }.refreshDrive
  | release (f : Frame) (l : Fin 16) (action : ReleaseAction) : s.frontFrame = some f → (s.lane l).state = .trapped →
      s.Effect (s.popInbound.releaseLane l action).settle
  | query (f : Frame) (a : CommandBody) (n : Nat) : s.frontFrame = some f → f.body = .command a →
      s.Effect { s.popInbound with dst := s.dst.query n }
  | poll (f : Frame) (a : CommandBody) : s.frontFrame = some f → f.body = .command a →
      s.Effect s.popInbound.placeStatus

/-- The state stands as it was, or outside a reset an effect has come about. -/
def State.Moves (s t : State) : Prop :=
  t = s ∨ s.inReset = false ∧ s.Effect t

/-- A command that a reset holds back moves the state as its effect does. -/
theorem State.moves_of_whenLive {s t : State} {f : State → State} (h : s.whenLive f = .next t)
    (hf : f s = s ∨ s.Effect (f s)) : s.Moves t := by
  rcases State.whenLive_next h with ⟨-, rfl⟩ | ⟨hr, rfl⟩
  · exact .inl rfl
  · exact hf.imp id fun hf => ⟨hr, hf⟩

/-- Words on the port are kept while the answer is not whole, and handed on once it is (R171). -/
theorem State.effect_of_takeWords {s : State} {words : List PortWord} {handOn : Slot → State}
    (hr : s.afu.request.isSome = true) (h : ∀ d, s.Effect (handOn d)) : s.Effect (s.takeWords words handOn) := by
  unfold State.takeWords
  split
  · exact .words _ hr ‹_›
  · exact h _

/-- An effect on the bus state alone. -/
theorem State.effect_busIdle (s : State) : s.Effect s.busIdle :=
  .bus .idle none s.biu.discarding (.inr rfl)

theorem State.endJoin_moves (s : State) : s.endJoin = s ∨ s.Effect s.endJoin := by
  unfold State.endJoin
  split
  · exact .inr (.bus .idle s.biu.outbound s.biu.discarding (.inl rfl))
  all_goals exact .inl rfl

theorem execLoadSlotAnswer_moves {words : List PortWord} {s t : State} (h : execLoadSlotAnswer words s = .next t) :
    s.Moves t := by
  refine State.moves_of_whenLive h ?_
  split
  · rename_i n r p hr hp
    exact .inr (State.effect_of_takeWords (by simp [hr]) fun d => .loadAnswer n r p d hr hp)
  · exact .inl rfl

theorem execArchiveReadTimeout_moves {s t : State} (h : execArchiveReadTimeout s = .next t) : s.Moves t := by
  refine State.moves_of_whenLive h ?_
  split
  · exact .inl rfl
  · rename_i r hr
    split
    · exact .inr (.readFailed r hr)
    · exact .inr (.retry r hr)

/-- The lane that a search chooses is READY and holds no silent event (R25). -/
theorem State.chooseLane_ready {s : State} {l : Fin 16} (h : s.chooseLane = some l) :
    (s.lane l).state = .ready ∧ (s.lane l).silent = none := by
  simpa using List.find?_some h

theorem execLaneVisitStart_moves {s t : State} (h : execLaneVisitStart s = .next t) : s.Moves t := by
  refine State.moves_of_whenLive h ?_
  split
  · rename_i hv
    simp only [Bool.and_eq_true, Option.isNone_iff_eq_none] at hv
    split
    · exact .inr (.visit _ hv.1 hv.2 (State.chooseLane_ready ‹_›).1)
    · exact .inl rfl
  · exact .inl rfl

theorem execLaneSlotAnswer_moves {words : List PortWord} {s t : State} (h : execLaneSlotAnswer words s = .next t) :
    s.Moves t := by
  refine State.moves_of_whenLive h ?_
  split
  · rename_i l n r hr
    exact .inr (State.effect_of_takeWords (by simp [hr]) fun d => .laneAnswer l n r d hr)
  · exact .inl rfl

theorem execCheckpointSlotAnswer_moves {words : List PortWord} {s t : State}
    (h : execCheckpointSlotAnswer words s = .next t) : s.Moves t := by
  refine State.moves_of_whenLive h ?_
  split
  · rename_i n r c hr hc
    exact .inr (State.effect_of_takeWords (by simp [hr]) fun d => .checkpointAnswer n r c d hr hc)
  · exact .inl rfl

theorem execOpenCondition_moves {line : Level} {s t : State} (h : execOpenCondition line s = .next t) : s.Moves t := by
  refine State.moves_of_whenLive h ?_
  split
  · exact .inr (.opened line)
  all_goals exact .inl rfl

theorem execArbitrationComplete_moves {others : Option ArbField} {s t : State}
    (h : execArbitrationComplete others s = .next t) : s.Moves t := by
  refine State.moves_of_whenLive h ?_
  split
  · split
    · exact .inl rfl
    · split
      · exact .inr (.bus _ s.biu.outbound s.biu.discarding (.inl rfl))
      · exact .inr (.bus .receiving none (invalidField others) (.inr rfl))
  · exact .inr (.bus s.biu.state s.biu.outbound (invalidField others) (.inl rfl))
  all_goals exact .inl rfl

theorem execStretchEnd_moves {line : Level} {s t : State} (h : execStretchEnd line s = .next t) : s.Moves t := by
  refine State.moves_of_whenLive h ?_
  split
  · exact .inr (.stretchEnds _ line ‹_›)
  · exact .inl rfl

theorem execBitError_moves {s t : State} (h : execBitError s = .next t) : s.Moves t := by
  refine State.moves_of_whenLive h ?_
  split
  · exact .inr .attemptFails
  all_goals exact .inl rfl

theorem execAbortConditionHeard_moves {s t : State} (h : execAbortConditionHeard s = .next t) : s.Moves t := by
  refine State.moves_of_whenLive h ?_
  split
  · exact .inr .attemptFails
  · exact .inr s.effect_busIdle
  · exact .inr s.effect_busIdle
  · exact .inr s.effect_busIdle
  · exact s.endJoin_moves
  all_goals exact .inl rfl

theorem execBusAbandonTimeout_moves {s t : State} (h : execBusAbandonTimeout s = .next t) : s.Moves t := by
  refine State.moves_of_whenLive h ?_
  split
  · exact .inr .attemptFails
  · exact .inr .attemptFails
  · exact .inr s.effect_busIdle
  · exact .inr s.effect_busIdle
  all_goals exact .inl rfl

theorem execFrameAccepted_moves {heard : HeardFrame} {s t : State} (h : execFrameAccepted heard s = .next t) :
    s.Moves t := by
  refine State.moves_of_whenLive h ?_
  split
  · exact .inr (.ownAccepted _ ‹_›)
  · exact .inr (.ownAccepted _ ‹_›)
  · exact .inr (.heardAccepted heard)
  · exact .inr (.heardAccepted heard)
  · exact s.endJoin_moves
  all_goals exact .inl rfl

theorem execFrameVetoed_moves {heard : HeardFrame} {s t : State} (h : execFrameVetoed heard s = .next t) :
    s.Moves t := by
  refine State.moves_of_whenLive h ?_
  split
  · exact .inr s.effect_busIdle
  · exact .inr s.effect_busIdle
  · exact .inr (.heardVetoed heard)
  · exact .inr (.heardVetoed heard)
  · exact s.endJoin_moves
  all_goals exact .inl rfl

theorem execUnacceptedFrameClose_moves {s t : State} (h : execUnacceptedFrameClose s = .next t) : s.Moves t := by
  refine State.moves_of_whenLive h ?_
  split
  · exact .inr s.effect_busIdle
  · exact .inr s.effect_busIdle
  · exact .inr s.effect_busIdle
  · exact s.endJoin_moves
  all_goals exact .inl rfl

theorem execCutTaken_moves {s t : State} (h : execCutTaken s = .next t) : s.Moves t := by
  refine State.moves_of_whenLive h ?_
  split
  · exact .inl rfl
  · split
    · exact .inr (.cut _ ‹_› ‹_›)
    all_goals exact .inl rfl

theorem execEventTaken_moves {s t : State} (h : execEventTaken s = .next t) : s.Moves t := by
  refine State.moves_of_whenLive h ?_
  split
  · exact .inl rfl
  · rename_i f hf
    split
    · rename_i e he
      split
      · exact .inr (.event f e hf he ‹_›)
      · exact .inr (.dropped f hf (by simp [he]))
    all_goals exact .inl rfl

theorem execNextTaken_moves {s t : State} (h : execNextTaken s = .next t) : s.Moves t := by
  refine State.moves_of_whenLive h ?_
  split
  · exact .inl rfl
  · rename_i f hf
    split
    · rename_i hb
      split
      · split
        · exact .inr (.historyEnds f hf hb ‹_›)
        · exact .inr (.epochCloses f hf hb ‹_›)
      · exact .inr (.nextIgnored f hf)
    all_goals exact .inl rfl

theorem execReportFrameTaken_moves {s t : State} (h : execReportFrameTaken s = .next t) : s.Moves t := by
  refine State.moves_of_whenLive h ?_
  split
  · exact .inl rfl
  · rename_i f hf
    split
    · exact .inr (.dropped f hf (by simp [*]))
    · exact .inr (.dropped f hf (by simp [*]))
    · exact .inr (.dropped f hf (by simp [*]))
    all_goals exact .inl rfl

theorem execReference_moves {s t : State}
    (h : execReferenceLost s = .next t ∨ execReferenceRestored s = .next t) : s.Moves t := by
  rcases h with h | h <;> refine State.moves_of_whenLive h ?_ <;> split
  · exact .inr (.timebase .internal)
  · exact .inl rfl
  · exact .inr (.timebase .reference)
  · exact .inl rfl

/-- A console command has an effect only with its frame at the front of the inbound queue (R95, R156). -/
theorem State.moves_of_frontCommand {s t : State} {code : Nat} {g : CommandBody → State → State}
    (h : (s.whenLive fun s => match s.frontCommand code with | some a => g a s | none => s) = .next t)
    (hg : ∀ f a, s.frontFrame = some f → f.body = .command a → s.Effect (g a s)) : s.Moves t := by
  refine State.moves_of_whenLive h ?_
  cases hc : s.frontCommand code with
  | none => exact .inl rfl
  | some a =>
    obtain ⟨f, hf, hb, -⟩ := State.frontCommand_eq_some.1 hc
    exact .inr (hg f a hf hb)

theorem execRun_moves {s t : State} (h : execRun s = .next t) : s.Moves t :=
  State.moves_of_frontCommand (g := fun _ s => s.popInbound.doRun.refreshDrive) h fun f _ hf _ => .run f hf

theorem execPause_moves {s t : State} (h : execPause s = .next t) : s.Moves t :=
  State.moves_of_frontCommand (g := fun _ s => s.popInbound.doPause.refreshDrive) h fun f _ hf _ => .pause f hf

theorem execStep_moves {s t : State} (h : execStep s = .next t) : s.Moves t :=
  State.moves_of_frontCommand (g := fun a s => (s.popInbound.doStep (stepArg a)).refreshDrive) h
    fun f a hf _ => .step f a hf

theorem execSeek_moves {s t : State} (h : execSeek s = .next t) : s.Moves t :=
  State.moves_of_frontCommand (g := fun a s => (s.popInbound.beginSeek (seekArg a)).settle) h
    fun f a hf _ => .seek f a hf

theorem execHalt_moves {s t : State} (h : execHalt s = .next t) : s.Moves t := by
  refine State.moves_of_frontCommand (g := fun _ s =>
    match s.rc.mode with
    | .standby => s.popInbound
    | .loading | .faulted | .seeking | .paused | .running | .ended | .withdrawn =>
      s.popInbound.haltBlocks.refreshDrive) h fun f a hf hb => ?_
  split
  · exact .dropped f hf (by simp [hb])
  all_goals exact .halt f hf

theorem execEpoch_moves {s t : State} (h : execEpoch s = .next t) : s.Moves t :=
  State.moves_of_frontCommand (g := fun a s => { s.popInbound with pu.span := epochArg a }) h
    fun f a hf hb => .epoch f a hf hb

theorem execRate_moves {s t : State} (h : execRate s = .next t) : s.Moves t :=
  State.moves_of_frontCommand (g := fun a s => State.refreshDrive { s.popInbound with pu.pace := rateArg a }) h
    fun f a hf _ => .rate f a hf

theorem execQuery_moves {s t : State} (h : execQuery s = .next t) : s.Moves t :=
  State.moves_of_frontCommand (g := fun a s => { s.popInbound with dst := s.dst.query a.numeric.toNat }) h
    fun f a hf hb => .query f a _ hf hb

theorem execPoll_moves {s t : State} (h : execPoll s = .next t) : s.Moves t := by
  refine State.moves_of_frontCommand (g := fun a s => if s.named a then s.popInbound.placeStatus else s.popInbound) h
    fun f a hf hb => ?_
  split
  · exact .poll f a hf hb
  · exact .dropped f hf (by simp [hb])

theorem execRelease_moves {s t : State} (h : execRelease s = .next t) : s.Moves t := by
  refine State.moves_of_whenLive h ?_
  split
  · exact .inl rfl
  · rename_i a ha
    obtain ⟨f, hf, hb, -⟩ := State.frontCommand_eq_some.1 ha
    have hd : s.Effect s.popInbound := .dropped f hf (by simp [hb])
    split
    · exact .inr hd
    · split
      · rename_i hn
        simp only [Bool.and_eq_true, beq_iff_eq] at hn
        exact .inr (.release f _ _ hf hn.2)
      · exact .inr hd

theorem execUndefinedCommand_moves {s t : State} (h : execUndefinedCommand s = .next t) : s.Moves t := by
  refine State.moves_of_whenLive h ?_
  split
  · rename_i f hf
    split
    · rename_i hu
      refine .inr (.dropped f hf fun hb => ?_)
      simp [undefinedCommandFrame, hb] at hu
    · exact .inl rfl
  · exact .inl rfl

theorem execClosePulseEnd_moves {s t : State} (h : execClosePulseEnd s = .next t) : s.Moves t :=
  State.moves_of_whenLive h (.inr .closePulseEnds)

theorem execPaceTimeMet_moves {s t : State} (h : execPaceTimeMet s = .next t) : s.Moves t :=
  State.moves_of_whenLive h (.inr (.timerSet _ (by omega)))

theorem execBhlRise_moves {s t : State} (h : execBhlRise s = .next t) : s.Moves t :=
  State.moves_of_whenLive h (.inr .rises)

theorem execBhlDominantRead_moves {s t : State} (h : execBhlDominantRead s = .next t) : s.Moves t :=
  State.moves_of_whenLive h (.inr .suspends)

/-- What one command can do: leave the state, move it, reset it, or end its reset. -/
theorem exec_cases {c : Instr} {s t : State} (h : exec c s = .next t) :
    s.Moves t ∨ (c = .powerOnReset ∨ c = .pinReset) ∧ (∃ cause, t = s.resetWith cause) ∨
      ∃ (straps : Straps) (edge : Bool), s.inReset = true ∧
        t = { s with
          inReset := false, straps := straps
          pu.timebase := if edge then .reference else .internal }.beginStartUp := by
  cases c with
  | powerOnReset => exact .inr (.inl ⟨.inl rfl, _, (Host.Outcome.next.inj h).symm⟩)
  | pinReset => exact .inr (.inl ⟨.inr rfl, _, (Host.Outcome.next.inj h).symm⟩)
  | resetEnd straps edge =>
    have ht := (Host.Outcome.next.inj h).symm
    by_cases hr : s.inReset = true
    · exact .inr (.inr ⟨straps, edge, hr, by rw [ht, if_pos hr]⟩)
    · exact .inl (.inl (by rw [ht, if_neg hr]))
  | loadSlotAnswer words => exact .inl (execLoadSlotAnswer_moves h)
  | archiveReadTimeout => exact .inl (execArchiveReadTimeout_moves h)
  | laneVisitStart => exact .inl (execLaneVisitStart_moves h)
  | laneSlotAnswer words => exact .inl (execLaneSlotAnswer_moves h)
  | checkpointSlotAnswer words => exact .inl (execCheckpointSlotAnswer_moves h)
  | joinOnClose => exact .inl (State.moves_of_whenLive h s.endJoin_moves)
  | joinIdleExpiry => exact .inl (State.moves_of_whenLive h s.endJoin_moves)
  | openCondition line => exact .inl (execOpenCondition_moves h)
  | arbitrationComplete others => exact .inl (execArbitrationComplete_moves h)
  | stretchEnd line => exact .inl (execStretchEnd_moves h)
  | bitError => exact .inl (execBitError_moves h)
  | abortConditionHeard => exact .inl (execAbortConditionHeard_moves h)
  | busAbandonTimeout => exact .inl (execBusAbandonTimeout_moves h)
  | frameAccepted heard => exact .inl (execFrameAccepted_moves h)
  | frameVetoed heard => exact .inl (execFrameVetoed_moves h)
  | cutTaken => exact .inl (execCutTaken_moves h)
  | eventTaken => exact .inl (execEventTaken_moves h)
  | nextTaken => exact .inl (execNextTaken_moves h)
  | reportFrameTaken => exact .inl (execReportFrameTaken_moves h)
  | run => exact .inl (execRun_moves h)
  | pause => exact .inl (execPause_moves h)
  | step => exact .inl (execStep_moves h)
  | seek => exact .inl (execSeek_moves h)
  | halt => exact .inl (execHalt_moves h)
  | epoch => exact .inl (execEpoch_moves h)
  | rate => exact .inl (execRate_moves h)
  | release => exact .inl (execRelease_moves h)
  | query => exact .inl (execQuery_moves h)
  | poll => exact .inl (execPoll_moves h)
  | undefinedCommand => exact .inl (execUndefinedCommand_moves h)
  | closePulseEnd => exact .inl (execClosePulseEnd_moves h)
  | paceTimeMet => exact .inl (execPaceTimeMet_moves h)
  | bhlRise => exact .inl (execBhlRise_moves h)
  | bhlDominantRead => exact .inl (execBhlDominantRead_moves h)
  | referenceLost => exact .inl (execReference_moves (.inl h))
  | referenceRestored => exact .inl (execReference_moves (.inr h))
  | unacceptedFrameClose => exact .inl (execUnacceptedFrameClose_moves h)
  | discardedAnswer => exact .inl (.inl (Host.Outcome.next.inj h).symm)

/-- A microsecond without a command moves the pace timer and the drive alone (R115). -/
theorem State.tick_moves (s : State) : s.Moves s.tick := by
  unfold State.tick
  split
  · exact .inl rfl
  · rename_i h
    exact .inr ⟨by simpa using h, .timerSet _ (by omega)⟩

/-- What a property of states that does not read the queue of commands needs in order to be kept by every step from the
states of `Q`: every effect keeps it, and both resets and the end of a reset do. -/
theorem step_keeps {s t : State} {Q : State → Prop} {P : State → State → Prop} (h : step s = .next t) (hq : Q s)
    (queue : ∀ rest, Q s → Q { s with pending := rest }) (back : ∀ rest, P { s with pending := rest } t → P s t)
    (same : ∀ s, Q s → P s s) (effect : ∀ s t, Q s → s.inReset = false → s.Effect t → P s t)
    (reset : ∀ s cause, Q s → P s (s.resetWith cause))
    (resetEnd : ∀ s straps b, Q s → s.inReset = true →
      P s { s with inReset := false, straps := straps, pu.timebase := b }.beginStartUp) : P s t := by
  have moves : ∀ s t, Q s → s.Moves t → P s t := by
    rintro s t hq (rfl | ⟨hr, he⟩)
    · exact same _ hq
    · exact effect _ _ hq hr he
  unfold step at h
  split at h
  · rename_i c rest _
    refine back rest ?_
    rcases exec_cases h with hm | ⟨-, cause, rfl⟩ | ⟨straps, edge, hr, rfl⟩
    · exact moves _ _ (queue rest hq) hm
    · exact reset _ _ (queue rest hq)
    · exact resetEnd _ _ _ (queue rest hq) hr
  · cases h
    exact moves _ _ hq s.tick_moves

end Sys2Proof.Machine
end

section
/-! PROOFS. What the work on lanes, queues and offers leaves unchanged, said once: a lane keeps its region, stays
configured, stays WAITING, and keeps a slot to read where it reads again; port, cut record, Pace Unit, device entries
and mode stay. -/

namespace Sys2Proof.Machine

/-- From `x` to `y` a lane keeps its region, stays configured and WAITING, and keeps a slot to read (R7, R18, R26). -/
structure Lane.MovesTo (x y : Lane) : Prop where
  base : y.base = x.base
  slotCount : y.slotCount = x.slotCount
  configured : x.state ≠ .disabled → y.state ≠ .disabled
  waiting : x.state = .waiting → y.state = .waiting
  slot : x.HasSlot → y.HasSlot

/-- A lane whose read position lies below its slot count has a slot to read, whatever its state. -/
theorem Lane.HasSlot.of_lt {x : Lane} (h : x.readPos < x.slotCount) : x.HasSlot :=
  ⟨fun _ => h, fun _ _ => h, fun _ _ => h, fun _ _ _ _ _ => h⟩

/-- A lane that is ENDED, LOST or DISABLED without a trap needs no slot. -/
theorem Lane.HasSlot.of_over {x : Lane} (hs : x.state = .ended ∨ x.state = .lost ∨ x.state = .disabled)
    (ht : x.trap = none) : x.HasSlot := by
  constructor
  · rcases hs with h | h | h <;> simp [h]
  · rcases hs with h | h | h <;> simp [h]
  · simp [ht]
  · simp [ht]

/-- A STALLED or PASSED lane with a released record needs no slot. -/
theorem Lane.HasSlot.of_released {x : Lane} {e : HeldEvent} (hs : x.state = .stalled ∨ x.state = .passed)
    (hh : x.held = some (.released e)) (ht : x.trap = none) : x.HasSlot := by
  constructor
  · rcases hs with h | h <;> simp [h]
  · simp [Lane.releasedRecord, hh]
  · simp [ht]
  · simp [ht]

theorem Lane.MovesTo.refl (x : Lane) : x.MovesTo x :=
  ⟨rfl, rfl, id, id, id⟩

theorem Lane.MovesTo.trans {x y z : Lane} (h : x.MovesTo y) (g : y.MovesTo z) : x.MovesTo z :=
  ⟨g.base.trans h.base, g.slotCount.trans h.slotCount, fun d => g.configured (h.configured d),
    fun w => g.waiting (h.waiting w), fun a => g.slot (h.slot a)⟩

/-- From `s` to `t` the lanes have moved, entries have come and gone, and the bus unit, the findings, the replies and the
pending STATUS have changed; nothing else has (R36, R37, R38). -/
structure State.Works (s t : State) : Prop where
  frame : ∃ lanes entries cku biu replies status, t = { s with
    afu.lanes := lanes, mq.entries := entries, cku := cku, biu := biu, dst.replies := replies
    rc.statusPending := status } ∧ (s.dst.replies.Nodup → replies.Nodup)
  lanes : ∀ m, (s.lane m).MovesTo (t.lane m)
  entries : ∀ e ∈ t.mq.entries, (∃ a ∈ s.mq.entries, a.lane = e.lane) ∨ (t.lane e.lane).state ≠ .disabled

theorem State.Works.refl (s : State) : s.Works s :=
  ⟨⟨_, _, _, _, _, _, rfl, id⟩, fun _ => .refl _, fun e he => .inl ⟨e, he, rfl⟩⟩

theorem State.Works.trans {s t u : State} (h : s.Works t) (g : t.Works u) : s.Works u := by
  refine ⟨?_, fun m => (h.lanes m).trans (g.lanes m), fun e he => ?_⟩
  · obtain ⟨_, _, _, _, _, _, rfl, hn⟩ := h.frame
    obtain ⟨_, _, _, _, _, _, rfl, gn⟩ := g.frame
    exact ⟨_, _, _, _, _, _, rfl, fun h => gn (hn h)⟩
  · rcases g.entries e he with ⟨a, ha, hl⟩ | hd
    · rcases h.entries a ha with ⟨b, hb, hl'⟩ | hd
      · exact .inl ⟨b, hb, hl'.trans hl⟩
      · rw [hl] at hd
        exact .inr ((g.lanes _).configured hd)
    · exact .inr hd

/-! What the work on lanes, queues and offers leaves unchanged. -/

section
variable {s t : State} (h : s.Works t)
include h

theorem State.Works.inReset : t.inReset = s.inReset := by obtain ⟨_, _, _, _, _, _, rfl, -⟩ := h.frame; rfl
theorem State.Works.straps : t.straps = s.straps := by obtain ⟨_, _, _, _, _, _, rfl, -⟩ := h.frame; rfl
theorem State.Works.port : t.afu = { s.afu with lanes := t.afu.lanes } := by
  obtain ⟨_, _, _, _, _, _, rfl, -⟩ := h.frame; rfl
theorem State.Works.cut : t.mq.cut = s.mq.cut := by obtain ⟨_, _, _, _, _, _, rfl, -⟩ := h.frame; rfl
theorem State.Works.pu : t.pu = s.pu := by obtain ⟨_, _, _, _, _, _, rfl, -⟩ := h.frame; rfl
theorem State.Works.devices : t.dst.devices = s.dst.devices := by
  obtain ⟨_, _, _, _, _, _, rfl, -⟩ := h.frame; rfl
theorem State.Works.replies (hn : s.dst.replies.Nodup) : t.dst.replies.Nodup := by
  obtain ⟨_, _, _, _, _, _, rfl, hr⟩ := h.frame; exact hr hn
theorem State.Works.rc : t.rc = { s.rc with statusPending := t.rc.statusPending } := by
  obtain ⟨_, _, _, _, _, _, rfl, -⟩ := h.frame; rfl

end

/-! The single pieces of work. -/

/-- The bus unit, the findings, the replies and the pending STATUS may change beside the lanes. -/
theorem State.works_beside {s : State} (cku : Cku) (biu : Biu) {replies : List (BitVec 16)} (status : Bool)
    (h : s.dst.replies.Nodup → replies.Nodup) :
    s.Works { s with cku := cku, biu := biu, dst.replies := replies, rc.statusPending := status } :=
  ⟨⟨_, _, _, _, _, _, rfl, h⟩, fun _ => .refl _, fun e he => .inl ⟨e, he, rfl⟩⟩

/-- The bus unit may change beside the lanes. -/
theorem State.works_biu (s : State) (biu : Biu) : s.Works { s with biu := biu } :=
  State.works_beside s.cku biu s.rc.statusPending id

/-- Lane l's value alone changes. -/
theorem State.works_setLane {s : State} {l : Fin 16} {x : Lane} (h : (s.lane l).MovesTo x) :
    s.Works (s.setLane l x) := by
  refine ⟨⟨_, _, _, _, _, _, rfl, id⟩, fun m => ?_, fun e he => .inl ⟨e, he, rfl⟩⟩
  rw [State.lane_setLane]
  split
  · subst m
    exact h
  · exact .refl _

/-- A lane that has inserted an event has a slot to read, or is ENDED (R36). -/
theorem Lane.hasSlot_afterInsert (x : Lane) (e : HeldEvent) (time stop : Nat) :
    (x.afterInsert e time stop).HasSlot := by
  by_cases hp : x.readPos < x.slotCount
  · exact .of_lt hp
  · exact .of_over (.inl (if_pos (Nat.le_of_not_lt hp))) rfl

theorem Lane.afterInsert_configured (x : Lane) (e : HeldEvent) (time stop : Nat) :
    (x.afterInsert e time stop).state ≠ .disabled := by
  unfold Lane.afterInsert
  dsimp only
  split
  · simp
  · split <;> simp

/-- Lane l's value changes, and an entry of its own joins the queue. -/
theorem State.works_insertEvent {s : State} {l : Fin 16} {e : HeldEvent} (h : (s.lane l).state ≠ .waiting) :
    s.Works (s.insertEvent l e) := by
  refine ⟨⟨_, _, _, _, _, _, rfl, id⟩, fun m => ?_, fun a ha => ?_⟩
  · rw [State.lane_insertEvent]
    split
    · subst m
      exact ⟨rfl, rfl, fun _ => Lane.afterInsert_configured _ _ _ _, fun hw => absurd hw h,
        fun _ => Lane.hasSlot_afterInsert _ _ _ _⟩
    · exact .refl _
  · rw [State.insertEvent_mq_entries, mem_insertEntry] at ha
    rcases ha with rfl | ha
    · right
      change ((s.insertEvent l e).lane l).state ≠ _
      rw [State.lane_insertEvent, if_pos rfl]
      exact Lane.afterInsert_configured _ _ _ _
    · exact .inl ⟨a, ha, rfl⟩

theorem State.works_raiseFinding (s : State) (f : Finding) : s.Works (s.raiseFinding f) := by
  unfold State.raiseFinding
  split <;> exact State.works_beside _ s.biu s.rc.statusPending id

theorem State.works_markReleased (s : State) (k : EntryKey) : s.Works (s.markReleased k) := by
  refine ⟨⟨_, _, _, _, _, _, rfl, id⟩, fun _ => .refl _, fun e he => .inl ?_⟩
  obtain ⟨a, ha, rfl⟩ := List.mem_map.1 he
  refine ⟨a, ha, ?_⟩
  split <;> rfl

theorem State.works_removeEntry (s : State) (k : EntryKey) : s.Works (s.removeEntry k) :=
  ⟨⟨_, _, _, _, _, _, rfl, id⟩, fun _ => .refl _, fun e he => .inl ⟨e, (List.mem_filter.1 he).1, rfl⟩⟩

theorem State.works_popInbound (s : State) : s.Works s.popInbound :=
  s.works_biu _

theorem State.works_busIdle (s : State) : s.Works s.busIdle :=
  s.works_biu _

theorem State.works_pushInbound (s : State) (f : Frame) : s.Works (s.pushInbound f) := by
  unfold State.pushInbound
  split
  · exact .refl s
  · exact s.works_biu _

theorem State.works_placeStatus (s : State) : s.Works s.placeStatus := by
  unfold State.placeStatus
  split
  · exact State.works_beside s.cku s.biu true id
  · exact .refl s

/-! The test against the window end and a freed entry (R37, R38). -/

/-- The state test keeps a slot to read, where a lane that leaves PASSED holds no released record. -/
theorem Lane.passTest_movesTo {x : Lane} {w : Nat} (h : x.resumesRecord w = none) : x.MovesTo (x.passTest w) := by
  have hp : ∀ st : LaneState, (st = .ready ∨ st = .passed ∨ st = .stalled) →
      (x.HasSlot → { x with state := st }.HasSlot) → (x.state = .waiting → st = .waiting) →
      x.MovesTo { x with state := st } := by
    rintro st hst hs hw
    exact ⟨rfl, rfl, fun _ => by rcases hst with rfl | rfl | rfl <;> simp, hw, hs⟩
  unfold Lane.passTest
  split
  · rename_i hx
    split
    · exact hp _ (by simp) (fun hs => .of_lt (hs.reading (.inl hx))) (by simp [hx])
    · exact .refl _
  · rename_i hx
    split
    · refine hp _ (by simp) (fun hs => ⟨by simp, fun _ hr => hs.resting (.inl hx) hr, hs.fetch, hs.winning⟩)
        (by simp [hx])
    · exact .refl _
  · rename_i hx
    split
    · exact .refl _
    · rename_i hc
      refine hp _ (by simp) (fun hs => .of_lt (hs.resting (.inr hx) ?_)) (by simp [hx])
      unfold Lane.resumesRecord at h
      simpa [hx, Nat.not_le.1 hc] using h
  all_goals exact .refl _

/-- A lane holding a released record is in no state but PASSED when it resumes it. -/
theorem Lane.passed_of_resumesRecord {x : Lane} {w : Nat} {e : HeldEvent} (h : x.resumesRecord w = some e) :
    x.state = .passed ∧ x.releasedRecord = some e := by
  unfold Lane.resumesRecord at h
  split at h
  · rename_i hc
    simp only [Bool.and_eq_true, beq_iff_eq] at hc
    exact ⟨hc.1, h⟩
  · cases h

theorem State.works_retestLane (s : State) (l : Fin 16) : s.Works (s.retestLane l) := by
  rcases s.retestLane_cases l with ⟨e, he, -, h⟩ | ⟨e, he, -, h⟩ | ⟨hn, h⟩ <;> rw [h]
  · obtain ⟨hp, hr⟩ := Lane.passed_of_resumesRecord he
    refine State.works_setLane ⟨rfl, rfl, by simp, by simp [hp], fun hs => ?_⟩
    have hr' : { s.lane l with state := .stalled }.releasedRecord = some e := hr
    exact ⟨by simp, fun _ h => by simp [hr'] at h, hs.fetch, hs.winning⟩
  · exact State.works_insertEvent (by simp [(Lane.passed_of_resumesRecord he).1])
  · exact State.works_setLane (Lane.passTest_movesTo hn)

theorem State.works_retestLanes (s : State) : s.Works s.retestLanes :=
  State.retestLanes_induct (P := s.Works) (fun u l h => h.trans (u.works_retestLane l)) (.refl s)

theorem Lane.resume_movesTo (x : Lane) : x.MovesTo x.resume := by
  unfold Lane.resume
  split
  · rename_i h
    simp only [Bool.and_eq_true, beq_iff_eq, Option.isNone_iff_eq_none] at h
    exact ⟨rfl, rfl, by simp, by simp [h.1], fun hs => .of_lt (hs.resting (.inl h.1) h.2)⟩
  · exact .refl _

theorem State.works_entryFreed (s : State) : s.Works s.entryFreed := by
  have hm : s.Works (s.mapLanes Lane.resume) := by
    refine ⟨⟨_, _, _, _, _, _, rfl, id⟩, fun m => ?_, fun e he => .inl ⟨e, he, rfl⟩⟩
    rw [State.lane_mapLanes]
    exact Lane.resume_movesTo _
  rcases (s.mapLanes Lane.resume).insertReleased_cases with h | ⟨l, e, hl, -, -, h⟩ <;>
    rw [State.entryFreed, h]
  · exact hm
  · exact hm.trans (State.works_insertEvent (by rw [hl]; nofun))

/-! The taking of a slot (R31 to R39). -/

/-- A lane about to take or to release the item at its read position: its slot lies within the region. -/
structure Lane.AtSlot (x : Lane) : Prop where
  still : x.state ≠ .waiting
  slot : x.HasSlot → x.readPos < x.slotCount

theorem Lane.atSlot_of_ready {x : Lane} (h : x.state = .ready) : x.AtSlot :=
  ⟨by simp [h], fun hs => hs.reading (.inl h)⟩

theorem Lane.atSlot_of_trap {x : Lane} {g : Nat} (h : x.state = .trapped) (ht : x.trap = some (.fetch g)) :
    x.AtSlot :=
  ⟨by simp [h], fun hs => hs.fetch g ht⟩

/-- Passing a slot leaves a lane with a slot to read, or ENDED (R36). -/
theorem Lane.hasSlot_stateAfterSlot {x : Lane} (ht : x.trap = none) : { x with state := x.stateAfterSlot }.HasSlot := by
  by_cases hp : x.readPos < x.slotCount
  · exact .of_lt hp
  · exact .of_over (.inl (by simp [Lane.stateAfterSlot]; omega)) ht

theorem Lane.stateAfterSlot_ne (x : Lane) : x.stateAfterSlot ≠ .disabled ∧ x.stateAfterSlot ≠ .waiting ∧
    x.stateAfterSlot ≠ .passed := by
  unfold Lane.stateAfterSlot
  split <;> simp

/-- A lane that takes or passes its slot, its region and read position first as they were, has moved. -/
theorem Lane.AtSlot.passSlot {x y : Lane} (h : x.AtSlot) (hb : y.base = x.base) (hc : y.slotCount = x.slotCount) :
    x.MovesTo y.passSlot :=
  ⟨hb, hc, fun _ => (Lane.stateAfterSlot_ne _).1, fun hw => absurd hw h.still,
    fun _ => Lane.hasSlot_stateAfterSlot (x := y.advance) rfl⟩

/-- A lane that stays at its slot in another state has moved. -/
theorem Lane.AtSlot.stays {x y : Lane} (h : x.AtSlot) (hb : y.base = x.base) (hc : y.slotCount = x.slotCount)
    (hp : y.readPos = x.readPos) (hd : y.state ≠ .disabled) : x.MovesTo y :=
  ⟨hb, hc, fun _ => hd, fun hw => absurd hw h.still, fun hs => .of_lt (by rw [hp, hc]; exact h.slot hs)⟩

/-- Two settings of one lane are the second. -/
theorem State.setLane_setLane (s : State) (l : Fin 16) (x y : Lane) : (s.setLane l x).setLane l y = s.setLane l y := by
  simp [State.setLane]

theorem State.works_trapAtFetch {s : State} {l : Fin 16} (h : (s.lane l).AtSlot) (g : Nat) (item : HeldItem) :
    s.Works (s.trapAtFetch l g item) :=
  State.works_setLane (h.stays rfl rfl rfl (by simp))

theorem State.works_passSlot {s : State} {l : Fin 16} (h : (s.lane l).AtSlot) :
    s.Works (s.setLane l (s.lane l).passSlot) :=
  State.works_setLane (h.passSlot rfl rfl)

theorem State.works_takeBadSlot {s : State} {l : Fin 16} (h : (s.lane l).AtSlot) (a : AnomalySet) :
    s.Works (s.takeBadSlot l a) := by
  have hp := State.works_passSlot h
  unfold State.takeBadSlot
  dsimp only
  split
  · exact hp
  all_goals
    split
    · exact hp.trans (State.works_raiseFinding _ _)
    · exact (State.works_trapAtFetch h _ _).trans (State.works_raiseFinding _ _)

theorem State.works_takeMark {s : State} {l : Fin 16} (h : (s.lane l).AtSlot) (stamp : BitVec 48) (r : Nat) :
    s.Works (s.takeMark l stamp r) := by
  have hp : ∀ c, s.Works (s.setLane l { s.lane l with clock := c }.passSlot) := fun _ =>
    State.works_setLane (h.passSlot rfl rfl)
  unfold State.takeMark
  dsimp only
  split
  · split
    · exact hp _
    all_goals
      split
      · exact (hp _).trans (State.works_raiseFinding _ _)
      · exact (State.works_trapAtFetch h _ _).trans (State.works_raiseFinding _ _)
  · exact hp _

/-- The insertion that follows the advance past a slot has moved the lane as one. -/
theorem State.works_insertOrStall {s : State} {l : Fin 16} (h : (s.lane l).AtSlot) (e : HeldEvent) :
    s.Works (s.insertOrStall l e) := by
  unfold State.insertOrStall
  split
  · refine State.works_setLane ⟨rfl, rfl, by simp, fun hw => absurd hw h.still, fun _ => ?_⟩
    exact .of_released (.inl rfl) rfl rfl
  · have hw : ((s.setLane l (s.lane l).advance).lane l).state ≠ .waiting := by
      rw [State.lane_setLane_same]
      exact h.still
    have hi := State.works_insertEvent (e := e) hw
    refine ⟨⟨_, _, _, _, _, _, rfl, id⟩, fun m => ?_, hi.entries⟩
    have hm := hi.lanes m
    by_cases hml : m = l
    · subst hml
      rw [State.lane_setLane_same] at hm
      refine ⟨hm.base, hm.slotCount, hm.configured, fun hx => absurd hx h.still, fun _ => ?_⟩
      rw [State.lane_insertEvent, if_pos rfl]
      exact Lane.hasSlot_afterInsert _ _ _ _
    · rwa [State.lane_setLane_other _ hml] at hm

theorem State.works_referenceStage {s : State} {l : Fin 16} (h : (s.lane l).AtSlot) (e : HeldEvent) :
    s.Works (s.referenceStage l e) := by
  unfold State.referenceStage
  dsimp only
  split
  · split
    · exact (State.works_passSlot h).trans (State.works_raiseFinding _ _)
    · exact (State.works_trapAtFetch h _ _).trans (State.works_raiseFinding _ _)
  · exact State.works_insertOrStall h e

theorem State.works_handOver {s : State} {l : Fin 16} (h : (s.lane l).AtSlot) (e : HeldEvent) (time : Nat) :
    s.Works (s.handOver l e time) :=
  State.works_setLane ⟨rfl, rfl, fun _ => (Lane.stateAfterSlot_ne _).1, fun hw => absurd hw h.still,
    fun _ => Lane.hasSlot_stateAfterSlot (x := { (s.lane l).advance with
      clock := (s.lane l).advance.clock.takeEvent e time
      silent := some { time := time, device := e.device, kind := e.kind } }) rfl⟩

theorem State.works_takeEvent {s : State} {l : Fin 16} (h : (s.lane l).AtSlot) (device : BitVec 16)
    (kind : EventKind) (stamp : BitVec 48) : s.Works (s.takeEvent l device kind stamp) := by
  have hlive : ∀ e, s.Works (s.takeEventLive l e) := by
    intro e
    unfold State.takeEventLive
    dsimp only
    split
    · split
      · exact (State.works_raiseFinding _ _).trans (State.works_referenceStage (by simpa using h) e)
      · exact (State.works_trapAtFetch h _ _).trans (State.works_raiseFinding _ _)
    · exact State.works_referenceStage h e
  unfold State.takeEvent State.takeEventSeeking
  dsimp only
  split
  · split
    · exact State.works_handOver h _ _
    · exact State.works_referenceStage h _
  all_goals exact hlive _

/-- The comparison of sequences changes neither the region nor the state of a lane (R34). -/
theorem Lane.noteSequence_eq (x : Lane) (seq : BitVec 32) :
    ∃ last gap, x.noteSequence seq = { x with lastSeq := last, gap := gap } := by
  unfold Lane.noteSequence
  split
  · exact ⟨_, _, rfl⟩
  · split <;> exact ⟨_, _, rfl⟩

/-- The taking of a slot moves its lane, and with it the queue's entries and the findings (R31). -/
theorem State.works_takeSlot {s : State} {l : Fin 16} (h : (s.lane l).state = .ready) (d : Slot) :
    s.Works (s.takeSlot l d) := by
  have hs := Lane.atSlot_of_ready h
  have note : ∀ seq, s.Works (s.setLane l ((s.lane l).noteSequence seq)) ∧
      ((s.setLane l ((s.lane l).noteSequence seq)).lane l).AtSlot := by
    intro seq
    obtain ⟨a, b, he⟩ := (s.lane l).noteSequence_eq seq
    rw [he, State.lane_setLane_same]
    exact ⟨State.works_setLane (hs.stays rfl rfl rfl (by simp [h])), Lane.atSlot_of_ready h⟩
  unfold State.takeSlot
  dsimp only
  split
  · exact State.works_setLane (hs.stays rfl rfl rfl (by simp))
  · exact State.works_takeBadSlot hs _
  · exact State.works_takeBadSlot hs _
  · exact State.works_setLane (hs.passSlot rfl rfl)
  · exact (note _).1.trans (State.works_takeMark (note _).2 _ _)
  · split
    · exact State.works_setLane (hs.stays rfl rfl rfl (by simp))
    · exact (note _).1.trans (State.works_takeEvent (note _).2 _ _ _)

/-! The end of a trap (R39, R71, R150). -/

/-- The test of a released lane, which holds a released record only while STALLED or never PASSED. -/
theorem State.works_testReleased {s : State} {l : Fin 16}
    (h : (s.lane l).state = .passed → (s.lane l).releasedRecord = none) : s.Works (s.testReleased l) := by
  refine State.works_setLane (Lane.passTest_movesTo ?_)
  unfold Lane.resumesRecord
  split
  · rename_i hc
    simp only [Bool.and_eq_true, beq_iff_eq] at hc
    exact h hc.1
  · rfl

theorem State.works_passAndTest {s : State} {l : Fin 16} {x : Lane} (h : (s.lane l).MovesTo x.passSlot) :
    s.Works ((s.setLane l x.passSlot).testReleased l) := by
  refine (State.works_setLane h).trans (State.works_testReleased ?_)
  rw [State.lane_setLane_same]
  exact fun _ => rfl

theorem State.works_skipHeld {s : State} {l : Fin 16} (h : (s.lane l).AtSlot) : s.Works (s.skipHeld l) :=
  State.works_passAndTest (h.passSlot rfl rfl)

/-- After the reference checks a lane that is PASSED holds no released record. -/
theorem State.referenceStage_passed {s : State} {l : Fin 16} {e : HeldEvent}
    (h : ((s.referenceStage l e).lane l).state = .passed) : ((s.referenceStage l e).lane l).releasedRecord = none := by
  unfold State.referenceStage State.insertOrStall at *
  dsimp only at *
  split
  · split
    · simp [Lane.passSlot, Lane.advance, Lane.releasedRecord]
    · rename_i h1 h2
      simp [h1, h2, State.trapAtFetch] at h
  · rename_i h1
    split
    · rename_i h2
      simp [h1, h2] at h
    · rw [State.lane_insertEvent, if_pos rfl]
      rfl

/-- A freed entry leaves a lane that is not STALLED as it stands (R38). -/
theorem State.lane_entryFreed_of_ne {s : State} {l : Fin 16} (h : (s.lane l).state ≠ .stalled) :
    s.entryFreed.lane l = s.lane l := by
  have hl : (s.mapLanes Lane.resume).lane l = s.lane l := by
    rw [State.lane_mapLanes, Lane.resume, if_neg (by simp [h])]
  rcases (s.mapLanes Lane.resume).insertReleased_cases with hr | ⟨w, e, hw, -, -, hr⟩ <;> rw [State.entryFreed, hr]
  · exact hl
  · have hne : l ≠ w := fun hlw => h (by rw [← hl, hlw, hw])
    rw [State.lane_insertEvent, if_neg hne, hl]

/-- The queue's side of a RELEASE leaves a TRAPPED lane as it stands (R71). -/
theorem State.releaseEntry_moves {s : State} {l : Fin 16} (h : (s.lane l).state = .trapped) (k : EntryKey)
    (action : ReleaseAction) :
    s.Works (s.releaseEntry k action) ∧ (s.releaseEntry k action).lane l = s.lane l := by
  unfold State.releaseEntry
  split
  · exact ⟨s.works_markReleased k, rfl⟩
  · split
    · exact ⟨(s.works_removeEntry k).trans (s.removeEntry k).works_entryFreed,
        State.lane_entryFreed_of_ne (by simp [h])⟩
    · exact ⟨.refl s, rfl⟩

/-- The end of a trap at winning moves its lane (R150). -/
theorem Lane.leaveWinning_movesTo {x : Lane} {k : EntryKey} {b : LaneState} (h : x.state = .trapped)
    (ht : x.trap = some (.winning k b)) (w : Nat) : x.MovesTo (x.leaveWinning b w) := by
  have ready : b ≠ .ended → b ≠ .lost → x.MovesTo ({ x with state := .ready, trap := none }.passTest w) := by
    intro he hl
    have hr : x.MovesTo { x with state := .ready, trap := none } :=
      ⟨rfl, rfl, by simp, by simp [h], fun hs => .of_lt (hs.winning k b ht he hl)⟩
    exact hr.trans (Lane.passTest_movesTo rfl)
  unfold Lane.leaveWinning
  split
  · exact ⟨rfl, rfl, by simp, by simp [h], fun _ => .of_over (.inl rfl) rfl⟩
  · exact ⟨rfl, rfl, by simp, by simp [h], fun _ => .of_over (.inr (.inl rfl)) rfl⟩
  all_goals exact ready (by simp) (by simp)

/-- A RELEASE that ends a trap moves its lane, the queue's entries and the findings (R39, R71, R150). -/
theorem State.works_releaseLane {s : State} {l : Fin 16} (h : (s.lane l).state = .trapped)
    (action : ReleaseAction) : s.Works (s.releaseLane l action) := by
  unfold State.releaseLane
  split
  · rename_i g hg
    have hs := Lane.atSlot_of_trap h hg
    unfold State.releaseFetch
    split
    · exact State.works_skipHeld hs
    · split
      · exact State.works_passAndTest (hs.passSlot rfl rfl)
      · split
        · exact (State.works_referenceStage hs _).trans (State.works_testReleased State.referenceStage_passed)
        · exact State.works_skipHeld hs
      all_goals exact State.works_skipHeld hs
  · rename_i k b hk
    obtain ⟨hm, hl⟩ := State.releaseEntry_moves h k action
    exact hm.trans (State.works_setLane (by rw [hl]; exact Lane.leaveWinning_movesTo h hk _))
  · exact .refl s

/-! The bus unit's work (R84, R87, R92). -/

/-- An attempt begins, or the engine receives: the bus unit alone changes, its inbound queue and counts apart. -/
theorem State.beginAttempt_eq (s : State) : ∃ b o x, s.beginAttempt = { s with
    biu.state := b, biu.outbound := o, biu.fullAtOpen := x, biu.discarding := false } ∧
      (o = none ∨ o = s.offer) := by
  unfold State.beginAttempt
  split
  · rename_i o ho
    refine ⟨_, _, _, rfl, .inr ?_⟩
    split at ho
    · cases ho
    · exact ho.symm
  · exact ⟨_, _, _, rfl, .inl rfl⟩

theorem State.works_beginAttempt (s : State) : s.Works s.beginAttempt := by
  obtain ⟨b, o, x, h, -⟩ := s.beginAttempt_eq
  rw [h]
  exact s.works_biu _

theorem State.works_settleOffer (s : State) (o : Outbound) : s.Works (s.settleOffer o) := by
  unfold State.settleOffer
  split
  · split
    · exact .refl s
    · split
      · exact (s.works_removeEntry _).trans (s.removeEntry _).works_entryFreed
      · exact .refl s
  · exact State.works_beside _ s.biu s.rc.statusPending id
  · exact State.works_beside s.cku s.biu s.rc.statusPending fun h => h.filter _
  · exact State.works_beside s.cku s.biu false id
  all_goals exact .refl s

/-- The acceptance of the engine's own frame settles its offer (R69, R92). -/
theorem State.works_ownAccepted (s : State) (o : Outbound) : s.Works (s.ownAccepted o) := by
  have h : s.Works (s.ownSettled o) := (s.works_biu _).trans (State.works_settleOffer _ o)
  unfold State.ownAccepted
  split
  · exact h.trans (State.works_pushInbound _ _)
  · exact h

/-- What the end of a stretch decides: the frame is sent, its entry is held from a test that it passed, or the frame is
aborted (R89, R144). -/
theorem State.endStretch_cases (s : State) (o : Outbound) (line : Level) :
    s.Works (s.endStretch o line) ∨
      (∃ e a, s.sendable o line = some e ∧ s.evaluate e = .hold a ∧ s.endStretch o line = s.trapAtWinning e a) ∨
      s.endStretch o line = (s.suspendOn (s.readBhl line)).busIdle := by
  unfold State.endStretch
  split
  · rename_i e he
    have hs : ∀ d a, s.Works (s.sendEvent e d a) := fun d a => s.works_biu _
    unfold State.actOnWin
    split
    · exact .inl (hs _ _)
    · exact .inl ((hs _ _).trans (State.works_raiseFinding _ _))
    · exact .inr (.inl ⟨e, _, he, ‹_›, rfl⟩)
  · exact .inr (.inr rfl)

/-- A failed attempt counts, and at the limit withdraws the engine (R97, R98). -/
theorem State.failAttempt_cases (s : State) :
    s.Works s.failAttempt ∨
      (s.rc.mode.takesFrames = true ∧ ∃ u, s.Works u ∧ s.failAttempt = u.withdraw) := by
  have hc : s.Works s.countFailure := s.works_biu _
  unfold State.failAttempt
  split
  · exact .inl hc
  · split
    all_goals rename_i hm
    iterate 5 exact .inr ⟨by rw [hm]; rfl, _, hc, rfl⟩
    · exact .inl (hc.trans (State.works_beside _ _ false id))
    all_goals exact .inl hc

/-- The veto slot of a frame heard counts, and at the limit withdraws the engine (R96, R98). -/
theorem State.countVeto_cases (s : State) (drove : Bool) :
    s.Works (s.countVeto drove) ∨
      (drove = true ∧ s.rc.mode.vetoes = true ∧ ∃ u, s.Works u ∧ s.countVeto drove = u.withdraw) := by
  have hr : s.Works s.raiseVeto := s.works_biu _
  unfold State.countVeto
  split
  · split
    · split
      · exact .inr ⟨‹_›, ‹_›, _, hr, rfl⟩
      · exact .inl hr
    · exact .inl (s.works_biu _)
  · exact .inl (.refl s)

/-- A mode that vetoes takes frames (R81, R93). -/
theorem Mode.takesFrames_of_vetoes {m : Mode} (h : m.vetoes = true) : m.takesFrames = true := by
  cases m <;> simp_all [Mode.vetoes, Mode.takesFrames]

/-- A mode of the epoch protocol takes frames (R93, R101). -/
theorem Mode.takesFrames_of_replaying {m : Mode} (h : m.replaying = true) : m.takesFrames = true := by
  cases m <;> simp_all [Mode.replaying, Mode.takesFrames]

/-- What a frame heard at its veto slot comes to: work, a withdrawal, a duplicate number, or a rejoin (R91 to R100). -/
theorem State.heardAccepted_cases (s : State) (h : HeardFrame) :
    s.Works (s.heardAccepted h) ∨
      (s.rc.mode.takesFrames = true ∧ ∃ u, s.Works u ∧ s.heardAccepted h = u.withdraw) ∨
      (s.rc.mode ≠ .faulted ∧ ∃ u, s.Works u ∧ s.heardAccepted h = u.enterFaulted .duplicateNumber) ∨
      (s.rc.mode = .withdrawn ∧ ∃ u t, s.Works u ∧ u.afu = s.afu ∧ s.heardAccepted h = u.beginSeek t) := by
  unfold State.heardAccepted
  split
  · exact .inl s.works_busIdle
  · split
    · rcases s.busIdle.countVeto_cases true with hw | ⟨-, hv, u, hu, he⟩
      · exact .inl (s.works_busIdle.trans hw)
      · exact .inr (.inl ⟨Mode.takesFrames_of_vetoes hv, u, s.works_busIdle.trans hu, he⟩)
    · rcases s.busIdle.countVeto_cases false with hw | ⟨hd, -⟩
      swap
      · cases hd
      have hw := s.works_busIdle.trans hw
      have ha : (s.busIdle.countVeto false).afu = s.afu := by
        unfold State.countVeto
        split <;> rfl
      generalize s.busIdle.countVeto false = u at hw ha
      have hm : u.rc.mode = s.rc.mode := by rw [hw.rc]
      unfold State.receiveAccepted
      split
      · exact .inl hw
      · split
        · rename_i hf
          simp only [Bool.and_eq_true, bne_iff_ne, ne_eq] at hf
          exact .inr (.inr (.inl ⟨hm ▸ hf.2, u, hw, rfl⟩))
        · unfold State.queueAccepted
          split
          iterate 5 exact .inl (hw.trans (u.works_pushInbound _))
          · split
            · exact .inr (.inr (.inr ⟨by rw [← hm]; assumption,
                { u with biu.vetoCount := 0, biu.failureCount := 0 }, _, hw.trans (u.works_biu _), ha, rfl⟩))
            · exact .inl hw
          all_goals exact .inl hw

/-- What a vetoed frame comes to (R91, R96, R98). -/
theorem State.heardVetoed_cases (s : State) (h : HeardFrame) :
    s.Works (s.heardVetoed h) ∨
      (s.rc.mode.takesFrames = true ∧ ∃ u, s.Works u ∧ s.heardVetoed h = u.withdraw) := by
  unfold State.heardVetoed
  split
  · exact .inl s.works_busIdle
  · rcases s.busIdle.countVeto_cases (s.drivesVeto h) with hw | ⟨-, hv, u, hu, he⟩
    · exact .inl (s.works_busIdle.trans hw)
    · exact .inr ⟨Mode.takesFrames_of_vetoes hv, u, s.works_busIdle.trans hu, he⟩

end Sys2Proof.Machine
end

section
/-! PROOFS. The device table through every step (R9, R121, R127, R131). -/

namespace Sys2Proof.Machine

/-! Device entries and lists of them. -/

/-- A function that keeps a device's number and its soundness keeps a list sound. -/
theorem SoundDevices.map {ds : List Device} (h : SoundDevices ds) {f : Device → Device}
    (hn : ∀ d, (f d).number = d.number) (hs : ∀ d ∈ ds, d.Sound → (f d).Sound) : SoundDevices (ds.map f) := by
  refine ⟨by simpa using h.capacity, ?_, fun d hd => ?_⟩
  · rw [List.pairwise_map]
    exact h.distinct.imp fun hab => by rwa [hn, hn]
  · obtain ⟨a, ha, rfl⟩ := List.mem_map.1 hd
    exact hs a ha (h.each a ha)

theorem SoundDevices.nil : SoundDevices [] :=
  ⟨by simp, .nil, by simp⟩

/-- An entry at its initial values is sound (R122). -/
theorem Device.initial_sound (d : Device) : d.initial.Sound :=
  ⟨by simp [Device.initial], by simp [Device.initial], by simp [Device.initial]⟩

/-- An entry set from a sub-record with its count in range is sound (R21). -/
theorem Device.fromSub_sound (d : Device) {sub : DeviceSub} (h : sub.operations ≤ 65535) : (d.fromSub sub).Sound := by
  refine ⟨h, by simp [Device.fromSub], ?_⟩
  unfold Device.fromSub
  by_cases hp : sub.position = .travel <;> simp [hp]

theorem Device.fromSubs_sound (d : Device) {subs : List DeviceSub} (h : ∀ sub ∈ subs, sub.operations ≤ 65535) :
    (d.fromSubs subs).Sound := by
  unfold Device.fromSubs
  split
  · rename_i sub hs
    exact Device.fromSub_sound d (h sub (List.mem_of_find?_eq_some hs))
  · exact Device.initial_sound d

/-- The effect of an event's kind keeps an entry sound (Table 7-2). -/
theorem Device.Sound.applyKind {d : Device} (h : d.Sound) (kind : EventKind) (t : Nat) : (d.applyKind kind t).Sound := by
  have ends : ∀ target, target ≠ .travel → (d.reachEnd target t).Sound := by
    intro target ht
    refine ⟨?_, h.corroborations, by simp [Device.reachEnd, ht]⟩
    unfold Device.reachEnd
    dsimp only
    split
    · exact h.operations
    · omega
  cases kind with
  | opened => exact ends _ (by simp)
  | closed => exact ends _ (by simp)
  | travel =>
    refine ⟨h.operations, h.corroborations, ?_⟩
    have := h.travel
    by_cases hp : d.position = .travel <;> simp_all [Device.applyKind, Device.beginTravel]
  | _ => exact ⟨h.operations, h.corroborations, h.travel⟩

theorem Device.Sound.applyEvent {d : Device} (h : d.Sound) (kind : EventKind) (t : Nat) (source : Source) :
    (d.applyEvent kind t source).Sound :=
  ⟨(h.applyKind kind t).operations, (h.applyKind kind t).corroborations, (h.applyKind kind t).travel⟩

theorem Device.Sound.corroborate {d : Device} (h : d.Sound) : d.corroborate.Sound :=
  ⟨h.operations, by simp only [Device.corroborate]; omega, h.travel⟩

theorem Device.applyEvent_number (d : Device) (kind : EventKind) (t : Nat) (source : Source) :
    (d.applyEvent kind t source).number = d.number := by
  cases kind <;> rfl

/-- A change of one entry that keeps its number and its soundness keeps the table sound. -/
theorem SoundDevices.update {d : Dst} (h : SoundDevices d.devices) {f : Device → Device} (number : BitVec 16)
    (hn : ∀ d, (f d).number = d.number) (hs : ∀ d, d.Sound → (f d).Sound) :
    SoundDevices (d.update number f).devices := by
  refine h.map (fun x => ?_) fun x _ hx => ?_
  · split
    · exact hn x
    · rfl
  · split
    · exact hs x hx
    · exact hx

theorem SoundDevices.applyFrame {d : Dst} (h : SoundDevices d.devices) (own : BitVec 5) (f : Frame) (e : EventBody) :
    SoundDevices (d.applyFrame own f e).devices := by
  unfold Dst.applyFrame
  split
  · exact h
  · split
    · exact h.update _ (fun _ => rfl) fun _ hx => hx.corroborate
    · exact h.update _ (fun _ => Device.applyEvent_number _ _ _ _) fun _ hx => hx.applyEvent _ _ _

/-- The application of a frame leaves the reply list (R125). -/
theorem Dst.applyFrame_replies (d : Dst) (own : BitVec 5) (f : Frame) (e : EventBody) :
    (d.applyFrame own f e).replies = d.replies := by
  unfold Dst.applyFrame
  split
  · rfl
  · split <;> rfl

/-- A sub-record sets at most the entry it names (R21). -/
theorem SoundDevices.setBy {d : Dst} (h : SoundDevices d.devices) {sub : Option DeviceSub}
    (hs : ∀ x, sub = some x → x.operations ≤ 65535) : SoundDevices (d.setBy sub).devices := by
  unfold Dst.setBy
  split
  · exact h
  · exact h.update _ (fun _ => rfl) fun x _ => Device.fromSub_sound x (hs _ rfl)

/-! The start-up load's entries (R9). -/

/-- The entry of a device slot is sound. -/
theorem deviceEntryOf_sound {d : Slot} {i : Nat} {dev : Device} (h : deviceEntryOf d i = some dev) : dev.Sound := by
  unfold deviceEntryOf at h
  split at h
  · split at h
    · cases h
    · cases h
      exact ⟨by simp, by simp, by simp⟩
  · cases h

/-- An accepted entry joins a sound table and keeps it sound (R9). -/
theorem SoundDevices.accept {ds ds' : List Device} (h : SoundDevices ds) {entry : Option Device}
    (he : ∀ dev, entry = some dev → dev.Sound) (ha : acceptDevice ds entry = some ds') : SoundDevices ds' := by
  unfold acceptDevice at ha
  split at ha
  · cases ha
  · rename_i dev
    split at ha
    · cases ha
    · rename_i hc
      simp only [Bool.or_eq_true, List.any_eq_true, beq_iff_eq, decide_eq_true_eq, not_or, not_exists, not_and,
        Config.deviceCapacity] at hc
      cases ha
      refine ⟨?_, ?_, fun x hx => ?_⟩
      · have := hc.2
        simp only [List.length_append, List.length_singleton]
        omega
      · rw [List.pairwise_append]
        exact ⟨h.distinct, List.pairwise_singleton _ _, fun a ha b hb => by
          rw [List.mem_singleton.1 hb]; exact hc.1 a ha⟩
      · rcases List.mem_append.1 hx with hx | hx
        · exact h.each x hx
        · rw [List.mem_singleton.1 hx]
          exact he dev rfl

theorem SoundDevices.acceptAll {d : Slot} (n j : Nat) {ds : List Device} (h : SoundDevices ds) :
    SoundDevices (acceptDevices d n j ds).1 := by
  induction n generalizing j ds with
  | zero => exact h
  | succ n ih =>
    unfold acceptDevices
    split
    · rename_i ds' ha
      exact ih _ (h.accept (fun _ => deviceEntryOf_sound) ha)
    · exact ih _ h

/-- The operations count of a device sub-record has 16 bits (Table 11-5). -/
theorem deviceSubOf_operations {d : Slot} {sub : DeviceSub} (h : deviceSubOf d = some sub) :
    sub.operations ≤ 65535 := by
  unfold deviceSubOf at h
  split at h
  · cases h
  · split at h
    · cases h
    · cases h
      have : natAt d 4 2 < 2 ^ 16 := (bytesAt d 4 2).isLt
      simp only
      omega

/-! The table through the operations. -/

/-- What leaves table, replies, accepted entries and sub-records as they are, or ends a load, keeps the table sound. -/
theorem State.TableSound.of_eq {s t : State} (h : s.TableSound) (hd : t.dst = s.dst)
    (hl : t.rc.load = s.rc.load ∨ t.rc.load = none)
    (hc : t.afu.checkpoint = s.afu.checkpoint ∨ t.afu.checkpoint = none) : t.TableSound := by
  refine ⟨by rw [hd]; exact h.table, by rw [hd]; exact h.replies, fun p hp => ?_, fun c hp => ?_⟩
  · rcases hl with hl | hl <;> rw [hl] at hp
    · exact h.loading p hp
    · cases hp
  · rcases hc with hc | hc <;> rw [hc] at hp
    · exact h.staged c hp
    · cases hp

theorem State.TableSound.works {s t : State} (h : s.TableSound) (w : s.Works t) : t.TableSound := by
  refine ⟨by rw [w.devices]; exact h.table, w.replies h.replies, fun p hp => ?_, fun c hp => ?_⟩
  · rw [w.rc] at hp
    exact h.loading p hp
  · rw [w.port] at hp
    exact h.staged c hp

/-- The device entries take sound values while the replies stay or are cleared. -/
theorem State.TableSound.withDst {s t : State} (h : s.TableSound) (hd : SoundDevices t.dst.devices)
    (hr : t.dst.replies.Nodup) (hl : t.rc.load = s.rc.load ∨ t.rc.load = none)
    (hc : t.afu.checkpoint = s.afu.checkpoint ∨ t.afu.checkpoint = none) : t.TableSound := by
  have := h.of_eq (t := { t with dst := s.dst }) rfl hl hc
  exact ⟨hd, hr, this.loading, this.staged⟩

theorem State.TableSound.settle {s : State} (h : s.TableSound) : s.settle.TableSound := by
  have drain : (State.drainFront 16 s).TableSound := by
    refine State.drainFront_induct (P := State.TableSound) (fun u l hu => ?_) 16 h
    unfold State.applySilent
    split
    · exact hu
    · exact hu.withDst (hu.table.update _ (fun _ => Device.applyEvent_number _ _ _ _) fun _ hx => hx.applyEvent _ _ _)
        hu.replies (.inl rfl) (.inl rfl)
  have seek : s.settleSeek.TableSound := by
    rcases s.settleSeek_cases with e | ⟨-, -, e | e⟩ <;> rw [e]
    · exact h
    · exact drain
    · exact drain.of_eq (by simp) (by simp) (by simp)
  exact seek.of_eq (by simp [State.settle]) (by simp [State.settle]) (by simp [State.settle])

theorem State.TableSound.withdraw {s : State} (h : s.TableSound) : s.withdraw.TableSound :=
  h.withDst (by simpa using h.table) (by simp) (by simp) (by simp)

theorem State.TableSound.enterFaulted {s : State} (h : s.TableSound) (c : FaultCause) : (s.enterFaulted c).TableSound :=
  h.withDst (by simpa using SoundDevices.nil) (by simp) (by simp) (by simp)

theorem State.TableSound.loadSubs {s : State} (h : s.TableSound) (lanes : List LaneSub) {devices : List DeviceSub}
    (hd : ∀ sub ∈ devices, sub.operations ≤ 65535) : (s.loadSubs lanes devices).TableSound := by
  refine h.withDst ?_ (by simpa using h.replies) (by simp) (by simp)
  rw [State.loadSubs_dst_devices]
  refine h.table.map (fun d => ?_) fun d _ _ => Device.fromSubs_sound d hd
  unfold Device.fromSubs
  split <;> rfl

theorem State.TableSound.replayFromNominal {s : State} (h : s.TableSound) : s.replayFromNominal.TableSound :=
  (h.loadSubs [] (devices := []) (by simp)).of_eq (by simp [State.replayFromNominal])
    (by simp [State.replayFromNominal]) (by simp [State.replayFromNominal])

theorem State.TableSound.replayFromCheckpoint {s : State} (h : s.TableSound) {c : CheckpointLoad}
    (hc : ∀ sub ∈ c.devices, sub.operations ≤ 65535) : (s.replayFromCheckpoint c).TableSound := by
  have hl := h.loadSubs c.lanes.reverse (devices := c.devices.reverse) (by simpa using hc)
  unfold State.replayFromCheckpoint State.decideSeek
  split <;> exact hl.of_eq (by simp) (by simp) (by simp)

theorem State.TableSound.beginSeek {s : State} (h : s.TableSound) (t : Nat) : (s.beginSeek t).TableSound := by
  have hb : (s.seekBlocks t).TableSound := h.of_eq (by simp) (by simp) (by simp)
  unfold State.beginSeek State.beginLoad
  split
  · exact hb.replayFromNominal
  · refine ⟨hb.table, hb.replies, hb.loading, fun c hc => ?_⟩
    cases hc
    simp

/-- The slot of a usable checkpoint stages at most one more sub-record, its count in range (R19). -/
theorem CheckpointLoad.takeSlot_operations {c c' : CheckpointLoad} {area : Nat} {d : Slot}
    (h : c.takeSlot area d = some c') (hc : ∀ sub ∈ c.devices, sub.operations ≤ 65535) :
    ∀ sub ∈ c'.devices, sub.operations ≤ 65535 := by
  unfold CheckpointLoad.takeSlot at h
  split at h
  · cases h
  · dsimp only at h
    obtain ⟨r, hr, rfl⟩ := Option.map_eq_some_iff.1 h
    split at hr
    · unfold CheckpointLoad.takeHeader at hr
      dsimp only at hr
      split at hr
      · cases hr
        exact hc
      · cases hr
    · split at hr
      · unfold CheckpointLoad.takeLaneSlot at hr
        split at hr
        · split at hr
          · cases hr
            exact hc
          · cases hr
        · cases hr
          exact hc
      · unfold CheckpointLoad.takeDeviceSlot at hr
        split at hr
        · cases hr
        · rename_i sub hs
          cases hr
          intro x hx
          rcases List.mem_cons.1 hx with rfl | hx
          · exact deviceSubOf_operations hs
          · exact hc x hx

/-- The device sub-record that a slot newly names has its count in range. -/
theorem CheckpointLoad.newDevice_operations {c : CheckpointLoad} {d : Slot} {sub : DeviceSub}
    (h : c.newDevice d = some sub) : sub.operations ≤ 65535 := by
  unfold CheckpointLoad.newDevice at h
  split at h
  · cases h
  · split at h
    · cases h
    · split at h
      · cases h
      · cases h
        exact deviceSubOf_operations ‹_›

theorem State.TableSound.checkpointAnswer {s : State} (h : s.TableSound) {c : CheckpointLoad}
    (hc : s.afu.checkpoint = some c) (d : Slot) : (s.checkpointAnswer c d).TableSound := by
  unfold State.checkpointAnswer
  split
  · exact State.TableSound.replayFromNominal (h.of_eq (by simp) (by simp) (by simp))
  · rename_i c' hc'
    have hops := CheckpointLoad.takeSlot_operations hc' (h.staged c hc)
    have hset : (s.setFromSlot c d).TableSound :=
      h.withDst (h.table.setBy fun _ => CheckpointLoad.newDevice_operations) (by simpa using h.replies) (by simp)
        (by simp)
    unfold State.nextCheckpoint
    split
    · refine ⟨hset.table, hset.replies, hset.loading, fun x hx => ?_⟩
      cases hx
      exact hops
    · exact State.TableSound.replayFromCheckpoint (hset.of_eq (by simp) (by simp) (by simp)) hops

/-- The next slot of the load is read with sound entries accepted so far. -/
theorem State.TableSound.readLoad {s : State} (h : s.TableSound) {p : LoadProgress} (hp : SoundDevices p.devices)
    (stage : LoadStage) (slot : Nat) : (s.readLoad p stage slot).TableSound := by
  refine ⟨h.table, h.replies, fun q hq => ?_, h.staged⟩
  cases hq
  exact hp

theorem State.TableSound.loadDirectory {s : State} (h : s.TableSound) {p : LoadProgress}
    (hp : SoundDevices p.devices) : (s.loadDirectory p).TableSound := by
  unfold State.loadDirectory
  split
  · exact h.enterFaulted _
  · split
    · exact h.withDst (by simpa using hp) (by simpa using h.replies) (by simp) (by simp)
    · split
      · exact h.enterFaulted _
      · exact h.readLoad (by exact hp) _ _

theorem State.TableSound.loadRanges {s : State} (h : s.TableSound) {p : LoadProgress}
    (hp : SoundDevices p.devices) : (s.loadRanges p).TableSound := by
  unfold State.loadRanges
  split
  · exact h.enterFaulted _
  · split
    · exact h.loadDirectory hp
    · exact h.readLoad (by exact hp) _ _

/-- A slot of the start-up load keeps the accepted entries sound, and puts them in place at its end (R9, R23). -/
theorem State.TableSound.loadAnswer {s : State} (h : s.TableSound) {p : LoadProgress}
    (hp : SoundDevices p.devices) (d : Slot) : (s.loadAnswer p d).TableSound := by
  have warn : ∀ b, (s.warnIf b).TableSound := fun b => h.of_eq rfl (.inl rfl) (.inl rfl)
  unfold State.loadAnswer
  split
  · unfold State.loadHeader State.checkHeader
    split
    · exact (warn _).enterFaulted _
    · split
      · exact (warn _).enterFaulted _
      · exact (warn _).readLoad (by exact hp) _ _
  · unfold State.loadLane State.checkLane
    split
    · exact (warn _).enterFaulted _
    · split
      · exact (warn _).enterFaulted _
      · unfold State.acceptLane State.loadDevicesPart
        split
        · exact (warn _).readLoad (by exact hp) _ _
        · split
          · exact (warn _).enterFaulted _
          · split
            · exact (warn _).enterFaulted _
            · split
              · exact (warn _).loadRanges hp
              · exact (warn _).readLoad (by exact hp) _ _
  · have hds : ∀ i, SoundDevices (devicesOfSlot p i d).1 := fun i => hp.acceptAll _ _
    unfold State.loadDeviceSlot State.nextDevices
    split
    · exact (warn _).readLoad (by exact hds _) _ _
    · exact (warn _).loadRanges (by exact hds _)
  · unfold State.loadRangeSlot
    split
    · exact h.loadDirectory hp
    · exact h.enterFaulted _
  · unfold State.loadDirectorySlot
    split
    · exact h.enterFaulted _
    · unfold State.nextDirectory
      split
      · exact h.readLoad (by exact hp) _ _
      · exact h.withDst (by simpa using hp) (by simpa using h.replies) (by simp) (by simp)

theorem Dst.query_sound {d : Dst} (h : d.replies.Nodup) (n : Nat) :
    (d.query n).devices = d.devices ∧ (d.query n).replies.Nodup := by
  unfold Dst.query
  split
  · split
    · exact ⟨rfl, h⟩
    · split
      · rename_i hc
        simp only [Bool.and_eq_true, Bool.not_eq_true', List.contains_eq_mem, decide_eq_false_iff_not] at hc
        refine ⟨rfl, List.nodup_append.2 ⟨h, by simp, fun a ha b hb => ?_⟩⟩
        rw [List.mem_singleton.1 hb]
        rintro rfl
        exact hc.2 ha
      · exact ⟨rfl, h⟩
  · exact ⟨rfl, h⟩

/-! The other operations leave device entries, replies and loads as they are. -/

/-- The device table and both loads are as they were. -/
structure State.SameTable (s t : State) : Prop where
  dst : t.dst = s.dst
  load : t.rc.load = s.rc.load
  checkpoint : t.afu.checkpoint = s.afu.checkpoint

theorem State.TableSound.same {s t : State} (h : s.TableSound) (e : s.SameTable t) : t.TableSound :=
  h.of_eq e.dst (.inl e.load) (.inl e.checkpoint)

theorem State.sameTable_readAtOpen (s : State) (line : Level) : s.SameTable (s.readAtOpen line) := by
  unfold State.readAtOpen
  split
  · split <;> exact ⟨rfl, rfl, rfl⟩
  · exact ⟨rfl, rfl, rfl⟩

theorem State.sameTable_suspendOn (s : State) (level : Level) : s.SameTable (s.suspendOn level) := by
  unfold State.suspendOn
  split
  · exact ⟨rfl, rfl, rfl⟩
  · split <;> exact ⟨rfl, rfl, rfl⟩

theorem State.sameTable_trapAtWinning (s : State) (e : Entry) (a : AnomalySet) : s.SameTable (s.trapAtWinning e a) := by
  unfold State.trapAtWinning State.abandonVisit State.trapLane
  split <;> exact ⟨by simp, by simp, by simp⟩

theorem State.sameTable_adoptCut (s : State) (c : Nat) : s.SameTable (s.adoptCut c) := by
  unfold State.adoptCut
  split <;> exact ⟨by simp, by simp, by simp⟩

theorem State.sameTable_takeCut (s : State) (f : Frame) : s.SameTable (s.takeCut f) := by
  have ha := s.sameTable_adoptCut f.key.toNat
  have own : ∀ o, s.SameTable (s.takeOwnCut f.key.toNat o) := by
    intro o
    unfold State.takeOwnCut State.adoptOwnCut
    split <;> exact ⟨by simp [ha.dst], by simp [ha.load], by simp [ha.checkpoint]⟩
  unfold State.takeCut
  split
  · split
    · exact own _
    · exact ha
  all_goals exact ha

theorem State.sameTable_closeEpoch (s : State) (n : Nat) : s.SameTable (s.closeEpoch n) := by
  unfold State.closeEpoch
  exact ⟨by simp, by simp, by simp⟩

/-- RUN, PAUSE and STEP act on mode, budget and pause alone (R113, R114). -/
theorem State.sameTable_modeCommands (s : State) (n : Nat) :
    s.SameTable s.doRun ∧ s.SameTable s.doPause ∧ s.SameTable (s.doStep n) := by
  refine ⟨?_, ?_, ?_⟩
  · unfold State.doRun
    split <;> exact ⟨rfl, rfl, rfl⟩
  · unfold State.doPause
    split
    · exact ⟨rfl, rfl, rfl⟩
    · split <;> exact ⟨rfl, rfl, rfl⟩
    all_goals exact ⟨rfl, rfl, rfl⟩
  · unfold State.doStep
    split <;> exact ⟨rfl, rfl, rfl⟩

/-- The path of a read that has failed keeps the table sound (R4, R19, R30). -/
theorem State.TableSound.readFailed {s : State} (h : s.TableSound) (owner : ReadOwner) :
    (s.readFailed owner).TableSound := by
  unfold State.readFailed
  split
  · exact h.enterFaulted _
  · exact h.same ⟨by simp [State.loseLane], by simp [State.loseLane], by simp [State.loseLane]⟩
  · exact State.TableSound.replayFromNominal (h.of_eq rfl (.inl rfl) (.inl rfl))

/-- Every effect of a command keeps the device table sound. -/
theorem State.Effect.tableSound {s t : State} (e : s.Effect t) (h : s.TableSound) : t.TableSound := by
  have line : ∀ {u : State}, u.TableSound → u.refreshDrive.TableSound := fun hu => hu.same ⟨rfl, rfl, rfl⟩
  have pop : s.popInbound.TableSound := h.works s.works_popInbound
  cases e with
  | words => exact h.same ⟨rfl, rfl, rfl⟩
  | loadAnswer n r p d _ hp => exact line (h.loadAnswer (h.loading p hp) d)
  | retry => exact h.same ⟨rfl, rfl, rfl⟩
  | readFailed r _ => exact (h.readFailed r.owner).settle
  | visit l _ _ _ => exact h.same ⟨by simp [State.beginVisit], by simp [State.beginVisit], by simp [State.beginVisit]⟩
  | laneAnswer l n r d _ =>
    have ha : (s.answerTaken l).TableSound := h.same ⟨rfl, rfl, rfl⟩
    have ht := ha.works (State.works_takeSlot (l := l) (by simp) d)
    refine State.TableSound.settle ?_
    unfold State.continueVisit
    split
    · exact ht.same ⟨by simp, by simp, by simp⟩
    · exact ht.same ⟨rfl, rfl, rfl⟩
  | checkpointAnswer n r c d _ hc => exact (h.checkpointAnswer hc d).settle
  | bus => exact h.same ⟨rfl, rfl, rfl⟩
  | opened ln => exact line ((h.same (s.sameTable_readAtOpen ln)).works (State.works_beginAttempt _))
  | stretchEnds o ln _ =>
    refine line ?_
    rcases s.endStretch_cases o ln with hw | ⟨e, a, -, -, he⟩ | he
    · exact h.works hw
    · rw [he]
      exact h.same (s.sameTable_trapAtWinning e a)
    · rw [he]
      exact (h.same (s.sameTable_suspendOn _)).works (State.works_busIdle _)
  | attemptFails =>
    have hi := h.works s.works_busIdle
    rcases s.busIdle.failAttempt_cases with hw | ⟨-, u, hu, he⟩
    · exact line (hi.works hw)
    · rw [he]
      exact line (hi.works hu).withdraw
  | ownAccepted o _ => exact (h.works (s.works_ownAccepted o)).settle
  | heardAccepted hd =>
    refine State.TableSound.settle ?_
    rcases s.heardAccepted_cases hd with hw | ⟨-, u, hu, he⟩ | ⟨-, u, hu, he⟩ | ⟨-, u, t, hu, -, he⟩
    · exact h.works hw
    · rw [he]
      exact (h.works hu).withdraw
    · rw [he]
      exact (h.works hu).enterFaulted _
    · rw [he]
      exact (h.works hu).beginSeek t
  | heardVetoed hd =>
    refine line ?_
    rcases s.heardVetoed_cases hd with hw | ⟨-, u, hu, he⟩
    · exact h.works hw
    · rw [he]
      exact (h.works hu).withdraw
  | dropped => exact pop
  | cut f _ _ => exact (pop.same (State.sameTable_takeCut _ f)).settle
  | event f e _ _ _ =>
    exact pop.withDst (h.table.applyFrame _ f e) (by simpa [Dst.applyFrame_replies] using h.replies) (.inl rfl)
      (.inl rfl)
  | historyEnds => exact State.TableSound.settle (pop.same ⟨rfl, rfl, rfl⟩)
  | epochCloses f _ _ _ => exact (pop.same (State.sameTable_closeEpoch _ _)).settle
  | nextIgnored => exact line pop
  | closePulseEnds => exact h.same ⟨rfl, rfl, rfl⟩
  | timerSet => exact h.same ⟨rfl, rfl, rfl⟩
  | rises =>
    refine line (h.same ?_)
    unfold State.rise
    split <;> exact ⟨rfl, rfl, rfl⟩
  | suspends => exact line (h.same (s.sameTable_suspendOn _))
  | timebase b =>
    have ht : State.TableSound { s with pu.timebase := b } := h.same ⟨rfl, rfl, rfl⟩
    exact ht.works (State.works_placeStatus _)
  | run => exact line (pop.same (s.popInbound.sameTable_modeCommands 0).1)
  | pause => exact line (pop.same (s.popInbound.sameTable_modeCommands 0).2.1)
  | step f a _ => exact line (pop.same (s.popInbound.sameTable_modeCommands (stepArg a)).2.2)
  | seek f a _ => exact (pop.beginSeek _).settle
  | halt => exact line (pop.of_eq (by simp) (by simp) (by simp))
  | epoch => exact pop.same ⟨rfl, rfl, rfl⟩
  | rate => exact pop.same ⟨rfl, rfl, rfl⟩
  | release f l action _ hl => exact (pop.works (State.works_releaseLane (by simpa using hl) action)).settle
  | query f a n _ _ =>
    obtain ⟨hd, hr⟩ := Dst.query_sound (d := s.dst) h.replies n
    exact pop.withDst (by simpa [hd] using h.table) hr (.inl rfl) (.inl rfl)
  | poll => exact pop.works (State.works_placeStatus _)

theorem State.reset_tableSound : State.reset.TableSound :=
  ⟨SoundDevices.nil, .nil, nofun, nofun⟩

/-- Settles O57: every effect keeps the table sound, and both ends of a reset leave it empty. -/
theorem stepKeepsTheDeviceTableSound : Obligations.StepKeepsTheDeviceTableSound := by
  intro s t h hst
  refine step_keeps (Q := State.TableSound) (P := fun _ t => t.TableSound) hst h
    (queue := fun _ h => h.same ⟨rfl, rfl, rfl⟩) (back := fun _ h => h) (same := fun _ h => h)
    (effect := fun _ _ h _ e => e.tableSound h)
    (reset := fun _ _ _ => State.reset_tableSound.same ⟨rfl, rfl, rfl⟩) (resetEnd := fun s straps b h _ => ?_)
  have hl : State.TableSound { s with inReset := false, straps := straps, pu.timebase := b } := h.same ⟨rfl, rfl, rfl⟩
  exact hl.readLoad SoundDevices.nil _ _

end Sys2Proof.Machine
end

section
/-! PROOFS. The archive port and the hold line through every step (R24, R26, R28, R103, R105, R171). -/

namespace Sys2Proof.Machine

/-! What the end of a command does to lanes and cut record. -/

/-- The draining of the front takes silent events from lanes and changes nothing else of them (R161). -/
theorem State.drainFront_lane (n : Nat) (s : State) (m : Fin 16) :
    ∃ y, (State.drainFront n s).lane m = { s.lane m with silent := y } := by
  refine State.drainFront_induct (P := fun u => ∃ y, u.lane m = { s.lane m with silent := y }) (fun u l hu => ?_) n
    ⟨_, rfl⟩
  obtain ⟨y, hy⟩ := hu
  rw [State.lane_applySilent]
  split
  · exact ⟨none, by rw [hy]⟩
  · exact ⟨y, hy⟩

/-- A seek completes at the end of a command only when no lane is READY or WAITING (R162). -/
theorem State.settleSeek_completes (s : State) :
    s.settleSeek = s ∨
      s.rc.mode = .seeking ∧ s.afu.checkpoint = none ∧
        (s.settleSeek = State.drainFront 16 s ∨
          (∀ l, (s.lane l).state ≠ .ready ∧ (s.lane l).state ≠ .waiting) ∧
            s.settleSeek = (State.drainFront 16 s).completeSeek) := by
  unfold State.settleSeek
  split
  · rename_i h
    simp only [State.replaysSilently, Bool.and_eq_true, beq_iff_eq, Option.isNone_iff_eq_none] at h
    refine .inr ⟨h.1, h.2, ?_⟩
    unfold State.finishReplay
    split
    · rename_i hf
      simp only [Bool.and_eq_true, Bool.not_eq_true', Bool.eq_false_iff, ne_eq] at hf
      rw [State.anyReading, State.anyLane_iff, not_exists] at hf
      refine .inr ⟨fun l => ?_, rfl⟩
      obtain ⟨y, hy⟩ := s.drainFront_lane 16 l
      simpa [hy] using hf.2 l
    · exact .inl rfl
  · exact .inl rfl

/-- The cut record is settled to ABSENT or PENDING, and stays TAKEN (R74, R75). -/
theorem State.settleCut_taken (s : State) : s.settleCut.mq.cut = .taken ↔ s.mq.cut = .taken := by
  have hc : s.computeCut ≠ .taken := by
    unfold State.computeCut
    split <;> simp
  unfold State.settleCut
  cases h : s.mq.cut with
  | pending => dsimp only; split <;> simp [h]
  | absent => dsimp only; split <;> simp [h, hc]
  | taken => simp [h]

/-! The port where its read goes on, and where it is idle. -/

/-- The read that is outstanding goes on, with its words: the modes stay, or a mode of the epoch protocol or ENDED comes
after a load has ended, and a visit that can no longer read on is marked to end. -/
structure State.ReadGoesOn (s t : State) : Prop where
  live : t.inReset = false
  load : t.rc.load = s.rc.load
  mode : t.rc.mode = s.rc.mode ∨ s.rc.load = none ∧ s.afu.checkpoint = none ∧
    (t.rc.mode = .paused ∨ t.rc.mode = .running ∨ t.rc.mode = .ended)
  request : t.afu.request = s.afu.request
  checkpoint : t.afu.checkpoint = s.afu.checkpoint
  words : t.afu.words = s.afu.words
  waiting : ∀ r l, s.afu.request = some r → r.owner = .lane l → (s.lane l).state = .waiting →
    (t.lane l).state = .waiting
  visits : s.LaneReadOutstanding → s.MakesVisits ∨ s.afu.visitEnding = true →
    t.MakesVisits ∨ t.afu.visitEnding = true
  ending : s.afu.visitEnding = true → t.afu.visitEnding = true
  began : t.afu.visitEnding = true → s.afu.visitEnding = true ∨ s.LaneReadOutstanding

/-- The port is idle: no read is outstanding, and a load in progress is one that the mode allows. -/
structure State.PortIdle (t : State) : Prop where
  live : t.inReset = false
  load : t.rc.load.isSome = true → t.rc.mode = .loading
  checkpoint : t.afu.checkpoint.isSome = true → t.rc.mode = .seeking
  request : t.afu.request = none
  words : t.afu.words = []
  visitEnding : t.afu.visitEnding = false

/-- The port is sound after a step from `s`, and a visit that was to end is still to end or is over. -/
structure State.PortKept (s t : State) : Prop where
  live : t.inReset = false
  sound : t.PortSound
  ending : s.afu.visitEnding = true → t.afu.visitEnding = true ∨ ¬t.LaneReadOutstanding

theorem State.ReadGoesOn.kept {s t : State} (g : s.ReadGoesOn t) (h : s.PortSound) : s.PortKept t := by
  refine ⟨g.live, ⟨fun hl => ?_, fun hc => ?_, ?_, ?_, fun r l hr ho => ?_, ?_, fun r l hr ho => ?_, fun hv => ?_, ?_⟩,
    fun hv => .inl (g.ending hv)⟩
  · rw [g.load] at hl
    rcases g.mode with hm | ⟨hn, -⟩
    · rw [hm]
      exact h.loading hl
    · rw [hn] at hl
      cases hl
  · rw [g.checkpoint] at hc
    rcases g.mode with hm | ⟨-, hn, -⟩
    · rw [hm]
      exact h.seeking hc
    · rw [hn] at hc
      cases hc
  · rw [g.request, g.load]
    exact h.forLoad
  · rw [g.request, g.checkpoint]
    exact h.forCheckpoint
  · rw [g.request] at hr
    obtain ⟨hw, hm⟩ := h.forLane r l hr ho
    refine ⟨g.waiting r l hr ho hw, ?_⟩
    rcases g.mode with hm' | ⟨-, -, hm'⟩
    · rwa [hm']
    · exact .inr hm'
  · rw [g.words, g.request]
    exact h.words
  · rw [g.request] at hr
    exact g.visits ⟨r, l, hr, ho⟩ (h.visits r l hr ho)
  · rw [g.request]
    rcases g.began hv with hv | ⟨r, l, hr, ho⟩
    · exact h.ending hv
    · exact ⟨r, l, hr, ho⟩
  · simp [g.live]

theorem State.PortIdle.sound {t : State} (g : t.PortIdle) : t.PortSound := by
  refine ⟨g.load, g.checkpoint, ?_, ?_, ?_, ?_, ?_, ?_, ?_⟩
  · simp [g.request]
  · simp [g.request]
  · simp [g.request]
  · simp [g.words]
  · simp [g.request]
  · simp [g.visitEnding]
  · simp [g.live]

theorem State.PortIdle.kept {s t : State} (g : t.PortIdle) : s.PortKept t :=
  ⟨g.live, g.sound, fun _ => .inr fun ⟨r, _, hr, _⟩ => by rw [g.request] at hr; cases hr⟩

/-- A load's read has been issued on a port whose visit is over. -/
theorem State.portSound_readLoad {s : State} (hr : s.inReset = false) (hm : s.rc.mode = .loading)
    (hc : s.afu.checkpoint.isSome = true → s.rc.mode = .seeking) (hv : s.afu.visitEnding = false) (p : LoadProgress)
    (stage : LoadStage) (slot : Nat) : (s.readLoad p stage slot).PortSound := by
  refine ⟨fun _ => hm, hc, fun _ _ _ => rfl, ?_, ?_, by simp, ?_, ?_, ?_⟩
  · rintro _ ⟨⟩ ⟨⟩
  · rintro _ _ ⟨⟩ ⟨⟩
  · rintro _ _ ⟨⟩ ⟨⟩
  · simp [hv]
  · simp [hr]

/-- A checkpoint's read has been issued on a port whose visit is over. -/
theorem State.portSound_readCheckpoint {s : State} (hr : s.inReset = false) (hm : s.rc.mode = .seeking)
    (hl : s.rc.load = none) (hv : s.afu.visitEnding = false) (c : CheckpointLoad) (slot : Nat) :
    State.PortSound (State.issueRead { s with afu.checkpoint := some c } .checkpoint slot false) := by
  refine ⟨?_, fun _ => hm, ?_, fun _ _ _ => rfl, ?_, by simp, ?_, ?_, ?_⟩
  · simp [hl]
  · rintro _ ⟨⟩ ⟨⟩
  · rintro _ _ ⟨⟩ ⟨⟩
  · rintro _ _ ⟨⟩ ⟨⟩
  · simp [hv]
  · simp [hr]

/-- Where the outstanding read is not a lane's, no visit is to end. -/
theorem State.PortSound.visitEnding_of_owner {s : State} (h : s.PortSound) {r : Request} (hr : s.afu.request = some r)
    (ho : ∀ l, r.owner ≠ .lane l) : s.afu.visitEnding = false := by
  rw [Bool.eq_false_iff]
  intro hv
  obtain ⟨r', l, hr', hl⟩ := h.ending hv
  rw [hr] at hr'
  cases hr'
  exact ho l hl

/-- With no read outstanding, no visit is to end. -/
theorem State.PortSound.visitEnding_of_idle {s : State} (h : s.PortSound) (hr : s.afu.request = none) :
    s.afu.visitEnding = false := by
  rw [Bool.eq_false_iff]
  intro hv
  obtain ⟨r', l, hr', -⟩ := h.ending hv
  rw [hr] at hr'
  cases hr'

/-- Outside LOADING no start-up load is in progress. -/
theorem State.PortSound.load_none {s : State} (h : s.PortSound) (hm : s.rc.mode ≠ .loading) : s.rc.load = none := by
  rw [← Option.not_isSome_iff_eq_none]
  exact fun hl => hm (h.loading hl)

/-- Outside SEEKING no checkpoint load is in progress. -/
theorem State.PortSound.checkpoint_none {s : State} (h : s.PortSound) (hm : s.rc.mode ≠ .seeking) :
    s.afu.checkpoint = none := by
  rw [← Option.not_isSome_iff_eq_none]
  exact fun hl => hm (h.seeking hl)

/-- Outside the two conditions for visits, a lane's read belongs to a visit that is to end (R24). -/
theorem State.PortSound.ending_of_not_visits {s : State} (h : s.PortSound) (hv : ¬s.MakesVisits)
    (ho : s.LaneReadOutstanding) : s.afu.visitEnding = true := by
  obtain ⟨r, l, hr, ho⟩ := ho
  exact (h.visits r l hr ho).resolve_left hv

/-- A mode that takes frames is not LOADING. -/
theorem Mode.ne_loading_of_takesFrames {m : Mode} (h : m.takesFrames = true) : m ≠ .loading := by
  rintro rfl
  cases h

/-! The operations, one by one. -/

/-- Work on lanes, queues and offers lets the outstanding read go on. -/
theorem State.Works.readGoesOn {s t : State} (w : s.Works t) (hr : s.inReset = false) : s.ReadGoesOn t := by
  have hv : t.MakesVisits ↔ s.MakesVisits := by
    unfold State.MakesVisits
    rw [w.rc, w.pu, w.cut, w.port]
  refine ⟨w.inReset.trans hr, by rw [w.rc], .inl (by rw [w.rc]), by rw [w.port], by rw [w.port], by rw [w.port],
    fun _ l _ _ => (w.lanes l).waiting, fun _ h => ?_, ?_, ?_⟩
  · rw [hv, w.port]
    exact h
  · rw [w.port]
    exact id
  · rw [w.port]
    exact .inl

theorem State.PortSound.works {s t : State} (h : s.PortSound) (hr : s.inReset = false) (w : s.Works t) : t.PortSound :=
  ((w.readGoesOn hr).kept h).sound

/-- The ceasing of visits marks a lane's read to end its visit (R24). -/
theorem State.readGoesOn_ceaseVisits {s t : State} (hr : s.inReset = false)
    (ht : t = { s with pu := t.pu, mq.cut := t.mq.cut }) (hl : t.afu.lanes = s.afu.lanes) :
    s.ReadGoesOn t.ceaseVisits := by
  have hreads : t.readsForLane = true ↔ s.LaneReadOutstanding := by
    rw [State.readsForLane_iff, ht]
    rfl
  have hafu : t.afu = s.afu := by rw [ht]
  have hend : t.ceaseVisits.afu.visitEnding = true ↔ s.afu.visitEnding = true ∨ s.LaneReadOutstanding := by
    unfold State.ceaseVisits
    simp only [Bool.or_eq_true, hreads, hafu]
  refine ⟨by rw [State.ceaseVisits_inReset, ht]; exact hr, by rw [State.ceaseVisits_rc, ht],
    .inl (by rw [State.ceaseVisits_rc, ht]), by rw [State.ceaseVisits_afu_request, hafu],
    by rw [State.ceaseVisits_afu_checkpoint, hafu], by rw [State.ceaseVisits_afu_words, hafu],
    fun _ l _ _ hw => ?_, fun ho _ => .inr (hend.2 (.inr ho)), fun h => hend.2 (.inl h), hend.1⟩
  have : t.ceaseVisits.lane l = s.lane l := State.lane_congr hl l
  rwa [this]

/-- A change of the Pace Unit alone that lets visits that were made be made. -/
theorem State.readGoesOn_pu {s : State} (hr : s.inReset = false) (pu : Pu)
    (hv : s.MakesVisits → State.MakesVisits { s with pu := pu }) : s.ReadGoesOn { s with pu := pu } :=
  ⟨hr, rfl, .inl rfl, rfl, rfl, rfl, fun _ _ _ _ => id, fun _ h => h.imp hv id, id, .inl⟩

/-- A PAUSED or RUNNING engine outside GATHER makes no visits (R24). -/
theorem State.not_makesVisits {s : State} (hm : s.rc.mode.replaying = true) (hp : s.pu.phase ≠ .gather) :
    ¬s.MakesVisits := by
  rintro (⟨-, h, -⟩ | ⟨h, -⟩)
  · exact hp h
  · rw [h] at hm
    cases hm

theorem State.readGoesOn_refl {s : State} (hr : s.inReset = false) : s.ReadGoesOn s :=
  (State.Works.refl s).readGoesOn hr

theorem State.readGoesOn_suspendOn {s : State} (hr : s.inReset = false) (level : Level) :
    s.ReadGoesOn (s.suspendOn level) := by
  unfold State.suspendOn
  split
  · exact State.readGoesOn_refl hr
  · split
    · rename_i hc
      simp only [Bool.and_eq_true, beq_iff_eq] at hc
      exact State.readGoesOn_pu hr _ fun h => absurd h (State.not_makesVisits hc.1 (by simp [hc.2]))
    · exact State.readGoesOn_refl hr

theorem State.readGoesOn_enterEmit {s : State} (hr : s.inReset = false) : s.ReadGoesOn s.enterEmit :=
  State.readGoesOn_ceaseVisits hr rfl rfl

/-- The phase that a reading of BHL at an open condition leaves, by the phase before (R87, R107, R108). -/
theorem phaseAtOpen_eq {phase : Phase} {level : Level} :
    (phaseAtOpen phase level = .gather → phase = .gather) ∧
      (phaseAtOpen phase level = .suspended → phase ≠ .gather) ∧
      (phaseAtOpen phase level = .emit → level = .recessive) := by
  cases phase <;> cases level <;> simp [phaseAtOpen]

theorem State.readGoesOn_readAtOpen {s : State} (hr : s.inReset = false) (line : Level) :
    s.ReadGoesOn (s.readAtOpen line) := by
  unfold State.readAtOpen
  split
  · rename_i hm
    split
    · exact State.readGoesOn_enterEmit hr
    · rename_i hp
      refine State.readGoesOn_pu hr _ fun h => ?_
      have hg := phaseAtOpen_eq.1 hp
      unfold State.MakesVisits at h ⊢
      rwa [hg] at h
    · rename_i hp
      exact State.readGoesOn_pu hr _ fun h => absurd h (State.not_makesVisits hm (phaseAtOpen_eq.2.1 hp))
  · exact State.readGoesOn_refl hr

theorem State.ReadGoesOn.trans {s t u : State} (h : s.ReadGoesOn t) (g : t.ReadGoesOn u) : s.ReadGoesOn u := by
  have ho : t.LaneReadOutstanding ↔ s.LaneReadOutstanding := by
    unfold State.LaneReadOutstanding
    rw [h.request]
  refine ⟨g.live, g.load.trans h.load, ?_, g.request.trans h.request, g.checkpoint.trans h.checkpoint,
    g.words.trans h.words, fun r l hr hl hw => g.waiting r l (by rw [h.request]; exact hr) hl (h.waiting r l hr hl hw),
    fun hs hv => g.visits (ho.2 hs) (h.visits hs hv), fun hv => g.ending (h.ending hv), fun hv => ?_⟩
  · rcases g.mode with hm | ⟨h1, h2, h3⟩
    · rw [hm]
      exact h.mode
    · exact .inr ⟨by rw [← h.load]; exact h1, by rw [← h.checkpoint]; exact h2, h3⟩
  · rcases g.began hv with hv | hv
    · exact h.began hv
    · exact .inr (ho.1 hv)

/-- The drive of BHL is no concern of the port. -/
theorem State.readGoesOn_refreshDrive {s : State} (hr : s.inReset = false) : s.ReadGoesOn s.refreshDrive :=
  State.readGoesOn_pu hr _ id

/-- The adoption of a cut moves the window end and the lanes (R76). -/
theorem State.readGoesOn_adoptCut {s : State} (hr : s.inReset = false) (c : Nat) : s.ReadGoesOn (s.adoptCut c) := by
  unfold State.adoptCut
  split
  · have h := State.readGoesOn_pu hr { s.pu with windowEnd := c } id
    exact h.trans ((State.works_retestLanes _).readGoesOn h.live)
  · exact State.readGoesOn_refl hr

theorem State.readGoesOn_takeCut {s : State} (hr : s.inReset = false) (f : Frame) : s.ReadGoesOn (s.takeCut f) := by
  have ha := State.readGoesOn_adoptCut hr f.key.toNat
  have own : s.ReadGoesOn (s.adoptOwnCut f.key.toNat) := ha.trans (State.readGoesOn_ceaseVisits ha.live rfl rfl)
  unfold State.takeCut
  split
  · split
    · unfold State.takeOwnCut
      split
      · exact own
      · exact own.trans ((State.works_raiseFinding _ _).readGoesOn own.live)
    · exact ha
  all_goals exact ha

/-- What a frame of the emit finds: a mode of the epoch protocol outside GATHER (R110). -/
theorem State.inEmit_iff {s : State} : s.inEmit = true ↔ s.rc.mode.replaying = true ∧ s.pu.phase ≠ .gather := by
  simp [State.inEmit]

theorem Mode.replaying_iff {m : Mode} : m.replaying = true ↔ m = .paused ∨ m = .running := by
  cases m <;> simp [Mode.replaying]

/-- The state that a close of the epoch leaves before the lanes are tested (R111). -/
def State.epochClosed (s : State) (n : Nat) : State :=
  { s with
    pu.windowStart := s.nextStart n, pu.windowEnd := min (s.nextStart n + s.pu.span) Config.noneTime
    mq.cut := .absent
    pu.budget := s.pu.budget.afterClose s.rc.mode, rc.mode := s.modeAfterClose, pu.pausePending := false
    pu.phase := .gather, pu.closePulse := true, pu.paceTimer := 0 }

theorem State.closeEpoch_eq (s : State) (n : Nat) : s.closeEpoch n = (s.epochClosed n).retestLanes := rfl

/-- A close of the epoch returns to GATHER, PAUSED or RUNNING, where the AFU makes visits again (R111). -/
theorem State.readGoesOn_closeEpoch {s : State} (h : s.PortSound) (hr : s.inReset = false)
    (hm : s.rc.mode.replaying = true) (n : Nat) : s.ReadGoesOn (s.closeEpoch n) := by
  have hl := h.load_none fun hc => by rw [hc] at hm; cases hm
  have hc := h.checkpoint_none fun hc => by rw [hc] at hm; cases hm
  have hmode : s.modeAfterClose = .paused ∨ s.modeAfterClose = .running := by
    unfold State.modeAfterClose
    split
    · exact .inl rfl
    · exact Mode.replaying_iff.1 hm
  rw [State.closeEpoch_eq]
  refine State.ReadGoesOn.trans (t := s.epochClosed n) ?_ ((State.works_retestLanes _).readGoesOn hr)
  exact ⟨hr, rfl, .inr ⟨hl, hc, hmode.imp id .inl⟩, rfl, rfl, rfl, fun _ _ _ _ => id,
    fun _ _ => .inl (.inl ⟨hmode, rfl, nofun⟩), id, .inl⟩

/-- The end of the history finds every visit on its way to its end (R24, R112). -/
theorem State.readGoesOn_endHistory {s : State} (h : s.PortSound) (hr : s.inReset = false) (he : s.inEmit = true) :
    s.ReadGoesOn s.endHistory := by
  obtain ⟨hm, hp⟩ := State.inEmit_iff.1 he
  have hl := h.load_none fun hc => by rw [hc] at hm; cases hm
  have hc := h.checkpoint_none fun hc => by rw [hc] at hm; cases hm
  exact ⟨hr, rfl, .inr ⟨hl, hc, .inr (.inr rfl)⟩, rfl, rfl, rfl, fun _ _ _ _ => id,
    fun ho _ => .inr (h.ending_of_not_visits (State.not_makesVisits hm hp) ho), id, .inl⟩

/-- A change between PAUSED and RUNNING, with any change of the Pace Unit that leaves the phase (R113, R114;
notes/assumptions/39.md). -/
theorem State.readGoesOn_modes {s : State} (h : s.PortSound) (hr : s.inReset = false) {m : Mode} {pu : Pu}
    (hs : s.rc.mode.replaying = true) (hm : m.replaying = true) (hp : pu.phase = s.pu.phase) :
    s.ReadGoesOn { s with rc.mode := m, pu := pu } := by
  have hl := h.load_none fun hc => by rw [hc] at hs; cases hs
  have hc := h.checkpoint_none fun hc => by rw [hc] at hs; cases hs
  refine ⟨hr, rfl, .inr ⟨hl, hc, (Mode.replaying_iff.1 hm).imp id .inl⟩, rfl, rfl, rfl, fun _ _ _ _ => id,
    fun _ hv => hv.imp ?_ id, id, .inl⟩
  rintro (⟨-, hg⟩ | ⟨hg, -⟩)
  · exact .inl ⟨Mode.replaying_iff.1 hm, by rw [← hp] at hg; exact hg⟩
  · rw [hg] at hs
    cases hs

/-- RUN, PAUSE and STEP let the outstanding read go on (R113, R114). -/
theorem State.readGoesOn_modeCommands {s : State} (h : s.PortSound) (hr : s.inReset = false) (n : Nat) :
    s.ReadGoesOn s.doRun ∧ s.ReadGoesOn s.doPause ∧ s.ReadGoesOn (s.doStep n) := by
  have seek : ∀ a pu, pu.phase = s.pu.phase → s.ReadGoesOn { s with rc.modeAfterSeek := a, pu := pu } := by
    intro a pu hp
    refine ⟨hr, rfl, .inl rfl, rfl, rfl, rfl, fun _ _ _ _ => id, fun _ hv => ?_, id, .inl⟩
    unfold State.MakesVisits at hv ⊢
    dsimp only
    rwa [hp]
  have modes : ∀ {m pu}, s.rc.mode.replaying = true → m.replaying = true → pu.phase = s.pu.phase →
      s.ReadGoesOn { s with rc.mode := m, pu := pu } := fun hs hm hp => State.readGoesOn_modes h hr hs hm hp
  have same := State.readGoesOn_refl hr
  refine ⟨?_, ?_, ?_⟩
  · unfold State.doRun
    split
    · exact seek _ _ rfl
    · exact modes (by simp [*, Mode.replaying]) rfl rfl
    · exact State.readGoesOn_pu hr _ id
    all_goals exact same
  · unfold State.doPause
    split
    · exact seek _ s.pu rfl
    · split
      · exact modes (pu := s.pu) (by simp [*, Mode.replaying]) rfl rfl
      all_goals exact State.readGoesOn_pu hr _ id
    all_goals exact same
  · unfold State.doStep
    split
    · exact seek _ _ rfl
    · exact modes (by simp [*, Mode.replaying]) rfl rfl
    · exact State.readGoesOn_pu hr _ id
    all_goals exact same

/-- A trap at winning abandons the trapped lane's own read with its visit, and lets any other go on (R147). -/
theorem State.trapAtWinning_port {s : State} (h : s.PortSound) (hr : s.inReset = false) (e : Entry) (a : AnomalySet) :
    s.PortKept (s.trapAtWinning e a) := by
  have rest : ∀ {u : State}, s.PortKept u → s.PortKept (u.raiseFinding (e.finding a .heldForRelease)).busIdle := by
    intro u hu
    have hw := ((State.works_raiseFinding u (e.finding a .heldForRelease)).trans
      (State.works_busIdle _)).readGoesOn hu.live
    refine ⟨hw.live, (hw.kept hu.sound).sound, fun hv => ?_⟩
    rcases hu.ending hv with h1 | h1
    · exact .inl (hw.ending h1)
    · refine .inr fun ⟨r, l, hr', ho⟩ => h1 ⟨r, l, ?_, ho⟩
      rwa [hw.request] at hr'
  unfold State.trapAtWinning State.abandonVisit
  split
  · rename_i hc
    refine rest (State.PortIdle.kept ⟨hr, fun hl => h.loading hl, fun hl => h.seeking hl, rfl, rfl, rfl⟩)
  · rename_i hc
    refine rest (State.ReadGoesOn.kept ⟨hr, rfl, .inl rfl, rfl, rfl, rfl, fun r l hq ho hw => ?_, fun _ h => h, id,
      .inl⟩ h)
    by_cases hl : l = e.lane
    · refine absurd ?_ hc
      obtain ⟨o, n, y⟩ := r
      cases ho
      have : (s.trapLane e.lane e.key).afu.request = s.afu.request := rfl
      simp [State.readsLane, this, hq, hl]
    · rw [State.trapLane, State.lane_setLane_other _ hl]
      exact hw

/-- An engine that withdraws, faults or halts leaves an idle port (R28, R98, R100, R164). -/
theorem State.portIdle_stops (s : State) (hr : s.inReset = false) (hl : s.rc.load = none) (c : FaultCause) :
    s.withdraw.PortIdle ∧ (s.enterFaulted c).PortIdle ∧ s.haltBlocks.PortIdle :=
  ⟨⟨by simp [hr], by simp [hl], by simp, by simp, by simp, by simp⟩,
    ⟨by simp [hr], by simp, by simp, by simp, by simp, by simp⟩,
    ⟨by simp [hr], by simp [hl], by simp, by simp, by simp, by simp⟩⟩

theorem State.portIdle_enterFaulted (s : State) (hr : s.inReset = false) (c : FaultCause) :
    (s.enterFaulted c).PortIdle :=
  ⟨by simp [hr], by simp, by simp, by simp, by simp, by simp⟩

/-- The silent replay that follows a load without a checkpoint starts on an idle port (R159). -/
theorem State.portIdle_replayFromNominal {s : State} (hr : s.inReset = false) (hl : s.rc.load = none)
    (hq : s.afu.request = none) (hw : s.afu.words = []) (hv : s.afu.visitEnding = false) :
    s.replayFromNominal.PortIdle :=
  ⟨by simp [State.replayFromNominal, hr], by simp [State.replayFromNominal, hl], by simp [State.replayFromNominal],
    by simp [State.replayFromNominal, hq], by simp [State.replayFromNominal, hw],
    by simp [State.replayFromNominal, hv]⟩

theorem State.portIdle_replayFromCheckpoint {s : State} (hr : s.inReset = false) (hl : s.rc.load = none)
    (hq : s.afu.request = none) (hw : s.afu.words = []) (hv : s.afu.visitEnding = false) (c : CheckpointLoad) :
    (s.replayFromCheckpoint c).PortIdle := by
  unfold State.replayFromCheckpoint State.decideSeek
  split <;> exact ⟨by simp [hr], by simp [hl], by simp, by simp [hq], by simp [hw], by simp [hv]⟩

theorem State.portSound_beginSeek {s : State} (hr : s.inReset = false) (hl : s.rc.load = none) (t : Nat) :
    s.PortKept (s.beginSeek t) := by
  unfold State.beginSeek State.beginLoad
  split
  · exact (State.portIdle_replayFromNominal (by simp [hr]) (by simp [hl]) (by simp) (by simp) (by simp)).kept
  · refine ⟨by simp [hr], State.portSound_readCheckpoint (by simp [hr]) (by simp) (by simp [hl]) (by simp) _ _,
      fun _ => .inr ?_⟩
    rintro ⟨r, l, h, ho⟩
    cases h
    cases ho

/-- A checkpoint's slot leads to the next one's read or ends the load on an idle port (R19, R159). -/
theorem State.checkpointAnswer_port {s : State} (h : s.PortSound) (hr : s.inReset = false) {n : Nat} {y : Bool}
    {c : CheckpointLoad} (hq : s.afu.request = some { owner := .checkpoint, slot := n, retry := y })
    (hc : s.afu.checkpoint = some c) (d : Slot) : s.PortKept (s.checkpointAnswer c d) := by
  have hm : s.rc.mode = .seeking := h.seeking (by simp [hc])
  have hl := h.load_none (by simp [hm])
  have hv := h.visitEnding_of_owner hq (by simp)
  unfold State.checkpointAnswer
  split
  · exact (State.portIdle_replayFromNominal (by simpa using hr) (by simpa using hl) (by simp) (by simp)
      (by simpa using hv)).kept
  · unfold State.nextCheckpoint
    split
    · refine ⟨by simp [hr], State.portSound_readCheckpoint (s := s.setFromSlot c d) (by simp [hr]) (by simp [hm]) (by simp [hl])
        (by simp [hv]) _ _, fun hv' => ?_⟩
      rw [hv] at hv'
      cases hv'
    · exact (State.portIdle_replayFromCheckpoint (by simp [hr]) (by simp [hl]) (by simp) (by simp) (by simp [hv])
        _).kept

/-- What a slot of the start-up load leads to: FAULTED, the read of another slot, or the end of the load (R4, R5, R6). -/
theorem State.loadAnswer_cases (s : State) (p : LoadProgress) (d : Slot) :
    ∃ b, (∃ c, s.loadAnswer p d = (s.warnIf b).enterFaulted c) ∨
      (∃ q stage slot, s.loadAnswer p d = (s.warnIf b).readLoad q stage slot) ∨
      (∃ q, s.loadAnswer p d = (s.warnIf b).finishLoad q) := by
  have warn : s = s.warnIf false := by simp [State.warnIf]
  have directory : ∀ (b : Bool) (u : State) (q : LoadProgress), u = s.warnIf b →
      ∃ b, (∃ c, u.loadDirectory q = (s.warnIf b).enterFaulted c) ∨
        (∃ q' stage slot, u.loadDirectory q = (s.warnIf b).readLoad q' stage slot) ∨
        (∃ q', u.loadDirectory q = (s.warnIf b).finishLoad q') := by
    rintro b u q rfl
    refine ⟨b, ?_⟩
    unfold State.loadDirectory
    split
    · exact .inl ⟨_, rfl⟩
    · split
      · exact .inr (.inr ⟨_, rfl⟩)
      · split
        · exact .inl ⟨_, rfl⟩
        · exact .inr (.inl ⟨_, _, _, rfl⟩)
  have ranges : ∀ (b : Bool) (q : LoadProgress),
      ∃ b', (∃ c, (s.warnIf b).loadRanges q = (s.warnIf b').enterFaulted c) ∨
        (∃ q' stage slot, (s.warnIf b).loadRanges q = (s.warnIf b').readLoad q' stage slot) ∨
        (∃ q', (s.warnIf b).loadRanges q = (s.warnIf b').finishLoad q') := by
    intro b q
    unfold State.loadRanges
    split
    · exact ⟨b, .inl ⟨_, rfl⟩⟩
    · split
      · exact directory b _ q rfl
      · exact ⟨b, .inr (.inl ⟨_, _, _, rfl⟩)⟩
  unfold State.loadAnswer
  split
  · unfold State.loadHeader State.checkHeader
    refine ⟨headerAdjusted d, ?_⟩
    split
    · exact .inl ⟨_, rfl⟩
    · split
      · exact .inl ⟨_, rfl⟩
      · exact .inr (.inl ⟨_, _, _, rfl⟩)
  · unfold State.loadLane State.checkLane
    split
    · exact ⟨_, .inl ⟨_, rfl⟩⟩
    · split
      · exact ⟨_, .inl ⟨_, rfl⟩⟩
      · unfold State.acceptLane State.loadDevicesPart
        split
        · exact ⟨_, .inr (.inl ⟨_, _, _, rfl⟩)⟩
        · split
          · exact ⟨_, .inl ⟨_, rfl⟩⟩
          · split
            · exact ⟨_, .inl ⟨_, rfl⟩⟩
            · split
              · exact ranges _ _
              · exact ⟨_, .inr (.inl ⟨_, _, _, rfl⟩)⟩
  · unfold State.loadDeviceSlot State.nextDevices
    split
    · exact ⟨_, .inr (.inl ⟨_, _, _, rfl⟩)⟩
    · exact ranges _ _
  · unfold State.loadRangeSlot
    split
    · exact directory false s _ warn
    · exact ⟨false, .inl ⟨_, by rw [← warn]⟩⟩
  · unfold State.loadDirectorySlot
    split
    · exact ⟨false, .inl ⟨_, by rw [← warn]⟩⟩
    · unfold State.nextDirectory
      split
      · exact ⟨false, .inr (.inl ⟨_, _, _, by rw [← warn]⟩)⟩
      · exact ⟨false, .inr (.inr ⟨_, by rw [← warn]⟩)⟩

theorem State.loadAnswer_port {s : State} (h : s.PortSound) (hr : s.inReset = false) {n : Nat} {y : Bool}
    {p : LoadProgress} (hq : s.afu.request = some { owner := .load, slot := n, retry := y })
    (hp : s.rc.load = some p) (d : Slot) : s.PortKept (s.loadAnswer p d) := by
  have hm : s.rc.mode = .loading := h.loading (by simp [hp])
  have hc := h.checkpoint_none (by simp [hm])
  have hv := h.visitEnding_of_owner hq (by simp)
  obtain ⟨b, ⟨c, e⟩ | ⟨q, stage, slot, e⟩ | ⟨q, e⟩⟩ := s.loadAnswer_cases p d <;> rw [e]
  · exact (State.portIdle_enterFaulted (s.warnIf b) hr c).kept
  · exact ⟨hr, State.portSound_readLoad (s := s.warnIf b) hr hm (by simp [hc]) hv _ _ _,
      fun hv' => by rw [hv] at hv'; cases hv'⟩
  · exact State.PortIdle.kept ⟨by simp [hr], by simp, by simp [hc], by simp, by simp, by simp [hv]⟩

/-- A lane's read has been issued where the AFU makes visits (R24, R26). -/
theorem State.portSound_readLane {u : State} (hr : u.inReset = false) (hv : u.visitsAllowed = true)
    (hload : u.rc.load.isSome = true → u.rc.mode = .loading)
    (hseek : u.afu.checkpoint.isSome = true → u.rc.mode = .seeking) (l : Fin 16) :
    (u.readLane l).PortSound := by
  have hm : u.MakesVisits := u.visitsAllowed_iff.1 hv
  refine ⟨hload, hseek, ?_, ?_, ?_, by simp [State.readLane], ?_, ?_, ?_⟩
  · rintro _ ⟨⟩ ⟨⟩
  · rintro _ ⟨⟩ ⟨⟩
  · rintro r m hq ho
    cases hq
    cases ho
    refine ⟨?_, ?_⟩
    · rw [State.readLane, State.lane_issueRead, State.lane_setLane_same]
    · rcases hm with ⟨h | h, -⟩ | ⟨h, -⟩ <;> simp [h]
  · exact fun _ _ _ _ => .inl hm
  · exact fun _ => ⟨_, l, rfl, rfl⟩
  · simp [hr]

/-- A lane's slot leads to its next one's read or ends the visit (R24, R26). -/
theorem State.laneAnswer_port {s : State} (h : s.PortSound) (hr : s.inReset = false) (l : Fin 16) (d : Slot) :
    s.PortKept (((s.answerTaken l).takeSlot l d).continueVisit l) := by
  have hw := State.works_takeSlot (s := s.answerTaken l) (l := l) (by simp) d
  generalize (s.answerTaken l).takeSlot l d = u at hw
  have hi : u.inReset = false := hw.inReset.trans hr
  have hload : u.rc.load.isSome = true → u.rc.mode = .loading := by
    rw [hw.rc]
    exact h.loading
  have hseek : u.afu.checkpoint.isSome = true → u.rc.mode = .seeking := by
    rw [hw.rc, hw.port]
    exact h.seeking
  unfold State.continueVisit
  split
  · rename_i hc
    simp only [State.mayContinue, Bool.and_eq_true, Bool.not_eq_true'] at hc
    obtain ⟨⟨-, hv⟩, he⟩ := hc
    refine ⟨by simp [hi], State.portSound_readLane hi hv hload hseek l, fun hv' => ?_⟩
    rw [hw.port] at he
    have : s.afu.visitEnding = false := he
    rw [this] at hv'
    cases hv'
  · exact State.PortIdle.kept ⟨hi, hload, hseek, by rw [State.endVisit_afu_request, hw.port]; rfl,
      by rw [State.endVisit_afu_words, hw.port]; rfl, rfl⟩

/-- The end of a command keeps the port as it is (R162, R74). -/
theorem State.PortKept.settle {s u : State} (k : s.PortKept u) : s.PortKept u.settle := by
  have h := k.sound
  have hr := k.live
  have seek : u.ReadGoesOn u.settleSeek := by
    have drain : u.ReadGoesOn (State.drainFront 16 u) := by
      refine ⟨by simp [hr], by simp, .inl (by simp), by simp, by simp, by simp, fun r l _ _ hw => ?_, fun _ hv => ?_,
        by simp, fun hv => .inl (by simpa using hv)⟩
      · obtain ⟨y, hy⟩ := u.drainFront_lane 16 l
        rw [hy]
        exact hw
      · simpa [State.MakesVisits] using hv
    rcases u.settleSeek_completes with e | ⟨hm, hc, e | ⟨hn, e⟩⟩ <;> rw [e]
    · exact State.readGoesOn_refl hr
    · exact drain
    · refine ⟨by simp [hr], by simp, .inr ⟨h.load_none (by simp [hm]), hc, ?_⟩, by simp, by simp, by simp,
        fun r l hq ho hw => absurd hw (hn l).2, fun ⟨r, l, hq, ho⟩ => absurd (h.forLane r l hq ho).1 (hn l).2, by simp,
        fun hv => .inl (by simpa using hv)⟩
      have : (State.drainFront 16 u).completeSeek.rc.mode = u.rc.modeAfterSeek.mode := by
        rw [State.completeSeek, State.drainFront_rc]
      rw [this]
      cases u.rc.modeAfterSeek <;> simp [AfterSeek.mode]
  have cut : u.settleSeek.ReadGoesOn u.settleSeek.settleCut.refreshDrive := by
    refine ⟨by simpa using hr, by simp, .inl (by simp), by simp, by simp, by simp, by simp, fun _ hv => ?_, by simp,
      fun hv => .inl (by simpa using hv)⟩
    simpa [State.MakesVisits, State.settleCut_taken] using hv
  have all : u.ReadGoesOn u.settle := seek.trans cut
  refine ⟨all.live, (all.kept h).sound, fun hv => ?_⟩
  rcases k.ending hv with h1 | h1
  · exact .inl (all.ending h1)
  · refine .inr fun ⟨r, l, hq, ho⟩ => h1 ⟨r, l, ?_, ho⟩
    rwa [all.request] at hq

/-- A mode that takes frames has no start-up load in progress. -/
theorem State.PortSound.load_none_of_front {s : State} (h : s.PortSound) {f : Frame} (hf : s.frontFrame = some f) :
    s.rc.load = none :=
  h.load_none (Mode.ne_loading_of_takesFrames (State.frontFrame_eq_some.1 hf).2.1)

theorem State.PortKept.refreshDrive {s u : State} (k : s.PortKept u) : s.PortKept u.refreshDrive :=
  ⟨k.live, { k.sound with }, k.ending⟩

/-- The path of a failed read leaves an idle port (R4, R19, R30). -/
theorem State.portIdle_readFailed {s : State} (h : s.PortSound) (hr : s.inReset = false) {r : Request}
    (hq : s.afu.request = some r) : (s.readFailed r.owner).PortIdle := by
  unfold State.readFailed
  split
  · exact State.portIdle_enterFaulted s hr _
  · refine ⟨by simp [State.loseLane, hr], ?_, ?_, by simp [State.loseLane], by simp [State.loseLane],
      by simp [State.loseLane]⟩
    · simpa [State.loseLane] using h.loading
    · simpa [State.loseLane] using h.seeking
  · rename_i ho
    have hm : s.rc.mode = .seeking := h.seeking (h.forCheckpoint r hq ho)
    exact State.portIdle_replayFromNominal (by simpa using hr) (by simpa using h.load_none (by simp [hm])) (by simp)
      (by simp) (by simpa using h.visitEnding_of_owner hq (by simp [ho]))

/-- Every effect of a command keeps the port sound, and a visit that is to end still to end. -/
theorem State.Effect.portKept {s t : State} (e : s.Effect t) (h : s.PortSound) (hr : s.inReset = false) :
    s.PortKept t := by
  have pop : s.ReadGoesOn s.popInbound := s.works_popInbound.readGoesOn hr
  have popped : s.popInbound.PortSound := (pop.kept h).sound
  have stops := fun {u : State} (w : s.Works u) (hm : s.rc.mode.takesFrames = true) =>
    (State.portIdle_stops u (w.inReset.trans hr)
      (by rw [w.rc]; exact h.load_none (Mode.ne_loading_of_takesFrames hm)) .none).1
  cases e with
  | words ws hs hl =>
    exact ⟨hr, { h with words := ⟨hl, fun hn => by rw [show s.afu.request = none from hn] at hs; cases hs⟩ }, .inl⟩
  | loadAnswer n r p d hq hp => exact (State.loadAnswer_port h hr hq hp d).refreshDrive
  | retry r hq =>
    refine ⟨hr, ⟨h.loading, h.seeking, ?_, ?_, ?_, by simp, ?_, fun hv => ?_, by simp [hr]⟩, .inl⟩
    · rintro _ ⟨⟩ ho
      exact h.forLoad r hq ho
    · rintro _ ⟨⟩ ho
      exact h.forCheckpoint r hq ho
    · rintro _ l ⟨⟩ ho
      exact h.forLane r l hq ho
    · rintro _ l ⟨⟩ ho
      exact h.visits r l hq ho
    · obtain ⟨r', l, hq', ho⟩ := h.ending hv
      rw [hq] at hq'
      cases hq'
      exact ⟨_, l, rfl, ho⟩
  | readFailed r hq => exact (State.portIdle_readFailed h hr hq).kept.settle
  | visit l hv hq _ =>
    refine ⟨hr, State.portSound_readLane (u := { s with afu.visitCount := 0, afu.visitEnding := false }) hr hv h.loading
      h.seeking l, fun hv => ?_⟩
    rw [h.visitEnding_of_idle hq] at hv
    cases hv
  | laneAnswer l n r d _ => exact (State.laneAnswer_port h hr l d).settle
  | checkpointAnswer n r c d hq hc => exact (State.checkpointAnswer_port h hr hq hc d).settle
  | bus b o x _ => exact ((State.works_biu s _).readGoesOn hr).kept h
  | opened ln =>
    have hro := State.readGoesOn_readAtOpen hr ln
    exact ((hro.trans ((State.works_beginAttempt _).readGoesOn hro.live)).kept h).refreshDrive
  | stretchEnds o ln _ =>
    refine State.PortKept.refreshDrive ?_
    rcases s.endStretch_cases o ln with hw | ⟨e, a, -, -, he⟩ | he
    · exact (hw.readGoesOn hr).kept h
    · rw [he]
      exact State.trapAtWinning_port h hr e a
    · rw [he]
      have hs := State.readGoesOn_suspendOn hr (s.readBhl ln)
      exact (hs.trans ((State.works_busIdle _).readGoesOn hs.live)).kept h
  | attemptFails =>
    have hi := s.works_busIdle
    rcases s.busIdle.failAttempt_cases with hw | ⟨hm, u, hu, he⟩
    · exact (((hi.trans hw).readGoesOn hr).kept h).refreshDrive
    · rw [he]
      exact (stops (hi.trans hu) hm).kept.refreshDrive
  | ownAccepted o _ => exact (((s.works_ownAccepted o).readGoesOn hr).kept h).settle
  | heardAccepted hd =>
    refine State.PortKept.settle ?_
    rcases s.heardAccepted_cases hd with hw | ⟨hm, u, hu, he⟩ | ⟨-, u, hu, he⟩ | ⟨hm, u, t, hu, -, he⟩
    · exact (hw.readGoesOn hr).kept h
    · rw [he]
      exact (stops hu hm).kept
    · rw [he]
      exact (State.portIdle_enterFaulted u (hu.inReset.trans hr) _).kept
    · rw [he]
      have hk := State.portSound_beginSeek (hu.inReset.trans hr)
        (by rw [hu.rc]; exact h.load_none (by simp [hm])) t
      refine ⟨hk.live, hk.sound, fun hv => hk.ending ?_⟩
      rw [hu.port]
      exact hv
  | heardVetoed hd =>
    refine State.PortKept.refreshDrive ?_
    rcases s.heardVetoed_cases hd with hw | ⟨hm, u, hu, he⟩
    · exact (hw.readGoesOn hr).kept h
    · rw [he]
      exact (stops hu hm).kept
  | dropped => exact pop.kept h
  | cut f _ _ => exact ((pop.trans (State.readGoesOn_takeCut pop.live f)).kept h).settle
  | event =>
    exact ⟨hr, { popped with }, .inl⟩
  | historyEnds f _ _ he => exact ((pop.trans (State.readGoesOn_endHistory popped pop.live he)).kept h).settle
  | epochCloses f _ _ he =>
    exact ((pop.trans (State.readGoesOn_closeEpoch popped pop.live (State.inEmit_iff.1 he).1 _)).kept h).settle
  | nextIgnored => exact (pop.kept h).refreshDrive
  | closePulseEnds => exact ⟨hr, { h with }, .inl⟩
  | timerSet => exact ⟨hr, { h with }, .inl⟩
  | rises =>
    refine State.PortKept.refreshDrive ?_
    unfold State.rise
    split
    · exact (State.readGoesOn_enterEmit hr).kept h
    · exact (State.readGoesOn_refl hr).kept h
  | suspends => exact ((State.readGoesOn_suspendOn hr _).kept h).refreshDrive
  | timebase b =>
    have hp := State.readGoesOn_pu hr { s.pu with timebase := b } id
    exact (hp.trans ((State.works_placeStatus _).readGoesOn hp.live)).kept h
  | run => exact ((pop.trans (State.readGoesOn_modeCommands popped pop.live 0).1).kept h).refreshDrive
  | pause => exact ((pop.trans (State.readGoesOn_modeCommands popped pop.live 0).2.1).kept h).refreshDrive
  | step f a _ =>
    exact ((pop.trans (State.readGoesOn_modeCommands popped pop.live (stepArg a)).2.2).kept h).refreshDrive
  | seek f a hf =>
    have hk := State.portSound_beginSeek (s := s.popInbound) hr (h.load_none_of_front hf) (seekArg a)
    exact State.PortKept.settle ⟨hk.live, hk.sound, hk.ending⟩
  | halt f hf =>
    exact (State.portIdle_stops s.popInbound hr (h.load_none_of_front hf) .none).2.2.kept.refreshDrive
  | epoch => exact ⟨hr, { popped with }, .inl⟩
  | rate => exact ⟨hr, { popped with }, .inl⟩
  | release f l action _ hl =>
    have hw := State.works_releaseLane (s := s.popInbound) (by simpa using hl) action
    exact ((pop.trans (hw.readGoesOn pop.live)).kept h).settle
  | query => exact ⟨hr, { popped with }, .inl⟩
  | poll => exact (pop.trans ((State.works_placeStatus _).readGoesOn pop.live)).kept h

/-! The hold line (R101, R103, R105). -/

/-- Outside RUNNING the phase is GATHER (R101, R113). -/
def State.PhaseSound (s : State) : Prop :=
  s.rc.mode ≠ .running → s.pu.phase = .gather

theorem State.PhaseSound.of_eq {s t : State} (h : s.PhaseSound) (hm : t.rc.mode = s.rc.mode)
    (hp : t.pu.phase = s.pu.phase) : t.PhaseSound := by
  unfold State.PhaseSound
  rw [hm, hp]
  exact h

theorem State.PhaseSound.works {s t : State} (h : s.PhaseSound) (w : s.Works t) : t.PhaseSound :=
  h.of_eq (by rw [w.rc]) (by rw [w.pu])

/-- In GATHER the phase is sound under every mode. -/
theorem State.PhaseSound.of_gather {s : State} (h : s.pu.phase = .gather) : s.PhaseSound :=
  fun _ => h

/-- A line driven anew is driven as the inputs call for (R103). -/
theorem State.PhaseSound.refreshDrive {s : State} (h : s.PhaseSound) : s.refreshDrive.HoldLineSound :=
  ⟨s.driveFor_iff, h⟩

/-- The end of a command drives the line anew (R103). -/
theorem State.PhaseSound.settle {s : State} (h : s.PhaseSound) : s.settle.HoldLineSound := by
  refine State.PhaseSound.refreshDrive ?_
  have seek : s.settleSeek.PhaseSound := by
    rcases s.settleSeek_cases with e | ⟨-, -, e | e⟩ <;> rw [e]
    · exact h
    · exact h.of_eq (by simp) (by simp)
    · exact .of_gather rfl
  exact seek.of_eq (by simp) (by simp)

/-- The line stands as its inputs call for while no input has changed. -/
theorem State.HoldLineSound.of_inputs {s t : State} (h : s.HoldLineSound) (hm : t.rc.mode = s.rc.mode)
    (hp : t.pu.phase = s.pu.phase ∧ t.pu.closePulse = s.pu.closePulse ∧ t.pu.drive = s.pu.drive)
    (hg : t.Gathered ↔ s.Gathered) (ht : (∃ l, (t.lane l).state = .trapped) ↔ ∃ l, (s.lane l).state = .trapped)
    (hpace : t.PaceTestMet ↔ s.PaceTestMet)
    (hn : (∃ f ∈ t.biu.inbound, f.body = .next) ↔ ∃ f ∈ s.biu.inbound, f.body = .next) : t.HoldLineSound := by
  refine ⟨?_, by rw [hm, hp.1]; exact h.phase⟩
  rw [hp.2.2, h.drive]
  unfold State.HoldsLine
  rw [hm, hp.1, hp.2.1, hg, ht, hpace, hn]

/-- The taking of a frame that is no NEXT leaves the NEXT frames in wait (R103). -/
theorem State.nextInWait_popInbound {s : State} {f : Frame} (hf : s.frontFrame = some f) (hb : f.body ≠ .next) :
    (∃ g ∈ s.popInbound.biu.inbound, g.body = .next) ↔ ∃ g ∈ s.biu.inbound, g.body = .next := by
  have hh := (State.frontFrame_eq_some.1 hf).2.2
  rw [show s.popInbound.biu.inbound = s.biu.inbound.tail from rfl]
  cases hq : s.biu.inbound with
  | nil => rfl
  | cons x rest =>
    rw [hq] at hh
    cases hh
    simp [hb]

/-- The taking of a frame that is no NEXT leaves the line as its inputs call for. -/
theorem State.HoldLineSound.popInbound {s : State} (h : s.HoldLineSound) {f : Frame} (hf : s.frontFrame = some f)
    (hb : f.body ≠ .next) : s.popInbound.HoldLineSound :=
  h.of_inputs rfl ⟨rfl, rfl, rfl⟩ Iff.rfl Iff.rfl Iff.rfl (State.nextInWait_popInbound hf hb)

/-- The begin of a visit changes no input of the line: neither a READY nor a WAITING lane is finished or TRAPPED. -/
theorem State.HoldLineSound.beginVisit {s : State} (h : s.HoldLineSound) {l : Fin 16}
    (hl : (s.lane l).state = .ready) : (s.beginVisit l).HoldLineSound := by
  have hlane : ∀ m, (s.beginVisit l).lane m = if m = l then { s.lane l with state := .waiting } else s.lane m :=
    fun m => State.lane_setLane { s with afu.visitCount := 0, afu.visitEnding := false } l m _
  have hst : ∀ m, ((s.beginVisit l).lane m).state = if m = l then .waiting else (s.lane m).state := by
    intro m
    rw [hlane]
    split <;> rfl
  refine h.of_inputs rfl ⟨rfl, rfl, rfl⟩ (or_congr ?_ Iff.rfl) ?_ Iff.rfl Iff.rfl
  · refine ⟨fun hg => absurd (hg l) (by simp [hst]), fun hg => absurd (hg l) (by simp [hl])⟩
  · refine exists_congr fun m => ?_
    rw [hst]
    split
    · subst m
      simp [hl]
    · rfl

/-- A PAUSED engine in GATHER drives the line itself, so it reads it dominant (R103). -/
theorem State.HoldLineSound.running_of_released {s : State} (h : s.HoldLineSound) (hm : s.rc.mode.replaying = true)
    (hd : s.pu.drive = .released) : s.rc.mode = .running := by
  rcases Mode.replaying_iff.1 hm with hp | hp
  · have hg := h.phase (by simp [hp])
    have : s.pu.drive = .dominant := h.drive.2 (.inr (.inl ⟨hp, hg⟩))
    rw [hd] at this
    cases this
  · exact hp

theorem State.phaseSound_suspendOn {s : State} (h : s.PhaseSound) (level : Level) : (s.suspendOn level).PhaseSound := by
  unfold State.suspendOn
  split
  · exact h
  · split
    · rename_i hc
      simp only [Bool.and_eq_true, beq_iff_eq] at hc
      intro hm
      rw [h hm] at hc
      exact absurd hc.2 (by simp)
    · exact h

theorem State.HoldLineSound.readAtOpen {s : State} (h : s.HoldLineSound) (line : Level) :
    (s.readAtOpen line).PhaseSound := by
  unfold State.readAtOpen
  split
  · rename_i hr
    split
    · rename_i hp
      have hl := phaseAtOpen_eq.2.2 hp
      have hd : s.pu.drive = .released := by
        unfold State.readBhl at hl
        split at hl
        · cases hl
        · assumption
      exact fun hm => absurd (h.running_of_released hr hd) hm
    · exact .of_gather rfl
    · rename_i hp
      exact fun hm => absurd (h.phase hm) (phaseAtOpen_eq.2.1 hp)
  · exact h.phase

/-- The phase after a slot of the start-up load: GATHER, as in LOADING (R101). -/
theorem State.phaseSound_loadAnswer {s : State} (h : s.PhaseSound) (hm : s.rc.mode = .loading) (p : LoadProgress)
    (d : Slot) : (s.loadAnswer p d).PhaseSound := by
  have hg : s.pu.phase = .gather := h (by simp [hm])
  obtain ⟨b, ⟨c, e⟩ | ⟨q, stage, slot, e⟩ | ⟨q, e⟩⟩ := s.loadAnswer_cases p d <;> rw [e] <;>
    exact .of_gather (by simp [hg])

theorem State.phaseSound_replayFromNominal {s : State} (h : s.PhaseSound) : s.replayFromNominal.PhaseSound :=
  h.of_eq (by simp [State.replayFromNominal]) (by simp [State.replayFromNominal])

theorem State.phaseSound_checkpointAnswer {s : State} (h : s.PhaseSound) (c : CheckpointLoad) (d : Slot) :
    (s.checkpointAnswer c d).PhaseSound := by
  unfold State.checkpointAnswer
  split
  · exact State.phaseSound_replayFromNominal (s := s.dropRead) h
  · unfold State.nextCheckpoint
    split
    · exact h.of_eq (by simp) (by simp)
    · unfold State.replayFromCheckpoint State.decideSeek
      split
      · exact .of_gather rfl
      · exact h.of_eq (by simp) (by simp)

theorem State.phaseSound_beginSeek (s : State) (t : Nat) : (s.beginSeek t).PhaseSound := by
  unfold State.beginSeek State.beginLoad
  split
  · exact State.phaseSound_replayFromNominal (.of_gather (by simp))
  · exact .of_gather rfl

theorem State.phaseSound_readFailed {s : State} (h : s.PhaseSound) (owner : ReadOwner) :
    (s.readFailed owner).PhaseSound := by
  unfold State.readFailed
  split
  · exact .of_gather (by simp)
  · exact h.of_eq (by simp [State.loseLane]) (by simp [State.loseLane])
  · exact State.phaseSound_replayFromNominal (s := s.dropRead) h

theorem State.phaseSound_takeCut {s : State} (h : s.PhaseSound) (f : Frame) : (s.takeCut f).PhaseSound := by
  have ha : (s.adoptCut f.key.toNat).PhaseSound := by
    unfold State.adoptCut
    split
    · exact h.of_eq (by simp) (by simp)
    · exact h
  unfold State.takeCut State.takeOwnCut State.adoptOwnCut
  split
  · split
    · split
      · exact ha
      · exact ha.of_eq (by simp) (by simp)
    · exact ha
  all_goals exact ha

/-- RUN, PAUSE and STEP leave RUNNING only in GATHER (R113, R114). -/
theorem State.phaseSound_modeCommands {s : State} (h : s.PhaseSound) (n : Nat) :
    s.doRun.PhaseSound ∧ s.doPause.PhaseSound ∧ (s.doStep n).PhaseSound := by
  refine ⟨?_, ?_, ?_⟩
  · unfold State.doRun
    split
    · exact h
    · exact fun hm => absurd rfl hm
    all_goals exact h
  · unfold State.doPause
    split
    · exact h
    · split
      · exact .of_gather ‹_›
      all_goals exact h
    all_goals exact h
  · unfold State.doStep
    split
    · exact h
    · exact fun hm => absurd rfl hm
    all_goals exact h

/-- Every effect of a command leaves the line driven as its inputs call for. -/
theorem State.Effect.holdLineSound {s t : State} (e : s.Effect t) (h : s.HoldLineSound) (hport : s.PortSound) :
    t.HoldLineSound := by
  have phase : s.PhaseSound := h.phase
  have same : ∀ {t : State}, t.rc.mode = s.rc.mode → t.pu.phase = s.pu.phase → t.PhaseSound :=
    fun hm hp => phase.of_eq hm hp
  cases e with
  | words => exact { h with }
  | loadAnswer n r p d _ hp =>
    exact (State.phaseSound_loadAnswer phase (hport.loading (by simp [hp])) p d).refreshDrive
  | retry => exact { h with }
  | readFailed r _ => exact (State.phaseSound_readFailed phase _).settle
  | visit l _ _ hl => exact h.beginVisit hl
  | laneAnswer l n r d _ =>
    refine State.PhaseSound.settle ?_
    have hw := State.works_takeSlot (s := s.answerTaken l) (l := l) (by simp) d
    have hu := (same (t := s.answerTaken l) rfl rfl).works hw
    unfold State.continueVisit
    split
    · exact hu.of_eq (by simp) (by simp)
    · exact hu.of_eq (by simp) (by simp)
  | checkpointAnswer n r c d _ _ => exact (State.phaseSound_checkpointAnswer phase c d).settle
  | bus => exact { h with }
  | opened ln => exact ((h.readAtOpen ln).works (State.works_beginAttempt _)).refreshDrive
  | stretchEnds o ln _ =>
    refine State.PhaseSound.refreshDrive ?_
    rcases s.endStretch_cases o ln with hw | ⟨e, a, -, -, he⟩ | he
    · exact phase.works hw
    · rw [he]
      unfold State.trapAtWinning State.abandonVisit State.trapLane
      split <;> exact same (by simp) (by simp)
    · rw [he]
      exact State.phaseSound_suspendOn phase _
  | attemptFails =>
    rcases s.busIdle.failAttempt_cases with hw | ⟨-, u, hu, he⟩
    · exact (phase.works (s.works_busIdle.trans hw)).refreshDrive
    · rw [he]
      exact State.PhaseSound.refreshDrive (.of_gather (by simp))
  | ownAccepted o _ => exact (phase.works (s.works_ownAccepted o)).settle
  | heardAccepted hd =>
    refine State.PhaseSound.settle ?_
    rcases s.heardAccepted_cases hd with hw | ⟨-, u, hu, he⟩ | ⟨-, u, hu, he⟩ | ⟨-, u, t, hu, -, he⟩
    · exact phase.works hw
    · rw [he]
      exact .of_gather (by simp)
    · rw [he]
      exact .of_gather (by simp)
    · rw [he]
      exact State.phaseSound_beginSeek u t
  | heardVetoed hd =>
    refine State.PhaseSound.refreshDrive ?_
    rcases s.heardVetoed_cases hd with hw | ⟨-, u, hu, he⟩
    · exact phase.works hw
    · rw [he]
      exact .of_gather (by simp)
  | dropped f hf hb => exact h.popInbound hf hb
  | cut f _ _ => exact (State.phaseSound_takeCut (s := s.popInbound) phase f).settle
  | event f e hf hb _ => exact { h.popInbound hf (by simp [hb]) with }
  | historyEnds => exact State.PhaseSound.settle (.of_gather rfl)
  | epochCloses => exact State.PhaseSound.settle (.of_gather (by simp [State.closeEpoch]))
  | nextIgnored => exact State.PhaseSound.refreshDrive phase
  | closePulseEnds => exact State.PhaseSound.refreshDrive phase
  | timerSet => exact State.PhaseSound.refreshDrive phase
  | rises =>
    refine State.PhaseSound.refreshDrive ?_
    unfold State.rise
    split
    · rename_i hc
      simp only [Bool.and_eq_true, beq_iff_eq] at hc
      exact fun hm => absurd (h.running_of_released hc.1 hc.2) hm
    · exact phase
  | suspends => exact (State.phaseSound_suspendOn phase _).refreshDrive
  | timebase b =>
    have hb : State.HoldLineSound { s with pu.timebase := b } := { h with }
    unfold State.placeStatus
    split
    · exact { hb with }
    · exact hb
  | run => exact (State.phaseSound_modeCommands (s := s.popInbound) phase 0).1.refreshDrive
  | pause => exact (State.phaseSound_modeCommands (s := s.popInbound) phase 0).2.1.refreshDrive
  | step f a _ => exact (State.phaseSound_modeCommands (s := s.popInbound) phase _).2.2.refreshDrive
  | seek f a _ => exact (State.phaseSound_beginSeek _ _).settle
  | halt => exact State.PhaseSound.refreshDrive (.of_gather (by simp))
  | epoch f a hf hb => exact { h.popInbound hf (by simp [hb]) with }
  | rate => exact State.PhaseSound.refreshDrive phase
  | release f l action _ hl =>
    exact (phase.works (s.works_popInbound.trans (State.works_releaseLane (by simpa using hl) action))).settle
  | query f a n hf hb => exact { h.popInbound hf (by simp [hb]) with }
  | poll f a hf hb =>
    have hp := h.popInbound hf (by simp [hb])
    unfold State.placeStatus
    split
    · exact { hp with }
    · exact hp

/-! Every step. -/

/-- A reset leaves an engine that drives nothing. -/
theorem State.resetWith_holdLineSound (s : State) (cause : StartCause) : (s.resetWith cause).HoldLineSound :=
  ⟨iff_of_false nofun (by rintro (h | ⟨h, -⟩ | ⟨h, -⟩ | ⟨h | h, -⟩) <;> cases h), fun _ => rfl⟩

theorem State.resetWith_portSound (s : State) (cause : StartCause) : (s.resetWith cause).PortSound :=
  ⟨nofun, nofun, nofun, nofun, nofun, ⟨Nat.zero_lt_succ 7, fun _ => rfl⟩, nofun, nofun, fun _ => ⟨rfl, rfl, rfl, rfl⟩⟩

/-- Settles O55: every effect keeps the port and drives the line anew where an input of it has changed. -/
theorem stepKeepsThePortAndTheHoldLine : Obligations.StepKeepsThePortAndTheHoldLine := by
  intro s t hport hline hst
  refine step_keeps (Q := fun s => s.PortSound ∧ s.HoldLineSound)
    (P := fun s t => t.PortSound ∧ t.HoldLineSound ∧
      (s.afu.visitEnding = true → t.afu.visitEnding = true ∨ ¬t.LaneReadOutstanding)) hst ⟨hport, hline⟩
    (queue := fun _ h => ⟨{ h.1 with }, { h.2 with }⟩) (back := fun _ h => h) (same := fun _ h => ⟨h.1, h.2, .inl⟩)
    (effect := fun s t h hr e => ?_) (reset := fun s cause _ => ?_) (resetEnd := fun s straps b h hr => ?_)
  · obtain ⟨-, hsound, hending⟩ := e.portKept h.1 hr
    exact ⟨hsound, e.holdLineSound h.2 h.1, hending⟩
  · exact ⟨s.resetWith_portSound cause, s.resetWith_holdLineSound cause, fun _ => .inr fun ⟨_, _, h, _⟩ => nomatch h⟩
  · obtain ⟨hm, -, hc, hq⟩ := h.1.resting hr
    have hv := h.1.visitEnding_of_idle hq
    refine ⟨State.portSound_readLoad (s := { s with inReset := false, straps := straps, pu.timebase := b }) rfl hm
      (by simp [hc]) hv _ _ _, { h.2 with }, fun hv' => ?_⟩
    rw [hv] at hv'
    cases hv'

end Sys2Proof.Machine
end

section
/-! PROOFS. Every archive read stays within the archive (R1, R5, R8, R13, R18, R19, R36). -/

namespace Sys2Proof.Machine

/-! The archive's extent (Table 1-1). -/

/-- The station block's slots end the archive, whose slots 27 address bits can name. -/
theorem stationBlock_add (size : BitVec 2) :
    stationBlock size + 2048 = archiveSlots size ∧ archiveSlots size ≤ 2 ^ 27 := by
  unfold stationBlock archiveSlots Config.stationBlockSlots
  split <;> omega

/-- The lanes are read for: PAUSED, RUNNING, or a silent replay (R24). -/
def State.ReadsLanes (s : State) : Prop :=
  s.rc.mode.replaying = true ∨ (s.rc.mode = .seeking ∧ s.afu.checkpoint = none)

/-- Where the AFU makes visits, the lanes are read for. -/
theorem State.readsLanes_of_visits {s : State} (h : s.visitsAllowed = true) : s.ReadsLanes := by
  rcases s.visitsAllowed_iff.1 h with ⟨h, -⟩ | h
  · exact .inl (Mode.replaying_iff.2 h)
  · exact .inr h

/-! What keeps the reads sound. -/

/-- What keeps every read within the archive: a step that drops the read or leaves it, keeps the regions of its lanes and
a slot for those that read again, and ends a load or leaves it. -/
structure State.ReadsKept (s t : State) : Prop where
  live : t.inReset = false
  straps : t.straps = s.straps
  request : t.afu.request = none ∨ t.afu.request = s.afu.request ∧ t.afu.aadr = s.afu.aadr
  regions : ∀ l, (t.lane l).base = (s.lane l).base ∧ (t.lane l).slotCount = (s.lane l).slotCount
  slots : t.ReadsLanes → ∀ l, (t.lane l).HasSlot
  configured : ∀ e ∈ t.mq.entries, (t.lane e.lane).state ≠ .disabled
  directory : t.afu.directory = s.afu.directory
  checkpoint : t.afu.checkpoint = none ∨ t.afu.checkpoint = s.afu.checkpoint
  load : t.rc.load = none ∨ t.rc.load = s.rc.load

/-- All of `State.ReadsSound` but the slots of the lanes that are read for: what a seek that is setting its lanes keeps. -/
structure State.ReadsBounded (s : State) : Prop where
  request : ∀ r, s.afu.request = some r → r.slot < archiveSlots s.straps.archiveSize ∧ s.afu.aadr.toNat = r.slot
  regions : ∀ l, (s.lane l).base + (s.lane l).slotCount ≤ stationBlock s.straps.archiveSize
  configured : ∀ e ∈ s.mq.entries, (s.lane e.lane).configured = true
  directory : ∀ e ∈ s.afu.directory, e.slot < stationBlock s.straps.archiveSize
  checkpoint : ∀ c, s.afu.checkpoint = some c → c.entry.slot < stationBlock s.straps.archiveSize ∧
    (c.taken ≠ 0 → c.entry.slot + c.slots ≤ stationBlock s.straps.archiveSize)
  loading : ∀ p, s.rc.load = some p → p.Sound (stationBlock s.straps.archiveSize)

theorem State.ReadsSound.bounded {s : State} (h : s.ReadsSound) : s.ReadsBounded :=
  ⟨h.request, h.regions, h.configured, h.directory, h.checkpoint, h.loading⟩

theorem State.ReadsBounded.kept {s t : State} (h : s.ReadsBounded) (k : s.ReadsKept t) : t.ReadsSound := by
  refine ⟨fun r hr => ?_, fun l => ?_, k.slots, fun e he => ?_, fun e he => ?_, fun c hc => ?_, fun p hp => ?_,
    fun hr => ?_⟩
  · rcases k.request with hq | ⟨hq, ha⟩ <;> rw [hq] at hr
    · cases hr
    · rw [ha, k.straps]
      exact h.request r hr
  · rw [(k.regions l).1, (k.regions l).2, k.straps]
    exact h.regions l
  · simpa [Lane.configured] using k.configured e he
  · rw [k.directory] at he
    rw [k.straps]
    exact h.directory e he
  · rcases k.checkpoint with hk | hk <;> rw [hk] at hc
    · cases hc
    · rw [k.straps]
      exact h.checkpoint c hc
  · rcases k.load with hk | hk <;> rw [hk] at hp
    · cases hp
    · rw [k.straps]
      exact h.loading p hp
  · rw [k.live] at hr
    cases hr

theorem State.ReadsSound.kept {s t : State} (h : s.ReadsSound) (k : s.ReadsKept t) : t.ReadsSound :=
  h.bounded.kept k

/-- Every entry in the queue is of a configured lane. -/
theorem State.ReadsBounded.configured_ne {s : State} (h : s.ReadsBounded) {e : Entry} (he : e ∈ s.mq.entries) :
    (s.lane e.lane).state ≠ .disabled := by
  simpa [Lane.configured] using h.configured e he

theorem State.ReadsSound.configured_ne {s : State} (h : s.ReadsSound) {e : Entry} (he : e ∈ s.mq.entries) :
    (s.lane e.lane).state ≠ .disabled :=
  h.bounded.configured_ne he

theorem State.Works.readsKept {s t : State} (w : s.Works t) (h : s.ReadsSound) (hr : s.inReset = false) :
    s.ReadsKept t := by
  have hreads : t.ReadsLanes → s.ReadsLanes := by
    unfold State.ReadsLanes
    rw [w.rc, w.port]
    exact id
  refine ⟨w.inReset.trans hr, w.straps, .inr ⟨by rw [w.port], by rw [w.port]⟩,
    fun l => ⟨(w.lanes l).base, (w.lanes l).slotCount⟩, fun ht l => (w.lanes l).slot (h.lanes (hreads ht) l),
    fun e he => ?_, by rw [w.port], .inr (by rw [w.port]), .inr (by rw [w.rc])⟩
  rcases w.entries e he with ⟨a, ha, hl⟩ | hd
  · exact (w.lanes _).configured (hl ▸ h.configured_ne ha)
  · exact hd

theorem State.ReadsSound.works {s t : State} (h : s.ReadsSound) (hr : s.inReset = false) (w : s.Works t) :
    t.ReadsSound :=
  h.kept (w.readsKept h hr)

/-- Lanes, queue, port and loads are as they were, and lanes that are read for were so before. -/
structure State.SameReads (s t : State) : Prop where
  live : t.inReset = s.inReset
  straps : t.straps = s.straps
  lanes : t.afu.lanes = s.afu.lanes
  request : t.afu.request = s.afu.request
  aadr : t.afu.aadr = s.afu.aadr
  directory : t.afu.directory = s.afu.directory
  checkpoint : t.afu.checkpoint = s.afu.checkpoint
  entries : t.mq.entries = s.mq.entries
  load : t.rc.load = s.rc.load
  mode : t.rc.mode = s.rc.mode ∨ t.rc.mode = .ended ∨ s.ReadsLanes ∧ t.rc.mode.replaying = true

theorem State.ReadsSound.same {s t : State} (h : s.ReadsSound) (hr : s.inReset = false) (e : s.SameReads t) :
    t.ReadsSound := by
  have hl : ∀ l, t.lane l = s.lane l := State.lane_congr e.lanes
  refine h.kept ⟨e.live.trans hr, e.straps, .inr ⟨e.request, e.aadr⟩, fun l => by simp [hl], fun ht l => ?_,
    fun a ha => ?_, e.directory, .inr e.checkpoint, .inr e.load⟩
  · rw [hl]
    refine h.lanes ?_ l
    unfold State.ReadsLanes at ht
    rcases e.mode with hm | hm | ⟨hs, -⟩
    · rwa [hm, e.checkpoint] at ht
    · rcases ht with ht | ⟨ht, -⟩ <;> rw [hm] at ht <;> cases ht
    · exact hs
  · rw [hl]
    rw [e.entries] at ha
    exact h.configured_ne ha

/-- A read issued for a slot of the archive is sound, its address on AADR (R171). -/
theorem State.ReadsSound.issueRead {s : State} (h : s.ReadsSound) {slot : Nat}
    (hs : slot < archiveSlots s.straps.archiveSize) (o : ReadOwner) (y : Bool) : (s.issueRead o slot y).ReadsSound := by
  refine ⟨?_, h.regions, h.lanes, h.configured, h.directory, h.checkpoint, h.loading, h.empty⟩
  rintro _ ⟨⟩
  refine ⟨hs, ?_⟩
  have := (stationBlock_add s.straps.archiveSize).2
  rw [State.issueRead_afu_aadr, BitVec.toNat_ofNat]
  exact Nat.mod_eq_of_lt (by omega)

/-- A slot of the record area is a slot of the archive. -/
theorem lt_archiveSlots {n : Nat} {size : BitVec 2} (h : n < stationBlock size) : n < archiveSlots size := by
  have := stationBlock_add size
  omega

/-- A read for a lane with a slot to read lies within its region (R18, R26). -/
theorem State.ReadsSound.readLane {s : State} (h : s.ReadsSound) (hr : s.inReset = false) {l : Fin 16}
    (hv : s.ReadsLanes) (hl : (s.lane l).state = .ready) : (s.readLane l).ReadsSound := by
  have hp := (h.lanes hv l).reading (.inl hl)
  have hw : (s.setLane l { s.lane l with state := .waiting }).ReadsSound := by
    refine h.kept ⟨hr, rfl, .inr ⟨rfl, rfl⟩, fun m => ?_, fun _ m => ?_, fun e he => ?_, rfl, .inr rfl, .inr rfl⟩
    · rw [State.lane_setLane]
      split
      · subst m
        exact ⟨rfl, rfl⟩
      · exact ⟨rfl, rfl⟩
    · rw [State.lane_setLane]
      split
      · exact .of_lt hp
      · exact h.lanes hv m
    · rw [State.lane_setLane]
      split
      · simp
      · exact h.configured_ne he
  refine hw.issueRead (lt_archiveSlots ?_) _ _
  have := h.regions l
  unfold Lane.archiveSlot
  exact Nat.lt_of_lt_of_le (Nat.add_lt_add_left hp _) this

/-! Lanes set by a checkpoint load. -/

/-- Without a trap, a lane set by a load has a slot to read, or is ENDED or DISABLED (R20). -/
theorem Lane.loaded_hasSlot {x : Lane} (ht : x.trap = none) (subs : List LaneSub) (l : Fin 16) :
    (Lane.loaded subs l x).HasSlot := by
  unfold Lane.loaded
  split
  · split
    · rename_i sub _
      by_cases hn : sub.nextSlot < x.slotCount
      · exact .of_lt hn
      · exact .of_over (.inl (if_neg hn)) ht
    · by_cases hn : x.slotCount = 0
      · exact .of_over (.inl (if_pos hn)) ht
      · exact .of_lt (Nat.pos_of_ne_zero hn)
  · rename_i hc
    exact .of_over (.inr (.inr (by simpa [Lane.configured] using hc))) ht

/-- A load keeps regions, and keeps a lane configured. -/
theorem Lane.loaded_region (x : Lane) (subs : List LaneSub) (l : Fin 16) :
    ((Lane.loaded subs l x).base = x.base ∧ (Lane.loaded subs l x).slotCount = x.slotCount) ∧
      (x.state ≠ .disabled → (Lane.loaded subs l x).state ≠ .disabled) := by
  unfold Lane.loaded
  split
  · split
    · refine ⟨⟨rfl, rfl⟩, fun _ => ?_⟩
      unfold Lane.fromSub
      dsimp only
      split <;> simp
    · refine ⟨⟨rfl, rfl⟩, fun _ => ?_⟩
      unfold Lane.nominal
      dsimp only
      split <;> simp
  · exact ⟨⟨rfl, rfl⟩, id⟩

/-- The end of a checkpoint load gives every lane without a trap a slot to read. -/
theorem State.ReadsBounded.loadSubs {s : State} (h : s.ReadsBounded) (hr : s.inReset = false)
    (ht : ∀ l, (s.lane l).trap = none) (lanes : List LaneSub) (devices : List DeviceSub) :
    (s.loadSubs lanes devices).ReadsSound := by
  refine h.kept ⟨by simpa using hr, by simp, .inr ⟨by simp, by simp⟩, fun l => ?_, fun _ l => ?_, fun e he => ?_,
    by simp, .inl (by simp), .inr (by simp)⟩
  · rw [State.lane_loadSubs]
    exact (Lane.loaded_region _ _ _).1
  · rw [State.lane_loadSubs]
    exact Lane.loaded_hasSlot (ht l) _ _
  · rw [State.lane_loadSubs]
    exact (Lane.loaded_region _ _ _).2 (h.configured_ne (by simpa using he))

theorem State.ReadsBounded.replayFromNominal {s : State} (h : s.ReadsBounded) (hr : s.inReset = false)
    (ht : ∀ l, (s.lane l).trap = none) : s.replayFromNominal.ReadsSound := by
  have hl : State.ReadsSound { s.loadSubs [] [] with rc.seekDegraded := true } :=
    (h.loadSubs hr ht [] []).same (by simpa using hr) ⟨rfl, rfl, rfl, rfl, rfl, rfl, rfl, rfl, rfl, .inl rfl⟩
  exact hl.works (by simpa using hr) (State.works_retestLanes _)

/-- The completion of a seek leaves the lanes of the silent replay as they are (R162). -/
theorem State.ReadsSound.completeSeek {s : State} (h : s.ReadsSound) (hr : s.inReset = false) (hv : s.ReadsLanes) :
    s.completeSeek.ReadsSound := by
  refine h.same hr ⟨rfl, rfl, rfl, rfl, rfl, rfl, rfl, rfl, rfl, .inr (.inr ⟨hv, ?_⟩)⟩
  unfold State.completeSeek
  cases s.rc.modeAfterSeek <;> rfl

theorem State.ReadsBounded.replayFromCheckpoint {s : State} (h : s.ReadsBounded) (hr : s.inReset = false)
    (hm : s.rc.mode = .seeking) (ht : ∀ l, (s.lane l).trap = none) (c : CheckpointLoad) :
    (s.replayFromCheckpoint c).ReadsSound := by
  have hl := h.loadSubs hr ht c.lanes.reverse c.devices.reverse
  unfold State.replayFromCheckpoint State.decideSeek
  split
  · refine State.ReadsSound.completeSeek (hl.works (by simpa using hr) (State.works_retestLanes _)) (by simpa using hr)
      (.inr ⟨by simpa using hm, by simp⟩)
  · have hd : State.ReadsSound { s.loadSubs c.lanes.reverse c.devices.reverse with rc.seekDegraded := true } :=
      hl.same (by simpa using hr) ⟨rfl, rfl, rfl, rfl, rfl, rfl, rfl, rfl, rfl, .inl rfl⟩
    exact hd.works (by simpa using hr) (State.works_retestLanes _)

/-- A lane at the start of a seek keeps its region and has no trap (R40). -/
theorem Lane.seekReset_clear {x : Lane} (h : x.TrapSound) :
    (x.seekReset.base = x.base ∧ x.seekReset.slotCount = x.slotCount) ∧ x.seekReset.trap = none := by
  unfold Lane.seekReset
  split
  · exact ⟨⟨rfl, rfl⟩, rfl⟩
  · rename_i hc
    refine ⟨⟨rfl, rfl⟩, ?_⟩
    rw [← Option.not_isSome_iff_eq_none, ← h.trapped]
    simp only [Lane.configured, bne_iff_ne, ne_eq, not_not] at hc
    simp [hc]

/-- The blocks as a SEEK sets them, before its load begins (R40, R158). -/
theorem State.ReadsSound.seekBlocks {s : State} (h : s.ReadsSound) (ht : ∀ l, (s.lane l).TrapSound) (t : Nat) :
    (s.seekBlocks t).ReadsBounded := by
  refine ⟨by simp, fun l => ?_, by simp, by simpa using h.directory, by simp, by simpa using h.loading⟩
  rw [State.lane_seekBlocks, (Lane.seekReset_clear (ht l)).1.1, (Lane.seekReset_clear (ht l)).1.2]
  simpa using h.regions l

/-- While a checkpoint load is in progress no lane is read for (R24). -/
theorem State.ReadsBounded.withCheckpoint {s : State} (h : s.ReadsBounded) (hr : s.inReset = false)
    (hm : s.rc.mode = .seeking) {c : CheckpointLoad} (hs : c.entry.slot < stationBlock s.straps.archiveSize)
    (hc : c.taken ≠ 0 → c.entry.slot + c.slots ≤ stationBlock s.straps.archiveSize) :
    State.ReadsSound { s with afu.checkpoint := some c } := by
  refine ⟨h.request, h.regions, ?_, h.configured, h.directory, ?_, h.loading, ?_⟩
  · simp [hm, Mode.replaying]
  · rintro _ ⟨⟩
    exact ⟨hs, hc⟩
  · simp [hr]

/-- A seek begins with the read of a directory entry's checkpoint, or with lanes that have slots to read (R159). -/
theorem State.ReadsSound.beginSeek {s : State} (h : s.ReadsSound) (hr : s.inReset = false)
    (ht : ∀ l, (s.lane l).TrapSound) (t : Nat) : (s.beginSeek t).ReadsSound := by
  have hb := h.seekBlocks ht t
  have hi : (s.seekBlocks t).inReset = false := by simpa using hr
  unfold State.beginSeek State.beginLoad
  split
  · refine hb.replayFromNominal hi fun l => ?_
    rw [State.lane_seekBlocks]
    exact (Lane.seekReset_clear (ht l)).2
  · rename_i e he
    have hmem : e ∈ (s.seekBlocks t).afu.directory := (List.mem_filter.1 (List.mem_of_getLast? he)).1
    have hs := hb.directory e hmem
    exact (hb.withCheckpoint hi (by simp) hs (by simp)).issueRead (lt_archiveSlots hs) _ _

/-- A slot of a usable checkpoint leaves its entry, and with it the record's extent within the record area (R19). -/
theorem CheckpointLoad.takeSlot_extent {c c' : CheckpointLoad} {area : Nat} {d : Slot}
    (h : c.takeSlot area d = some c') (hc : c.taken ≠ 0 → c.entry.slot + c.slots ≤ area) :
    c'.entry = c.entry ∧ c'.entry.slot + c'.slots ≤ area := by
  unfold CheckpointLoad.takeSlot at h
  split at h
  · cases h
  · obtain ⟨r, hr, rfl⟩ := Option.map_eq_some_iff.1 h
    split at hr
    · unfold CheckpointLoad.takeHeader at hr
      dsimp only at hr
      split at hr
      · rename_i hx
        cases hr
        exact ⟨rfl, hx.2.2.2⟩
      · cases hr
    · rename_i h0
      split at hr
      · unfold CheckpointLoad.takeLaneSlot at hr
        split at hr
        · split at hr
          · cases hr
            exact ⟨rfl, hc h0⟩
          · cases hr
        · cases hr
          exact ⟨rfl, hc h0⟩
      · unfold CheckpointLoad.takeDeviceSlot at hr
        split at hr
        · cases hr
        · cases hr
          exact ⟨rfl, hc h0⟩

/-- A sub-record sets a lane within its region, and leaves its trap record (R20). -/
theorem Lane.setBy_region (sub : Option LaneSub) (l : Fin 16) (x : Lane) :
    ((Lane.setBy sub l x).base = x.base ∧ (Lane.setBy sub l x).slotCount = x.slotCount) ∧
      (Lane.setBy sub l x).trap = x.trap ∧ (x.state ≠ .disabled → (Lane.setBy sub l x).state ≠ .disabled) := by
  unfold Lane.setBy
  split
  · exact ⟨⟨rfl, rfl⟩, rfl, id⟩
  · split
    · refine ⟨⟨rfl, rfl⟩, rfl, fun _ => ?_⟩
      unfold Lane.fromSub
      dsimp only
      split <;> simp
    · exact ⟨⟨rfl, rfl⟩, rfl, id⟩

/-- A checkpoint's slot leads to the read of the record's next slot, or ends the load (R19, R159). -/
theorem State.ReadsSound.checkpointAnswer {s : State} (h : s.ReadsSound) (hr : s.inReset = false)
    (hm : s.rc.mode = .seeking) (ht : ∀ l, (s.lane l).trap = none) {c : CheckpointLoad}
    (hc : s.afu.checkpoint = some c) (d : Slot) : (s.checkpointAnswer c d).ReadsSound := by
  have idle : ∀ {u : State}, u.ReadsBounded → u.dropRead.ReadsBounded := fun hu =>
    ⟨by simp, hu.regions, hu.configured, hu.directory, hu.checkpoint, hu.loading⟩
  unfold State.checkpointAnswer
  split
  · exact (idle h.bounded).replayFromNominal hr ht
  · rename_i c' hc'
    obtain ⟨he, hx⟩ := CheckpointLoad.takeSlot_extent hc' (h.checkpoint c hc).2
    have hset : (s.setFromSlot c d).ReadsSound := by
      refine h.kept ⟨by simpa using hr, by simp, .inr ⟨by simp, by simp⟩, fun l => ?_, fun hv => ?_, fun e he => ?_,
        by simp, .inr (by simp), .inr (by simp)⟩
      · rw [State.lane_setFromSlot]
        exact (Lane.setBy_region _ _ _).1
      · simp [State.ReadsLanes, hm, hc, Mode.replaying] at hv
      · rw [State.lane_setFromSlot]
        exact (Lane.setBy_region _ _ _).2.2 (h.configured_ne (by simpa using he))
    have hs : c'.entry.slot < stationBlock (s.setFromSlot c d).straps.archiveSize := by
      rw [he]
      simpa using (h.checkpoint c hc).1
    unfold State.nextCheckpoint
    split
    · refine (hset.bounded.withCheckpoint (by simpa using hr) (by simpa using hm) hs fun _ => by simpa using hx).issueRead
        (lt_archiveSlots ?_) _ _
      simp only [State.setFromSlot_straps]
      omega
    · refine (idle hset.bounded).replayFromCheckpoint (by simpa using hr) (by simpa using hm) (fun l => ?_) c'
      rw [State.lane_dropRead, State.lane_setFromSlot, (Lane.setBy_region _ _ _).2.1]
      exact ht l

/-! The start-up load (R4 to R13). -/

theorem State.ReadsSound.enterFaulted {s : State} (h : s.ReadsSound) (hr : s.inReset = false) (c : FaultCause) :
    (s.enterFaulted c).ReadsSound := by
  have hl : ∀ l, (s.enterFaulted c).lane l = Lane.disabled := fun l => by
    simp [State.lane, State.enterFaulted]
  refine ⟨by simp, fun l => ?_, by simp [Mode.replaying], by simp, by simpa using h.directory, by simp, by simp,
    by simp [hr]⟩
  rw [hl]
  exact Nat.zero_le _

/-- The next slot of the load is read for a stage that it is sound at. -/
theorem State.ReadsSound.readLoad {s : State} (h : s.ReadsSound) (hr : s.inReset = false) {p : LoadProgress}
    {stage : LoadStage} {slot : Nat} (hp : LoadProgress.Sound { p with stage := stage } (stationBlock s.straps.archiveSize))
    (hs : slot < archiveSlots s.straps.archiveSize) : (s.readLoad p stage slot).ReadsSound := by
  have hl : State.ReadsSound { s with rc.load := some { p with stage := stage } } := by
    refine ⟨h.request, h.regions, h.lanes, h.configured, h.directory, h.checkpoint, ?_, by simp [hr]⟩
    rintro _ ⟨⟩
    exact hp
  exact hl.issueRead hs _ _

/-- The slots of the station block are slots of the archive. -/
theorem State.blockSlot_lt (s : State) {i : Nat} (h : i < 2048) : s.blockSlot i < archiveSlots s.straps.archiveSize := by
  have := stationBlock_add s.straps.archiveSize
  unfold State.blockSlot
  omega

/-- The end of the load gives the lanes the regions that check 4 has passed (R8, R23). -/
theorem State.ReadsSound.finishLoad {s : State} (h : s.ReadsSound) (hr : s.inReset = false) {p : LoadProgress}
    (hregions : ∀ c ∈ p.lanes, c.base + c.slotCount ≤ stationBlock s.straps.archiveSize)
    (hentries : ∀ e ∈ p.directory, e.slot < stationBlock s.straps.archiveSize) : (s.finishLoad p).ReadsSound := by
  refine ⟨by simp, fun l => ?_, by simp [Mode.replaying], by simp, by simpa using hentries, by simpa using h.checkpoint,
    by simp, by simp [hr]⟩
  have hl : (s.finishLoad p).lane l = (p.lanes[l.val]?).elim Lane.disabled LaneConfig.toLane := by
    simp [State.lane]
  rw [hl]
  cases hc : p.lanes[l.val]? with
  | none => exact Nat.zero_le _
  | some c => simpa [LaneConfig.toLane] using hregions c (List.mem_of_getElem? hc)

/-- The parts of a load that no stage changes: regions within the record area, directory entries within it, at most 16
lanes. -/
structure LoadProgress.Within (p : LoadProgress) (area : Nat) : Prop where
  lanes : p.header.laneCount ≤ 16
  regions : ∀ c ∈ p.lanes, c.base + c.slotCount ≤ area
  entries : ∀ e ∈ p.directory, e.slot < area

theorem LoadProgress.Sound.within {p : LoadProgress} {area : Nat} (h : p.Sound area) : p.Within area :=
  ⟨h.lanes, h.regions, h.entries⟩

theorem State.ReadsSound.loadDirectory {s : State} (h : s.ReadsSound) (hr : s.inReset = false) {p : LoadProgress}
    (hp : p.Within (stationBlock s.straps.archiveSize)) : (s.loadDirectory p).ReadsSound := by
  unfold State.loadDirectory
  split
  · exact h.enterFaulted hr _
  · split
    · exact h.finishLoad hr hp.regions hp.entries
    · split
      · exact h.enterFaulted hr _
      · refine h.readLoad hr ⟨hp.lanes, hp.regions, nofun, fun _ _ => ?_, hp.entries⟩ (lt_archiveSlots ?_) <;>
          (try dsimp only) <;> omega

theorem State.ReadsSound.loadRanges {s : State} (h : s.ReadsSound) (hr : s.inReset = false) {p : LoadProgress}
    (hp : p.Within (stationBlock s.straps.archiveSize)) : (s.loadRanges p).ReadsSound := by
  unfold State.loadRanges
  split
  · exact h.enterFaulted hr _
  · split
    · exact h.loadDirectory hr hp
    · exact h.readLoad hr ⟨hp.lanes, hp.regions, nofun, nofun, hp.entries⟩ (s.blockSlot_lt (by omega))

/-- A directory slot accepts entries within the record area alone (R13). -/
theorem acceptDirectory_within {area : Nat} {d : Slot} (n j : Nat) {dir dir' : List DirEntry}
    (h : acceptDirectory area d n j dir = some dir') (hd : ∀ e ∈ dir, e.slot < area) : ∀ e ∈ dir', e.slot < area := by
  induction n generalizing j dir with
  | zero =>
    cases h
    exact hd
  | succ n ih =>
    unfold acceptDirectory at h
    split at h
    · rename_i hv
      simp only [dirEntryValid, Bool.and_eq_true, decide_eq_true_eq] at hv
      refine ih _ h fun e he => ?_
      rcases List.mem_append.1 he with he | he
      · exact hd e he
      · rw [List.mem_singleton.1 he]
        exact hv.1.2
    · cases h

/-- The header, checked for its lane count, leads to the first lane entry (R5). -/
theorem State.ReadsSound.loadHeader {s : State} (h : s.ReadsSound) (hr : s.inReset = false) {p : LoadProgress}
    (hp : p.Within (stationBlock s.straps.archiveSize)) (d : Slot) : (s.checkHeader p d).ReadsSound := by
  unfold State.checkHeader
  split
  · exact h.enterFaulted hr _
  · split
    · exact h.enterFaulted hr _
    · refine h.readLoad hr ⟨?_, hp.regions, nofun, nofun, hp.entries⟩ (s.blockSlot_lt (by omega))
      dsimp only
      omega

/-- A lane entry, checked for its region, leads to the next one or to the device list (R5, R8, R9). -/
theorem State.ReadsSound.loadLane {s : State} (h : s.ReadsSound) (hr : s.inReset = false) {p : LoadProgress}
    (hp : p.Within (stationBlock s.straps.archiveSize)) (i : Nat) (d : Slot) : (s.checkLane p i d).ReadsSound := by
  unfold State.checkLane
  split
  · exact h.enterFaulted hr _
  · rename_i tick _
    split
    · exact h.enterFaulted hr _
    · rename_i hc
      have hq : LoadProgress.Within { p with lanes := p.lanes ++ [laneConfigOf d tick] }
          (stationBlock s.straps.archiveSize) := by
        refine ⟨hp.lanes, fun c hm => ?_, hp.entries⟩
        rcases List.mem_append.1 hm with hm | hm
        · exact hp.regions c hm
        · rw [List.mem_singleton.1 hm]
          omega
      unfold State.acceptLane State.loadDevicesPart
      split
      · have := hp.lanes
        exact h.readLoad hr ⟨hq.lanes, hq.regions, nofun, nofun, hq.entries⟩ (s.blockSlot_lt (by omega))
      · split
        · exact h.enterFaulted hr _
        · split
          · exact h.enterFaulted hr _
          · split
            · exact h.loadRanges hr hq
            · refine h.readLoad hr ⟨hq.lanes, hq.regions, fun _ _ => ?_, nofun, hq.entries⟩ (s.blockSlot_lt (by omega))
              have : ¬4096 < p.header.deviceCount := by assumption
              dsimp only
              omega

/-- A slot of the start-up load leads to a read within the station block or the directory, or ends the load. -/
theorem State.ReadsSound.loadAnswer {s : State} (h : s.ReadsSound) (hr : s.inReset = false) {p : LoadProgress}
    (hp : p.Sound (stationBlock s.straps.archiveSize)) (d : Slot) : (s.loadAnswer p d).ReadsSound := by
  have warn : ∀ b, (s.warnIf b).ReadsSound := fun b =>
    h.same hr ⟨rfl, rfl, rfl, rfl, rfl, rfl, rfl, rfl, rfl, .inl rfl⟩
  unfold State.loadAnswer
  split
  · exact (warn _).loadHeader hr hp.within d
  · exact (warn _).loadLane hr hp.within _ d
  · rename_i i hi
    have hq : LoadProgress.Within { p with devices := (devicesOfSlot p i d).1 } (stationBlock s.straps.archiveSize) :=
      ⟨hp.lanes, hp.regions, hp.entries⟩
    have hc := hp.devices i hi
    unfold State.loadDeviceSlot State.nextDevices
    split
    · rename_i hn
      have hn' : 4 * (i + 1) < p.header.deviceCount := hn
      exact (warn _).readLoad hr ⟨hp.lanes, hp.regions, fun _ _ => hc, nofun, hp.entries⟩
        (State.blockSlot_lt _ (by omega))
    · exact (warn _).loadRanges hr hq
  · unfold State.loadRangeSlot
    split
    · exact h.loadDirectory hr ⟨hp.lanes, hp.regions, hp.entries⟩
    · exact h.enterFaulted hr _
  · rename_i i hi
    have hx := hp.directory i hi
    unfold State.loadDirectorySlot
    split
    · exact h.enterFaulted hr _
    · rename_i dir hd
      have he := acceptDirectory_within _ _ hd hp.entries
      unfold State.nextDirectory
      split
      · rename_i hn
        have hn' : 2 * (i + 1) < p.header.directoryCount := hn
        refine h.readLoad hr ⟨hp.lanes, hp.regions, nofun, fun _ _ => hx, he⟩ (lt_archiveSlots ?_)
        dsimp only
        omega
      · exact h.finishLoad hr hp.regions he

/-! The other operations. -/

theorem State.ReadsSound.settle {s : State} (h : s.ReadsSound) (hr : s.inReset = false) : s.settle.ReadsSound := by
  have drain : (State.drainFront 16 s).ReadsSound := by
    have hl : ∀ l, ∃ y, (State.drainFront 16 s).lane l = { s.lane l with silent := y } := s.drainFront_lane 16
    refine h.kept ⟨by simpa using hr, by simp, .inr ⟨by simp, by simp⟩, fun l => ?_, fun hv l => ?_, fun e he => ?_,
      by simp, .inr (by simp), .inr (by simp)⟩
    · obtain ⟨y, hy⟩ := hl l
      rw [hy]
      exact ⟨rfl, rfl⟩
    · obtain ⟨y, hy⟩ := hl l
      have hs := h.lanes (by simpa [State.ReadsLanes] using hv) l
      rw [hy]
      exact ⟨hs.reading, hs.resting, hs.fetch, hs.winning⟩
    · obtain ⟨y, hy⟩ := hl e.lane
      rw [hy]
      exact h.configured_ne (by simpa using he)
  have seek : s.settleSeek.ReadsSound := by
    rcases s.settleSeek_cases with e | ⟨hm, hc, e | e⟩ <;> rw [e]
    · exact h
    · exact drain
    · exact drain.completeSeek (by simpa using hr) (.inr ⟨by simpa using hm, by simpa using hc⟩)
  exact seek.same (by simpa using hr) ⟨by simp [State.settle], by simp [State.settle], by simp [State.settle],
    by simp [State.settle], by simp [State.settle], by simp [State.settle], by simp [State.settle],
    by simp [State.settle], by simp [State.settle], .inl (by simp [State.settle])⟩

/-- An engine that withdraws or halts reads for no lane. -/
theorem State.ReadsSound.stops {s : State} (h : s.ReadsSound) (hr : s.inReset = false) :
    s.withdraw.ReadsSound ∧ s.haltBlocks.ReadsSound := by
  refine ⟨h.kept ⟨by simpa using hr, by simp, .inl (by simp), fun l => ?_, fun hv => ?_, fun e he => ?_, by simp,
    .inl (by simp), .inr (by simp)⟩, h.kept ⟨by simpa using hr, by simp, .inl (by simp), fun l => ?_, fun hv => ?_,
    fun e he => ?_, by simp, .inl (by simp), .inr (by simp)⟩⟩
  · rw [State.lane_withdraw]
    exact ⟨rfl, rfl⟩
  · simp [State.ReadsLanes, Mode.replaying] at hv
  · rw [State.lane_withdraw]
    exact h.configured_ne (by simpa using he)
  · rw [State.lane_haltBlocks]
    exact ⟨rfl, rfl⟩
  · simp [State.ReadsLanes, Mode.replaying] at hv
  · simp at he

/-- A lane that is lost was read for, and is read for no more (R30). -/
theorem State.ReadsSound.loseLane {s : State} (h : s.ReadsSound) (hr : s.inReset = false) {l : Fin 16}
    (hw : (s.lane l).state = .waiting) : (s.loseLane l).ReadsSound := by
  have hl : ∀ m, (s.loseLane l).lane m = if m = l then { s.lane l with state := .lost } else s.lane m := by
    intro m
    unfold State.loseLane
    rw [State.lane_endVisit, State.lane_raiseFinding, State.lane_dropRead, State.lane_setLane]
  refine h.kept ⟨by simpa [State.loseLane] using hr, by simp [State.loseLane], .inl (by simp [State.loseLane]),
    fun m => ?_, fun hv m => ?_, fun e he => ?_, by simp [State.loseLane], .inr (by simp [State.loseLane]),
    .inr (by simp [State.loseLane])⟩
  · rw [hl]
    split
    · subst m
      exact ⟨rfl, rfl⟩
    · exact ⟨rfl, rfl⟩
  · have hs := h.lanes (by simpa [State.ReadsLanes, State.loseLane] using hv)
    rw [hl]
    split
    · exact .of_lt ((hs l).reading (.inr hw))
    · exact hs m
  · rw [hl]
    split
    · simp
    · exact h.configured_ne (by simpa [State.loseLane] using he)

/-- Where the test at the end of a stretch passes, BHL is released in EMIT, and no lane is TRAPPED (R89, R103). -/
theorem State.sendable_cases {s : State} {o : Outbound} {line : Level} {e : Entry} (h : s.sendable o line = some e)
    (hline : s.HoldLineSound) :
    e ∈ s.mq.entries ∧ s.rc.mode.replaying = true ∧ ∀ l, (s.lane l).state ≠ .trapped := by
  unfold State.sendable at h
  split at h
  · cases h
  · split at h
    · cases h
    · rename_i k _ e' he
      split at h
      · rename_i hc
        simp only [Bool.and_eq_true, beq_iff_eq, decide_eq_true_eq] at hc
        obtain ⟨⟨⟨hm, hp⟩, hb⟩, -⟩ := hc
        cases h
        refine ⟨List.mem_of_find?_eq_some he, hm, fun l hl => ?_⟩
        have hd : s.pu.drive = .dominant :=
          hline.drive.2 (.inr (.inr (.inr ⟨Mode.replaying_iff.1 hm, by simp [hp], .inl ⟨l, hl⟩⟩)))
        simp [State.readBhl, hd] at hb
      · cases h

/-- An entry is held only where its lane holds no released record (R147). -/
theorem State.evaluate_hold {s : State} {e : Entry} {a : AnomalySet} (h : s.evaluate e = .hold a) :
    (s.lane e.lane).releasedRecord = none := by
  unfold State.evaluate at h
  split at h
  · cases h
  · dsimp only at h
    split at h
    · cases h
    · split at h
      · cases h
      · rename_i hr
        simpa using hr

/-- A trap at winning finds its lane configured and untrapped, so with a slot to read wherever its release makes it read
again (R147, R150). -/
theorem State.ReadsSound.trapAtWinning {s : State} (h : s.ReadsSound) (hr : s.inReset = false)
    (hline : s.HoldLineSound) {o : Outbound} {line : Level} {e : Entry} {a : AnomalySet}
    (he : s.sendable o line = some e) (ha : s.evaluate e = .hold a) : (s.trapAtWinning e a).ReadsSound := by
  obtain ⟨hmem, hm, hn⟩ := State.sendable_cases he hline
  have hrec := State.evaluate_hold ha
  have hslot : (s.lane e.lane).state ≠ .ended → (s.lane e.lane).state ≠ .lost →
      (s.lane e.lane).readPos < (s.lane e.lane).slotCount := by
    intro h1 h2
    have hs := h.lanes (.inl hm) e.lane
    have hd := h.configured_ne hmem
    have ht := hn e.lane
    cases hst : (s.lane e.lane).state with
    | ready => exact hs.reading (.inl hst)
    | waiting => exact hs.reading (.inr hst)
    | stalled => exact hs.resting (.inl hst) hrec
    | passed => exact hs.resting (.inr hst) hrec
    | disabled => exact absurd hst hd
    | trapped => exact absurd hst ht
    | ended => exact absurd hst h1
    | lost => exact absurd hst h2
  have trap : (s.trapLane e.lane e.key).ReadsSound := by
    refine h.kept ⟨hr, rfl, .inr ⟨rfl, rfl⟩, fun m => ?_, fun _ m => ?_, fun x hx => ?_, rfl, .inr rfl, .inr rfl⟩
    · rw [State.trapLane, State.lane_setLane]
      split
      · subst m
        exact ⟨rfl, rfl⟩
      · exact ⟨rfl, rfl⟩
    · rw [State.trapLane, State.lane_setLane]
      split
      · refine ⟨by simp, by simp, by simp, ?_⟩
        rintro k b ⟨⟩ h1 h2
        exact hslot h1 h2
      · exact h.lanes (.inl hm) m
    · rw [State.trapLane, State.lane_setLane]
      split
      · simp
      · exact h.configured_ne hx
  have visit : ((s.trapLane e.lane e.key).abandonVisit e.lane).ReadsSound := by
    unfold State.abandonVisit
    split
    · exact trap.kept ⟨hr, rfl, .inl rfl, fun _ => ⟨rfl, rfl⟩, trap.lanes, fun _ => trap.configured_ne, rfl, .inr rfl,
        .inr rfl⟩
    · exact trap
  have hi : ((s.trapLane e.lane e.key).abandonVisit e.lane).inReset = false := by
    unfold State.abandonVisit
    split <;> exact hr
  exact visit.works hi ((State.works_raiseFinding _ _).trans (State.works_busIdle _))

/-- A lane's slot leads to the read of its next one, or ends the visit (R26). -/
theorem State.ReadsSound.laneAnswer {s : State} (h : s.ReadsSound) (hr : s.inReset = false) {l : Fin 16}
    (hw : (s.lane l).state = .waiting) (d : Slot) :
    (((s.answerTaken l).takeSlot l d).continueVisit l).ReadsSound := by
  have hl : ∀ m, (s.answerTaken l).lane m = if m = l then { s.lane l with state := .ready } else s.lane m :=
    fun m => State.lane_setLane s l m _
  have ha : (s.answerTaken l).ReadsSound := by
    refine h.kept ⟨hr, rfl, .inl rfl, fun m => ?_, fun hv m => ?_, fun e he => ?_, rfl, .inr rfl, .inr rfl⟩
    · rw [hl]
      split
      · subst m
        exact ⟨rfl, rfl⟩
      · exact ⟨rfl, rfl⟩
    · rw [hl]
      split
      · exact .of_lt ((h.lanes hv l).reading (.inr hw))
      · exact h.lanes hv m
    · rw [hl]
      split
      · simp
      · exact h.configured_ne he
  have hwk := State.works_takeSlot (s := s.answerTaken l) (l := l) (by simp) d
  have ht := ha.works hr hwk
  have hi := hwk.inReset.trans hr
  unfold State.continueVisit
  split
  · rename_i hc
    simp only [State.mayContinue, Bool.and_eq_true, beq_iff_eq] at hc
    obtain ⟨⟨⟨⟨hst, -⟩, -⟩, hv⟩, -⟩ := hc
    exact ht.readLane hi (State.readsLanes_of_visits hv) hst
  · exact ht.same hi ⟨rfl, rfl, rfl, rfl, rfl, rfl, rfl, rfl, rfl, .inl rfl⟩

/-- Changes of phase, window, budget and pause, and of the mode after a seek, leave the reads (R107, R108, R113). -/
theorem State.sameReads_readAtOpen (s : State) (line : Level) : s.SameReads (s.readAtOpen line) := by
  unfold State.readAtOpen
  split
  · split <;> exact ⟨rfl, rfl, rfl, rfl, rfl, rfl, rfl, rfl, rfl, .inl rfl⟩
  · exact ⟨rfl, rfl, rfl, rfl, rfl, rfl, rfl, rfl, rfl, .inl rfl⟩

theorem State.sameReads_suspendOn (s : State) (level : Level) : s.SameReads (s.suspendOn level) := by
  unfold State.suspendOn
  split
  · exact ⟨rfl, rfl, rfl, rfl, rfl, rfl, rfl, rfl, rfl, .inl rfl⟩
  · split <;> exact ⟨rfl, rfl, rfl, rfl, rfl, rfl, rfl, rfl, rfl, .inl rfl⟩

/-- RUN, PAUSE and STEP change between PAUSED and RUNNING alone (R113, R114). -/
theorem State.sameReads_modeCommands (s : State) (n : Nat) :
    s.SameReads s.doRun ∧ s.SameReads s.doPause ∧ s.SameReads (s.doStep n) := by
  have same : s.SameReads s := ⟨rfl, rfl, rfl, rfl, rfl, rfl, rfl, rfl, rfl, .inl rfl⟩
  have replays : ∀ {m}, s.rc.mode = m → m.replaying = true → s.ReadsLanes := fun h hm => .inl (by rw [h]; exact hm)
  refine ⟨?_, ?_, ?_⟩
  · unfold State.doRun
    split
    · exact { same with }
    · exact { same with mode := .inr (.inr ⟨replays ‹_› rfl, rfl⟩) }
    · exact { same with }
    all_goals exact same
  · unfold State.doPause
    split
    · exact { same with }
    · split
      · exact { same with mode := .inr (.inr ⟨replays ‹_› rfl, rfl⟩) }
      all_goals exact { same with }
    all_goals exact same
  · unfold State.doStep
    split
    · exact { same with }
    · exact { same with mode := .inr (.inr ⟨replays ‹_› rfl, rfl⟩) }
    · exact { same with }
    all_goals exact same

theorem State.ReadsSound.takeCut {s : State} (h : s.ReadsSound) (hr : s.inReset = false) (f : Frame) :
    (s.takeCut f).ReadsSound := by
  have adopt : (s.adoptCut f.key.toNat).ReadsSound ∧ (s.adoptCut f.key.toNat).inReset = false := by
    unfold State.adoptCut
    split
    · have hw : State.ReadsSound { s with pu.windowEnd := f.key.toNat } :=
        h.same hr ⟨rfl, rfl, rfl, rfl, rfl, rfl, rfl, rfl, rfl, .inl rfl⟩
      exact ⟨hw.works hr (State.works_retestLanes _), by simpa using hr⟩
    · exact ⟨h, hr⟩
  have own : (s.adoptOwnCut f.key.toNat).ReadsSound :=
    adopt.1.same adopt.2 ⟨rfl, rfl, rfl, rfl, rfl, rfl, rfl, rfl, rfl, .inl rfl⟩
  unfold State.takeCut
  split
  · split
    · unfold State.takeOwnCut
      split
      · exact own
      · exact own.works adopt.2 (State.works_raiseFinding _ _)
    · exact adopt.1
  all_goals exact adopt.1

theorem State.ReadsSound.closeEpoch {s : State} (h : s.ReadsSound) (hr : s.inReset = false)
    (hm : s.rc.mode.replaying = true) (n : Nat) : (s.closeEpoch n).ReadsSound := by
  have hmode : s.modeAfterClose.replaying = true := by
    unfold State.modeAfterClose
    split
    · rfl
    · exact hm
  have hc : (s.epochClosed n).ReadsSound :=
    h.same hr ⟨rfl, rfl, rfl, rfl, rfl, rfl, rfl, rfl, rfl, .inr (.inr ⟨.inl hm, hmode⟩)⟩
  rw [State.closeEpoch_eq]
  exact hc.works hr (State.works_retestLanes _)

/-- Outside a seek's load the lanes' trap records are as `State.TrapsSound` says; in SEEKING there are none (R40). -/
theorem State.TrapsSound.trap_none {s : State} (h : s.TrapsSound) (hm : s.rc.mode = .seeking) (l : Fin 16) :
    (s.lane l).trap = none :=
  (h.clear (.inr (.inr hm)) l).2

/-- The path of a failed read issues no read (R4, R19, R30). -/
theorem State.ReadsSound.readFailed {s : State} (h : s.ReadsSound) (hr : s.inReset = false) (hport : s.PortSound)
    (htraps : s.TrapsSound) {r : Request} (hq : s.afu.request = some r) : (s.readFailed r.owner).ReadsSound := by
  unfold State.readFailed
  split
  · exact h.enterFaulted hr _
  · rename_i l ho
    exact h.loseLane hr (hport.forLane r l hq ho).1
  · rename_i ho
    have hm := hport.seeking (hport.forCheckpoint r hq ho)
    exact State.ReadsBounded.replayFromNominal (s := s.dropRead)
      ⟨by simp, h.regions, h.configured, h.directory, h.checkpoint, h.loading⟩ hr (htraps.trap_none hm)

/-- Every effect of a command keeps every read within the archive. -/
theorem State.Effect.readsSound {s t : State} (e : s.Effect t) (h : s.ReadsSound) (hr : s.inReset = false)
    (hport : s.PortSound) (hline : s.HoldLineSound) (htraps : s.TrapsSound) : t.ReadsSound := by
  have line : ∀ {u : State}, u.ReadsSound → u.inReset = false → u.refreshDrive.ReadsSound :=
    fun hu hi => hu.same hi ⟨rfl, rfl, rfl, rfl, rfl, rfl, rfl, rfl, rfl, .inl rfl⟩
  have pop : s.popInbound.ReadsSound := h.works hr s.works_popInbound
  cases e with
  | words => exact h.same hr ⟨rfl, rfl, rfl, rfl, rfl, rfl, rfl, rfl, rfl, .inl rfl⟩
  | loadAnswer n r p d hq hp =>
    exact line (h.loadAnswer hr (h.loading p hp) d) (State.loadAnswer_port hport hr hq hp d).live
  | retry r hq => exact h.issueRead (h.request r hq).1 _ _
  | readFailed r hq =>
    exact (h.readFailed hr hport htraps hq).settle (State.portIdle_readFailed hport hr hq).live
  | visit l hv _ hl =>
    have hb : State.ReadsSound { s with afu.visitCount := 0, afu.visitEnding := false } :=
      h.same hr ⟨rfl, rfl, rfl, rfl, rfl, rfl, rfl, rfl, rfl, .inl rfl⟩
    exact hb.readLane hr (State.readsLanes_of_visits hv) hl
  | laneAnswer l n r d hq =>
    exact (h.laneAnswer hr (hport.forLane _ l hq rfl).1 d).settle (State.laneAnswer_port hport hr l d).live
  | checkpointAnswer n r c d hq hc =>
    have hm := hport.seeking (by simp [hc])
    exact (h.checkpointAnswer hr hm (htraps.trap_none hm) hc d).settle
      (State.checkpointAnswer_port hport hr hq hc d).live
  | bus => exact h.works hr (s.works_biu _)
  | opened ln =>
    have ho := s.sameReads_readAtOpen ln
    have hi := ho.live.trans hr
    have hw := (s.readAtOpen ln).works_beginAttempt
    exact line ((h.same hr ho).works hi hw) (hw.inReset.trans hi)
  | stretchEnds o ln _ =>
    rcases s.endStretch_cases o ln with hw | ⟨e, a, he, ha, hx⟩ | hx
    · exact line (h.works hr hw) (hw.inReset.trans hr)
    · rw [hx]
      exact line (h.trapAtWinning hr hline he ha) (State.trapAtWinning_port hport hr e a).live
    · rw [hx]
      have hs := s.sameReads_suspendOn (s.readBhl ln)
      have hi := hs.live.trans hr
      exact line ((h.same hr hs).works hi (State.works_busIdle _)) hi
  | attemptFails =>
    have hi := s.works_busIdle
    rcases s.busIdle.failAttempt_cases with hw | ⟨-, u, hu, he⟩
    · exact line (h.works hr (hi.trans hw)) ((hi.trans hw).inReset.trans hr)
    · rw [he]
      have hw := hi.trans hu
      exact line (((h.works hr hw).stops (hw.inReset.trans hr)).1) (by simpa using hw.inReset.trans hr)
  | ownAccepted o _ =>
    have hw := s.works_ownAccepted o
    exact (h.works hr hw).settle (hw.inReset.trans hr)
  | heardAccepted hd =>
    rcases s.heardAccepted_cases hd with hw | ⟨-, u, hu, he⟩ | ⟨-, u, hu, he⟩ | ⟨hm, u, t, hu, ha, he⟩
    · exact (h.works hr hw).settle (hw.inReset.trans hr)
    · rw [he]
      exact ((h.works hr hu).stops (hu.inReset.trans hr)).1.settle (by simpa using hu.inReset.trans hr)
    · rw [he]
      exact ((h.works hr hu).enterFaulted (hu.inReset.trans hr) _).settle (by simpa using hu.inReset.trans hr)
    · rw [he]
      have hi := hu.inReset.trans hr
      have ht : ∀ l, (u.lane l).TrapSound := fun l => by
        rw [State.lane_congr (s := s) (t := u) (by rw [ha]) l]
        exact htraps.each l
      have hl : u.rc.load = none := by
        rw [hu.rc]
        exact hport.load_none (by simp [hm])
      exact ((h.works hr hu).beginSeek hi ht t).settle (State.portSound_beginSeek hi hl t).live
  | heardVetoed hd =>
    rcases s.heardVetoed_cases hd with hw | ⟨-, u, hu, he⟩
    · exact line (h.works hr hw) (hw.inReset.trans hr)
    · rw [he]
      exact line ((h.works hr hu).stops (hu.inReset.trans hr)).1 (by simpa using hu.inReset.trans hr)
  | dropped => exact pop
  | cut f _ _ => exact (pop.takeCut hr f).settle (State.readGoesOn_takeCut (s := s.popInbound) hr f).live
  | event => exact pop.same hr ⟨rfl, rfl, rfl, rfl, rfl, rfl, rfl, rfl, rfl, .inl rfl⟩
  | historyEnds =>
    refine State.ReadsSound.settle ?_ hr
    exact pop.same hr ⟨rfl, rfl, rfl, rfl, rfl, rfl, rfl, rfl, rfl, .inr (.inl rfl)⟩
  | epochCloses f _ _ he =>
    exact (pop.closeEpoch hr (State.inEmit_iff.1 he).1 _).settle (by simpa [State.closeEpoch] using hr)
  | nextIgnored => exact line pop hr
  | closePulseEnds => exact h.same hr ⟨rfl, rfl, rfl, rfl, rfl, rfl, rfl, rfl, rfl, .inl rfl⟩
  | timerSet => exact h.same hr ⟨rfl, rfl, rfl, rfl, rfl, rfl, rfl, rfl, rfl, .inl rfl⟩
  | rises =>
    unfold State.rise
    split <;> exact h.same hr ⟨rfl, rfl, rfl, rfl, rfl, rfl, rfl, rfl, rfl, .inl rfl⟩
  | suspends =>
    have hs := s.sameReads_suspendOn .dominant
    exact line (h.same hr hs) (hs.live.trans hr)
  | timebase b =>
    have hb : State.ReadsSound { s with pu.timebase := b } :=
      h.same hr ⟨rfl, rfl, rfl, rfl, rfl, rfl, rfl, rfl, rfl, .inl rfl⟩
    exact hb.works hr (State.works_placeStatus _)
  | run =>
    have hs := (s.popInbound.sameReads_modeCommands 0).1
    exact line (pop.same hr hs) (hs.live.trans hr)
  | pause =>
    have hs := (s.popInbound.sameReads_modeCommands 0).2.1
    exact line (pop.same hr hs) (hs.live.trans hr)
  | step f a _ =>
    have hs := (s.popInbound.sameReads_modeCommands (stepArg a)).2.2
    exact line (pop.same hr hs) (hs.live.trans hr)
  | seek f a hf =>
    exact (pop.beginSeek hr htraps.each _).settle
      (State.portSound_beginSeek (s := s.popInbound) hr (hport.load_none_of_front hf) _).live
  | halt => exact line (pop.stops hr).2 (by simpa using hr)
  | epoch => exact pop.same hr ⟨rfl, rfl, rfl, rfl, rfl, rfl, rfl, rfl, rfl, .inl rfl⟩
  | rate => exact pop.same hr ⟨rfl, rfl, rfl, rfl, rfl, rfl, rfl, rfl, rfl, .inl rfl⟩
  | release f l action _ hl =>
    have hw := State.works_releaseLane (s := s.popInbound) (by simpa using hl) action
    exact (pop.works hr hw).settle (hw.inReset.trans hr)
  | query => exact pop.same hr ⟨rfl, rfl, rfl, rfl, rfl, rfl, rfl, rfl, rfl, .inl rfl⟩
  | poll => exact pop.works hr (State.works_placeStatus _)

/-- A reset leaves no region, no directory and no read. -/
theorem State.resetWith_readsSound (s : State) (cause : StartCause) : (s.resetWith cause).ReadsSound := by
  have hl : ∀ l, (s.resetWith cause).lane l = Lane.disabled := fun l => by
    simp [State.lane, State.resetWith, State.reset]
  refine ⟨nofun, fun l => ?_, ?_, nofun, nofun, nofun, nofun, fun _ => ⟨rfl, hl⟩⟩
  · rw [hl]
    exact Nat.zero_le _
  · rintro (h | ⟨h, -⟩) <;> cases h

/-- Settles O59: every effect keeps the reads, and the straps are sampled where no region and no directory stands. -/
theorem stepIssuesNoReadOutsideTheArchive : Obligations.StepIssuesNoReadOutsideTheArchive := by
  intro s t hport hline _ htraps hreads hst
  refine step_keeps (Q := fun s => s.PortSound ∧ s.HoldLineSound ∧ s.TrapsSound ∧ s.ReadsSound)
    (P := fun _ t => t.ReadsSound) hst ⟨hport, hline, htraps, hreads⟩
    (queue := fun _ ⟨h1, h2, h3, h4⟩ => ⟨{ h1 with }, { h2 with }, { h3 with }, { h4 with }⟩) (back := fun _ h => h)
    (same := fun _ h => h.2.2.2) (effect := fun _ _ ⟨h1, h2, h3, h4⟩ hr e => e.readsSound h4 hr h1 h2 h3)
    (reset := fun s cause _ => s.resetWith_readsSound cause) (resetEnd := fun s straps b ⟨h1, _, _, h4⟩ hr => ?_)
  obtain ⟨hm, hload, hc, hq⟩ := h1.resting hr
  obtain ⟨hdir, hlanes⟩ := h4.empty hr
  have hu : State.ReadsSound { s with inReset := false, straps := straps, pu.timebase := b } := by
    refine ⟨by simp [hq], fun l => ?_, by simp [hm, Mode.replaying], h4.configured, by simp [hdir], by simp [hc],
      by simp [hload], nofun⟩
    rw [show State.lane { s with inReset := false, straps := straps, pu.timebase := b } l = s.lane l from rfl, hlanes]
    exact Nat.zero_le _
  exact hu.readLoad rfl ⟨Nat.zero_le _, nofun, nofun, nofun, nofun⟩ (State.blockSlot_lt _ (by omega))

end Sys2Proof.Machine
end

section
/-! PROOFS. The resets, the state they leave, and FAULTED (R2, R3, R6, R117, R155, R172). -/

namespace Sys2Proof.Machine

theorem State.lane_reset (l : Fin 16) : State.reset.lane l = Lane.disabled := by
  simp [State.lane, State.reset]

/-- Settles O4: each value is the one that the state after a reset spells. -/
theorem resetLeavesTheValuesTheRulesGive : Obligations.ResetLeavesTheValuesTheRulesGive := by
  refine ⟨⟨rfl, rfl, rfl, rfl, rfl, rfl, rfl, rfl⟩, ⟨fun l => ?_, rfl, rfl, rfl⟩, ⟨rfl, rfl⟩, ⟨rfl, rfl, rfl, rfl⟩,
    ⟨rfl, rfl, rfl, rfl, rfl, rfl, rfl, rfl, rfl, rfl⟩, ⟨rfl, rfl, rfl⟩, rfl, rfl⟩
  rw [State.lane_reset]
  exact ⟨rfl, rfl, rfl, rfl⟩

/-- Settles O5: both resets put `State.reset` in place, with their start cause. -/
theorem resetsReturnEveryBlockToItsResetValues : Obligations.ResetsReturnEveryBlockToItsResetValues :=
  fun _ => ⟨rfl, rfl⟩

/-- A command that a reset holds back changes nothing during one. -/
theorem State.whenLive_inReset {s : State} (h : s.inReset = true) (f : State → State) : s.whenLive f = .next s := by
  simp [State.whenLive, h]

/-- Settles O6: every command but the resets and their end acts through `State.whenLive`, or does nothing. -/
theorem aResetInProgressHoldsTheEngine : Obligations.AResetInProgressHoldsTheEngine := by
  intro c s hr hpower hpin hend
  cases c with
  | powerOnReset => exact absurd rfl hpower
  | pinReset => exact absurd rfl hpin
  | resetEnd straps edge => exact absurd rfl (hend straps edge)
  | discardedAnswer => rfl
  | _ => simp only [exec, State.whenLive_inReset hr,
      execCheckpointSlotAnswer, execSeek, execHalt, execLoadSlotAnswer, execLaneVisitStart,
      execLaneSlotAnswer, execArchiveReadTimeout, execRelease, execJoinOnClose, execJoinIdleExpiry,
      execOpenCondition, execArbitrationComplete, execStretchEnd, execBitError, execAbortConditionHeard,
      execBusAbandonTimeout, execFrameAccepted, execFrameVetoed, execUnacceptedFrameClose, execCutTaken,
      execEventTaken, execNextTaken, execReportFrameTaken, execClosePulseEnd, execPaceTimeMet, execBhlRise,
      execBhlDominantRead, execReferenceLost, execReferenceRestored, execRun, execPause, execStep,
      execEpoch, execRate, execQuery, execPoll, execUndefinedCommand]

/-- Settles O7: the load begins with the read that `State.readLoad` issues. -/
theorem resetEndSamplesStrapsAndReadsTheHeader : Obligations.ResetEndSamplesStrapsAndReadsTheHeader := by
  intro straps edge s hr
  refine ⟨State.beginStartUp { s with
    inReset := false, straps := straps, pu.timebase := if edge then .reference else .internal }, ?_, rfl, rfl, rfl,
    ?_, ⟨_, rfl, rfl, rfl, rfl, rfl, rfl⟩, rfl, rfl, rfl, rfl, rfl, rfl⟩
  · rw [exec, execResetEnd, if_pos hr]
  · simp [State.beginStartUp, State.readLoad, State.issueRead, State.blockSlot]

/-- Settles O53: the port, the line, the table and the reads are those after any reset. -/
theorem resetSatisfiesEveryInvariant : Obligations.ResetSatisfiesEveryInvariant := by
  refine ⟨?_, ?_, State.reset.resetWith_portSound .powerOn, State.reset.resetWith_holdLineSound .powerOn,
    ⟨.nil, .nil, nofun⟩, State.reset_tableSound, ⟨fun l => ?_, fun _ l => ?_⟩,
    State.reset.resetWith_readsSound .powerOn⟩
  · constructor <;> exact Nat.zero_le _
  · constructor <;> simp [State.reset, Config.resetSpan]
  · rw [State.lane_reset]
    exact ⟨by simp [Lane.disabled], nofun, nofun, fun _ => .inl rfl⟩
  · rw [State.lane_reset]
    exact ⟨rfl, rfl⟩

/-! FAULTED (R6, R155). -/

/-- A faulted engine at rest: no load, no read, no frame in wait and no lane configured (R6). -/
structure State.FaultedAtRest (s : State) : Prop where
  mode : s.rc.mode = .faulted
  load : s.rc.load = none
  request : s.afu.request = none
  checkpoint : s.afu.checkpoint = none
  inbound : s.biu.inbound = []
  lanes : ∀ l, s.lane l = Lane.disabled

/-- A faulted engine at rest has stayed so, with its cause, and offers at most its STATUS. -/
structure State.StaysFaulted (s t : State) : Prop where
  rest : t.FaultedAtRest
  cause : t.rc.faultCause = s.rc.faultCause
  outbound : t.biu.outbound ≠ none → t.biu.outbound = s.biu.outbound ∨
    t.biu.outbound = some { frame := s.statusFrame, entry := none }

/-- FAULTED takes no frame (R93). -/
theorem State.FaultedAtRest.no_front {s : State} (h : s.FaultedAtRest) {f : Frame} : s.frontFrame ≠ some f := by
  intro hf
  have := (State.frontFrame_eq_some.1 hf).2.1
  rw [h.mode] at this
  cases this

/-- FAULTED offers nothing but a pending STATUS (R84, R87). -/
theorem State.FaultedAtRest.offer {s : State} (h : s.FaultedAtRest) :
    s.offer = none ∨ s.offer = some { frame := s.statusFrame, entry := none } := by
  unfold State.offer State.statusOffer
  rw [h.mode]
  dsimp only
  split
  · exact .inr rfl
  · exact .inl rfl

/-- A change that touches neither mode, load, port, lanes nor bus unit leaves a faulted engine at rest. -/
theorem State.FaultedAtRest.stays {s t : State} (h : s.FaultedAtRest) (hrc : t.rc = s.rc) (hafu : t.afu = s.afu)
    (hin : t.biu.inbound = s.biu.inbound) (ho : t.biu.outbound = s.biu.outbound ∨ t.biu.outbound = none ∨
      t.biu.outbound = some { frame := s.statusFrame, entry := none }) : s.StaysFaulted t := by
  refine ⟨⟨by rw [hrc]; exact h.mode, by rw [hrc]; exact h.load, by rw [hafu]; exact h.request,
    by rw [hafu]; exact h.checkpoint, hin.trans h.inbound, fun l => ?_⟩, by rw [hrc], fun hn => ?_⟩
  · rw [State.lane_congr (s := s) (by rw [hafu])]
    exact h.lanes l
  · rcases ho with ho | ho | ho
    · exact .inl ho
    · exact absurd ho hn
    · exact .inr ho

/-- In FAULTED the phase is not consulted (R101). -/
theorem State.FaultedAtRest.not_replaying {s : State} (h : s.FaultedAtRest) : s.rc.mode.replaying = false := by
  rw [h.mode]
  rfl

theorem State.FaultedAtRest.suspendOn {s : State} (h : s.FaultedAtRest) (level : Level) : s.suspendOn level = s := by
  unfold State.suspendOn
  cases level <;> simp [h.not_replaying]

/-- In FAULTED no veto slot is driven or counted (R81). -/
theorem State.FaultedAtRest.heard {s : State} (h : s.FaultedAtRest) (hd : HeardFrame) :
    s.heardAccepted hd = s.busIdle ∧ s.heardVetoed hd = s.busIdle := by
  have hv : s.rc.mode.vetoes = false := by rw [h.mode]; rfl
  have count : ∀ b, s.busIdle.countVeto b = s.busIdle := fun b => by simp [State.countVeto, hv]
  refine ⟨?_, ?_⟩
  · unfold State.heardAccepted State.receiveAccepted State.queueAccepted State.drivesVeto
    simp [count, h.mode]
  · unfold State.heardVetoed
    simp [count]

/-- The end of a command leaves a faulted engine at rest (R103). -/
theorem State.StaysFaulted.settle {s t : State} (h : s.StaysFaulted t) : s.StaysFaulted t.settle := by
  rw [State.settle_of_ne (s := t) (by simp [h.rest.mode])]
  exact ⟨{ h.rest with }, h.cause, h.outbound⟩

/-- An own frame accepted in FAULTED settles its offer and leaves the lanes DISABLED (R92). -/
theorem State.FaultedAtRest.ownAccepted {s : State} (h : s.FaultedAtRest) (o : Outbound) :
    s.StaysFaulted (s.ownAccepted o) := by
  have hf : s.rc.mode.takesFrames = false := by rw [h.mode]; rfl
  have hu : State.FaultedAtRest { s.busIdle with biu.failureCount := 0 } := { h with }
  have freed : ∀ k, s.StaysFaulted
      (State.removeEntry { s.busIdle with biu.failureCount := 0 } k).entryFreed := by
    intro k
    refine ⟨⟨by simp [h.mode], by simp [h.load], by simp [h.request], by simp [h.checkpoint], by simp [h.inbound],
      fun l => ?_⟩, by simp, by simp⟩
    rw [State.lane_entryFreed_of_ne (by rw [State.lane_removeEntry, hu.lanes l]; nofun), State.lane_removeEntry]
    exact hu.lanes l
  unfold State.ownAccepted State.ownSettled State.settleOffer
  rw [hf]
  simp only [Bool.false_eq_true, if_false]
  split
  · split
    · exact h.stays rfl rfl rfl (.inr (.inl rfl))
    · split
      · exact freed _
      · exact h.stays rfl rfl rfl (.inr (.inl rfl))
  · exact h.stays rfl rfl rfl (.inr (.inl rfl))
  · exact h.stays rfl rfl rfl (.inr (.inl rfl))
  · exact ⟨{ hu with }, rfl, fun hn => absurd rfl hn⟩
  all_goals exact h.stays rfl rfl rfl (.inr (.inl rfl))

/-- Every effect leaves a faulted engine at rest: it has no read, no load, no visits and no frame to take. -/
theorem State.Effect.staysFaulted {s t : State} (e : s.Effect t) (h : s.FaultedAtRest) : s.StaysFaulted t := by
  have same : s.StaysFaulted s := h.stays rfl rfl rfl (.inl rfl)
  have idle : s.StaysFaulted s.busIdle := h.stays rfl rfl rfl (.inr (.inl rfl))
  have noRead : ∀ {r}, s.afu.request ≠ some r := fun hr => by rw [h.request] at hr; cases hr
  cases e with
  | words ws hs => rw [h.request] at hs; cases hs
  | loadAnswer n r p d hq => exact absurd hq noRead
  | retry r hq => exact absurd hq noRead
  | readFailed r hq => exact absurd hq noRead
  | visit l hv _ _ =>
    have := State.readsLanes_of_visits hv
    simp [State.ReadsLanes, h.mode, Mode.replaying] at this
  | laneAnswer l n r d hq => exact absurd hq noRead
  | checkpointAnswer n r c d hq => exact absurd hq noRead
  | bus b o x ho => exact h.stays rfl rfl rfl (ho.imp id .inl)
  | opened ln =>
    have hro : s.readAtOpen ln = s := by simp [State.readAtOpen, h.not_replaying]
    rw [hro]
    obtain ⟨b, o, x, he, ho⟩ := s.beginAttempt_eq
    rw [he]
    refine h.stays rfl rfl rfl (.inr ?_)
    rcases ho with ho | ho
    · exact .inl ho
    · rcases h.offer with hf | hf
      · exact .inl (ho.trans hf)
      · exact .inr (ho.trans hf)
  | stretchEnds o ln _ =>
    have hs : s.sendable o ln = none := by
      unfold State.sendable
      split
      · rfl
      · split <;> simp [h.not_replaying]
    unfold State.endStretch
    rw [hs]
    dsimp only
    rw [h.suspendOn]
    exact h.stays rfl rfl rfl (.inr (.inl rfl))
  | attemptFails =>
    have hf : s.busIdle.failAttempt = s.busIdle.countFailure := by
      simp [State.failAttempt, h.mode]
    rw [hf]
    exact h.stays rfl rfl rfl (.inr (.inl rfl))
  | ownAccepted o _ => exact (h.ownAccepted o).settle
  | heardAccepted hd =>
    rw [(h.heard hd).1]
    exact idle.settle
  | heardVetoed hd =>
    rw [(h.heard hd).2]
    exact h.stays rfl rfl rfl (.inr (.inl rfl))
  | closePulseEnds => exact h.stays rfl rfl rfl (.inl rfl)
  | timerSet => exact h.stays rfl rfl rfl (.inl rfl)
  | rises =>
    unfold State.rise
    rw [h.not_replaying]
    exact h.stays rfl rfl rfl (.inl rfl)
  | suspends =>
    rw [h.suspendOn]
    exact h.stays rfl rfl rfl (.inl rfl)
  | timebase b =>
    have hp : State.placeStatus { s with pu.timebase := b } = { s with pu.timebase := b } := by
      simp [State.placeStatus, h.mode, Mode.takesFrames]
    rw [hp]
    exact h.stays rfl rfl rfl (.inl rfl)
  | dropped f hf => exact absurd hf h.no_front
  | cut f hf => exact absurd hf h.no_front
  | event f e hf => exact absurd hf h.no_front
  | historyEnds f hf => exact absurd hf h.no_front
  | epochCloses f hf => exact absurd hf h.no_front
  | nextIgnored f hf => exact absurd hf h.no_front
  | run f hf => exact absurd hf h.no_front
  | pause f hf => exact absurd hf h.no_front
  | step f a hf => exact absurd hf h.no_front
  | seek f a hf => exact absurd hf h.no_front
  | halt f hf => exact absurd hf h.no_front
  | epoch f a hf => exact absurd hf h.no_front
  | rate f a hf => exact absurd hf h.no_front
  | release f l action hf => exact absurd hf h.no_front
  | query f a n hf => exact absurd hf h.no_front
  | poll f a hf => exact absurd hf h.no_front

/-- Settles O60: no command but a reset has an effect that ends FAULTED. -/
theorem faultedLastsUntilAReset : Obligations.FaultedLastsUntilAReset := by
  intro s t c hr hm hl hq hc hin hlanes hpower hpin hx
  have h : s.FaultedAtRest := ⟨hm, hl, hq, hc, hin, hlanes⟩
  have ht : s.StaysFaulted t := by
    rcases exec_cases hx with (rfl | ⟨-, he⟩) | ⟨hreset, -⟩ | ⟨_, _, hreset, -⟩
    · exact h.stays rfl rfl rfl (.inl rfl)
    · exact he.staysFaulted h
    · exact absurd hreset (not_or.2 ⟨hpower, hpin⟩)
    · rw [hr] at hreset
      cases hreset
  exact ⟨ht.rest.mode, ht.cause, ht.rest.load, ht.rest.request, ht.rest.checkpoint, ht.rest.inbound, ht.rest.lanes,
    ht.outbound⟩

end Sys2Proof.Machine
end

section
/-! PROOFS. The start-up load (R4 to R13): each part of the station block leads to a fault, the next slot's read, or the
load's end. -/

namespace Sys2Proof.Machine

/-! The three outcomes of a slot, and the two tests that stand between the parts of the block. -/

/-- The command that brings a slot of the station block. -/
theorem State.exec_loadSlotAnswer {s : State} {words : List PortWord} {d : Slot} {p : LoadProgress} {n : Nat}
    {retry : Bool} (hr : s.inReset = false) (hb : s.Brings words d)
    (hq : s.afu.request = some { owner := .load, slot := n, retry := retry }) (hp : s.rc.load = some p) :
    exec (.loadSlotAnswer words) s = .next (s.loadAnswer p d).refreshDrive := by
  simp only [exec, execLoadSlotAnswer, State.whenLive_live hr, hq, hp, hb.takeWords_eq]

theorem State.loadFaults_enterFaulted (s : State) (cause : FaultCause) :
    (s.enterFaulted cause).refreshDrive.LoadFaults cause :=
  ⟨rfl, rfl, rfl, ⟨rfl, rfl⟩, fun l => by simp [State.lane], rfl, rfl, rfl⟩

theorem State.loadReads_readLoad (s : State) (b : Bool) (p : LoadProgress) (stage : LoadStage) (slot : Nat) :
    s.LoadReads ((s.warnIf b).readLoad p stage slot).refreshDrive p stage slot :=
  ⟨⟨rfl, rfl⟩, rfl, rfl, rfl, rfl, rfl, rfl, rfl⟩

/-- A lane entry becomes its lane, at its nominal clock (R7, R23, R45). -/
theorem State.loadEnds_finishLoad (s : State) (b : Bool) (p : LoadProgress) :
    s.LoadEnds ((s.warnIf b).finishLoad p).refreshDrive p := by
  refine ⟨⟨rfl, rfl⟩, rfl, ⟨rfl, rfl⟩, rfl, rfl, rfl, ⟨rfl, rfl⟩, fun l => ?_⟩
  have hl : ((s.warnIf b).finishLoad p).refreshDrive.lane l = (p.lanes[l.val]?).elim Lane.disabled LaneConfig.toLane := by
    simp [State.lane]
  split
  next hc => rw [hl, hc]; rfl
  next c hc => rw [hl, hc]; rfl

theorem State.loadDirectory_warnIf (s : State) (b : Bool) (p : LoadProgress) :
    (s.warnIf b).loadDirectory p =
      if 4096 < p.header.directoryCount then (s.warnIf b).enterFaulted .badDirectory
      else if p.header.directoryCount = 0 then (s.warnIf b).finishLoad p
      else if stationBlock s.straps.archiveSize < p.header.directoryBase + (p.header.directoryCount + 1) / 2 then
        (s.warnIf b).enterFaulted .badDirectory
      else (s.warnIf b).readLoad p (.directory 0) p.header.directoryBase :=
  rfl

theorem State.afterCheckSeven_loadDirectory (s : State) (b : Bool) (p : LoadProgress) :
    s.AfterCheckSeven ((s.warnIf b).loadDirectory p).refreshDrive p := by
  rw [State.AfterCheckSeven, State.loadDirectory_warnIf]
  split
  · exact State.loadFaults_enterFaulted _ _
  · split
    · exact s.loadEnds_finishLoad b p
    · split
      · exact State.loadFaults_enterFaulted _ _
      · exact s.loadReads_readLoad b p _ _

theorem State.afterDeviceList_loadRanges (s : State) (b : Bool) (p : LoadProgress) :
    s.AfterDeviceList ((s.warnIf b).loadRanges p).refreshDrive p := by
  unfold State.AfterDeviceList State.loadRanges
  split
  · exact State.loadFaults_enterFaulted _ _
  · split
    · exact s.afterCheckSeven_loadDirectory b p
    · exact s.loadReads_readLoad b p _ _

theorem State.warnIf_false (s : State) : s.warnIf false = s := by
  simp [State.warnIf]

/-! CONFIG_WARNING is touched by `State.warnIf` alone. -/

@[simp] theorem State.loadDirectory_configWarning (s : State) (p : LoadProgress) :
    (s.loadDirectory p).rc.configWarning = s.rc.configWarning := by
  unfold State.loadDirectory
  split_ifs <;> simp

@[simp] theorem State.loadRanges_configWarning (s : State) (p : LoadProgress) :
    (s.loadRanges p).rc.configWarning = s.rc.configWarning := by
  unfold State.loadRanges
  split_ifs <;> simp

@[simp] theorem State.checkHeader_configWarning (s : State) (p : LoadProgress) (d : Slot) :
    (s.checkHeader p d).rc.configWarning = s.rc.configWarning := by
  unfold State.checkHeader
  split_ifs <;> simp

@[simp] theorem State.acceptLane_configWarning (s : State) (p : LoadProgress) (i : Nat) (c : LaneConfig) :
    (s.acceptLane p i c).rc.configWarning = s.rc.configWarning := by
  unfold State.acceptLane State.loadDevicesPart
  split_ifs <;> simp

@[simp] theorem State.checkLane_configWarning (s : State) (p : LoadProgress) (i : Nat) (d : Slot) :
    (s.checkLane p i d).rc.configWarning = s.rc.configWarning := by
  unfold State.checkLane
  split
  · simp
  · split <;> simp

@[simp] theorem State.nextDevices_configWarning (s : State) (p : LoadProgress) (i : Nat) :
    (s.nextDevices p i).rc.configWarning = s.rc.configWarning := by
  unfold State.nextDevices
  split <;> simp

@[simp] theorem State.loadRangeSlot_configWarning (s : State) (p : LoadProgress) (d : Slot) :
    (s.loadRangeSlot p d).rc.configWarning = s.rc.configWarning := by
  unfold State.loadRangeSlot
  split <;> simp

@[simp] theorem State.loadDirectorySlot_configWarning (s : State) (p : LoadProgress) (i : Nat) (d : Slot) :
    (s.loadDirectorySlot p i d).rc.configWarning = s.rc.configWarning := by
  unfold State.loadDirectorySlot State.nextDirectory
  split
  · simp
  · split <;> simp

/-! The header (checks 1 and 2). -/

theorem State.checkHeader_eq (s : State) (p : LoadProgress) (d : Slot) :
    s.checkHeader p d =
      if natAt d 0 4 ≠ 0x640 then s.enterFaulted .badFormat
      else if natAt d 4 1 = 0 ∨ 16 < natAt d 4 1 then s.enterFaulted .badLaneCount
      else s.readLoad { p with header := headerOf d } (.lane 0) (s.blockSlot 1) :=
  rfl

/-- Settles O8: the two checks are `State.checkHeader`'s, in its order. -/
theorem headerSlotPassesChecksOneAndTwo : Obligations.HeaderSlotPassesChecksOneAndTwo := by
  intro words d s p n retry hr hb hq hp hs
  have ht : s.loadAnswer p d = (s.warnIf (headerAdjusted d)).checkHeader p d := by
    simp only [State.loadAnswer, hs, State.loadHeader]
  refine ⟨_, State.exec_loadSlotAnswer hr hb hq hp, ?_, fun hf => ?_, fun hf hc => ?_, fun hf hlo hhi => ?_⟩ <;> rw [ht]
  · simp [headerAdjusted]
  · rw [State.checkHeader_eq, if_pos hf]
    exact State.loadFaults_enterFaulted _ _
  · rw [State.checkHeader_eq, if_neg (not_not.2 hf), if_pos hc]
    exact State.loadFaults_enterFaulted _ _
  · rw [State.checkHeader_eq, if_neg (not_not.2 hf), if_neg (by omega)]
    exact s.loadReads_readLoad (headerAdjusted d) { p with header := headerOf d } (.lane 0) _

/-! The lane entries (checks 3 to 6). -/

theorem TickUnit.ofCode_eq_none {n : Nat} : TickUnit.ofCode n = none ↔ 3 < n := by
  unfold TickUnit.ofCode
  split <;> simp_all
  omega

theorem TickUnit.code_of_ofCode {n : Nat} {tick : TickUnit} (h : TickUnit.ofCode n = some tick) : tick.code = n := by
  unfold TickUnit.ofCode at h
  split at h <;> cases h <;> rfl

theorem clampInt_eq {lo hi : Int} (h : lo ≤ hi) (x : Int) : clampInt lo hi x = max lo (min hi x) := by
  unfold clampInt
  split_ifs <;> omega

/-- An offset of five bytes is never above the range (R7). -/
theorem intAt_five_le (d : Slot) (lo : Nat) : intAt d lo 5 ≤ 549755813887 := by
  have : (bytesAt d lo 5).toInt < 2 ^ 39 := BitVec.toInt_lt
  exact Int.le_of_lt_add_one this

theorem actionBit_eq_hold {mask : BitVec 8} {i : Nat} : actionBit mask i = .hold ↔ mask.getLsbD i = true := by
  unfold actionBit
  split <;> simp_all

theorem clampOffset_five (d : Slot) (lo : Nat) : clampOffset (intAt d lo 5) = max (-549755813887) (intAt d lo 5) := by
  rw [clampOffset, clampInt_eq (by decide), Config.maxOffset, min_eq_right (intAt_five_le d lo)]

theorem clampDrift_eq (x : Int) : clampDrift x = max (-500000) (min 500000 x) :=
  clampInt_eq (by decide) x

theorem laneAdjusted_iff {d : Slot} : laneAdjusted d = true ↔
    intAt d 15 5 < -549755813887 ∨ intAt d 20 4 < -500000 ∨ 500000 < intAt d 20 4 ∨ natAt d 24 1 = 0 ∨
      8 < natAt d 24 1 := by
  simp only [laneAdjusted, clampOffset_five, clampDrift_eq, Bool.or_eq_true, bne_iff_ne]
  omega

/-- Two regions overlap when a slot lies in both (R8). -/
theorem overlaps_iff {a b : LaneConfig} : overlaps a b = true ↔
    ∃ slot, a.base ≤ slot ∧ slot < a.base + a.slotCount ∧ b.base ≤ slot ∧ slot < b.base + b.slotCount := by
  simp only [overlaps, Bool.and_eq_true, bne_iff_ne, decide_eq_true_eq]
  constructor
  · rintro ⟨⟨⟨ha, hb⟩, hab⟩, hba⟩
    exact ⟨max a.base b.base, by omega⟩
  · rintro ⟨slot, h⟩
    omega

/-- Some two regions overlap when one stands behind the other in the list (R8). -/
theorem anyOverlap_iff {lanes : List LaneConfig} : anyOverlap lanes = true ↔
    ∃ (j k : Nat) (a b : LaneConfig), j < k ∧ lanes[j]? = some a ∧ lanes[k]? = some b ∧ overlaps a b = true := by
  induction lanes with
  | nil => simp [anyOverlap]
  | cons c rest ih =>
    rw [anyOverlap, Bool.or_eq_true, ih, List.any_eq_true]
    constructor
    · rintro (⟨b, hb, ho⟩ | ⟨j, k, a, b, hjk, ha, hb, ho⟩)
      · obtain ⟨k, hk⟩ := List.mem_iff_getElem?.1 hb
        exact ⟨0, k + 1, c, b, k.succ_pos, rfl, hk, ho⟩
      · exact ⟨j + 1, k + 1, a, b, Nat.succ_lt_succ hjk, ha, hb, ho⟩
    · rintro ⟨j, k, a, b, hjk, ha, hb, ho⟩
      obtain ⟨k, rfl⟩ := Nat.exists_eq_add_one_of_ne_zero (Nat.ne_zero_of_lt hjk)
      cases j with
      | zero =>
        cases ha
        exact .inl ⟨b, List.mem_of_getElem? hb, ho⟩
      | succ j => exact .inr ⟨j, k, a, b, Nat.lt_of_succ_lt_succ hjk, ha, hb, ho⟩

/-- Check 5 in the terms of R8: a slot that lies in two regions. -/
theorem anyOverlap_iff_sharedSlot {lanes : List LaneConfig} : anyOverlap lanes = true ↔
    ∃ (j k slot : Nat) (a b : LaneConfig), j < k ∧ lanes[j]? = some a ∧ lanes[k]? = some b ∧
      a.base ≤ slot ∧ slot < a.base + a.slotCount ∧ b.base ≤ slot ∧ slot < b.base + b.slotCount := by
  simp only [anyOverlap_iff, overlaps_iff]
  constructor
  · rintro ⟨j, k, a, b, hjk, ha, hb, slot, h⟩
    exact ⟨j, k, slot, a, b, hjk, ha, hb, h⟩
  · rintro ⟨j, k, slot, a, b, hjk, ha, hb, h⟩
    exact ⟨j, k, a, b, hjk, ha, hb, slot, h⟩

/-- A lane entry whose tick unit is a defined one is tested against the record area. -/
theorem State.checkLane_of_ofCode (s : State) (b : Bool) (p : LoadProgress) (i : Nat) {d : Slot} {tick : TickUnit}
    (h : TickUnit.ofCode (natAt d 12 1) = some tick) : (s.warnIf b).checkLane p i d =
      if stationBlock s.straps.archiveSize < natAt d 4 4 + natAt d 8 4 then (s.warnIf b).enterFaulted .badRegion
      else (s.warnIf b).acceptLane p i (laneConfigOf d tick) := by
  rw [State.checkLane, h]
  rfl

/-- Settles O9: `State.checkLane` on the entry, then `State.loadDevicesPart` behind the last. -/
theorem laneEntryPassesChecksThreeAndFour : Obligations.LaneEntryPassesChecksThreeAndFour := by
  intro words d s p i n retry hr hb hq hp hs
  have ht : s.loadAnswer p d = (s.warnIf (laneAdjusted d)).checkLane p i d := by
    simp only [State.loadAnswer, hs, State.loadLane]
  refine ⟨_, State.exec_loadSlotAnswer hr hb hq hp, ?_, fun hc => ?_, fun hc ha => ?_, fun hc ha => ?_⟩ <;> rw [ht]
  · rw [State.refreshDrive_rc, State.checkLane_configWarning, State.warnIf_rc_configWarning, Bool.or_eq_true,
      laneAdjusted_iff]
  · rw [State.checkLane, TickUnit.ofCode_eq_none.2 hc]
    exact State.loadFaults_enterFaulted _ _
  all_goals
    obtain ⟨tick, htick⟩ : ∃ tick, TickUnit.ofCode (natAt d 12 1) = some tick :=
      Option.ne_none_iff_exists'.1 fun h => absurd (TickUnit.ofCode_eq_none.1 h) (by omega)
    rw [State.checkLane_of_ofCode s _ p i htick]
  · rw [if_pos ha]
    exact State.loadFaults_enterFaulted _ _
  · rw [if_neg (not_lt.2 ha)]
    refine ⟨laneConfigOf d tick, rfl, rfl, rfl, TickUnit.code_of_ofCode htick, rfl, clampOffset_five d 15,
      clampDrift_eq _, rfl, actionBit_eq_hold, actionBit_eq_hold, actionBit_eq_hold, actionBit_eq_hold,
      fun hi => ?_, fun hi q hq => ⟨fun ho => ?_, fun ho => ?_⟩⟩
    · rw [State.acceptLane, if_pos hi]
      exact s.loadReads_readLoad _ _ _ _
    · rw [State.acceptLane, if_neg (not_lt.2 hi), ← hq, State.loadDevicesPart,
        if_pos (anyOverlap_iff_sharedSlot.2 ho)]
      exact State.loadFaults_enterFaulted _ _
    · have hno : ¬anyOverlap q.lanes = true := by
        rw [anyOverlap_iff_sharedSlot]
        rintro ⟨j, k, slot, a, b, hjk, ha, hb, h⟩
        exact ho j k slot a b hjk ha hb h
      have hcount : q.header.deviceCount = p.header.deviceCount := by rw [hq]
      rw [State.acceptLane, if_neg (not_lt.2 hi), ← hq, State.loadDevicesPart, if_neg hno, Config.maxDeviceEntries,
        hcount]
      split
      · exact State.loadFaults_enterFaulted _ _
      · split
        · exact s.afterDeviceList_loadRanges _ q
        · exact s.loadReads_readLoad _ q _ _

/-! The device list (R9). -/

/-- The table behind entry `j` of a device slot: the entry joins it, or is ignored. -/
def acceptedTable (d : Slot) (table : List Device) (j : Nat) : List Device :=
  (acceptDevice table (deviceEntryOf d j)).getD table

theorem Role.ofCode_eq (n : Nat) :
    Role.ofCode n = if 1 < n then none else some (if n = 0 then .owned else .watched) := by
  unfold Role.ofCode
  split <;> simp_all
  omega

theorem DeviceClass.ofCode_eq (n : Nat) : DeviceClass.ofCode n =
    if 2 < n then none else some (if n = 0 then .breaker else if n = 1 then .disconnector else .switch) := by
  unfold DeviceClass.ofCode
  split <;> simp_all
  omega

/-- Table entry `j` of a device slot with the codes of Table 11-2, at its replay state of R122. -/
def deviceOf (d : Slot) (j : Nat) : Device :=
  { number := bytesAt d (8 * j) 2
    role := if natAt d (8 * j + 2) 1 = 0 then .owned else .watched
    cls := if natAt d (8 * j + 3) 1 = 0 then .breaker else if natAt d (8 * j + 3) 1 = 1 then .disconnector
      else .switch
    maxTravel := natAt d (8 * j + 4) 2, position := .unknown, lockout := false, pickup := false
    travelStart := none, lastChange := none, lastEvent := none, operations := 0, corroborations := 0 }

/-- An entry is one to be ignored for its number or its codes, or it is the device that its bytes give. -/
theorem deviceEntryOf_eq (d : Slot) (j : Nat) :
    deviceEntryOf d j =
      if natAt d (8 * j) 2 = 0 ∨ natAt d (8 * j) 2 = 65535 ∨ 1 < natAt d (8 * j + 2) 1 ∨ 2 < natAt d (8 * j + 3) 1 then
        none
      else some (deviceOf d j) := by
  rw [deviceEntryOf, Role.ofCode_eq, DeviceClass.ofCode_eq]
  by_cases hr : 1 < natAt d (8 * j + 2) 1
  · simp [hr]
  · by_cases hc : 2 < natAt d (8 * j + 3) 1
    · simp [hr, hc]
    · simp only [hr, hc, or_false]
      rfl

/-- R9 on one entry: ignored for its number, its codes, a number already held or a full table. -/
theorem acceptedTable_eq (d : Slot) (table : List Device) (j : Nat) :
    acceptedTable d table j =
      if natAt d (8 * j) 2 = 0 ∨ natAt d (8 * j) 2 = 65535 ∨ 1 < natAt d (8 * j + 2) 1 ∨ 2 < natAt d (8 * j + 3) 1 ∨
          (∃ x ∈ table, x.number.toNat = natAt d (8 * j) 2) ∨ 1024 ≤ table.length then table
      else table ++ [deviceOf d j] := by
  have held : (table.any (fun x => x.number == (deviceOf d j).number) || decide (Config.deviceCapacity ≤ table.length)) =
      true ↔ (∃ x ∈ table, x.number.toNat = natAt d (8 * j) 2) ∨ 1024 ≤ table.length := by
    simp [Config.deviceCapacity, deviceOf, natAt, BitVec.toNat_eq]
  rw [acceptedTable, deviceEntryOf_eq]
  by_cases hcode : natAt d (8 * j) 2 = 0 ∨ natAt d (8 * j) 2 = 65535 ∨ 1 < natAt d (8 * j + 2) 1 ∨
      2 < natAt d (8 * j + 3) 1
  · rw [if_pos hcode, if_pos (by tauto)]
    rfl
  · rw [if_neg hcode, acceptDevice]
    by_cases hheld : (∃ x ∈ table, x.number.toNat = natAt d (8 * j) 2) ∨ 1024 ≤ table.length
    · rw [if_pos (held.2 hheld), if_pos (.inr (.inr (.inr (.inr hheld))))]
      rfl
    · rw [if_neg (mt held.1 hheld), if_neg fun h => (by simpa only [or_assoc] using h :
        (_ ∨ _ ∨ _ ∨ _) ∨ _).elim hcode hheld]
      rfl

/-- An accepted entry makes the table one longer; an ignored one leaves it. -/
theorem acceptDevice_eq_some {table table' : List Device} {entry : Option Device}
    (h : acceptDevice table entry = some table') : ∃ dev, entry = some dev ∧ table' = table ++ [dev] := by
  unfold acceptDevice at h
  split at h
  · cases h
  · split at h
    · cases h
    · cases h
      exact ⟨_, rfl, rfl⟩

theorem length_foldl_acceptedTable_le (d : Slot) (js : List Nat) (table : List Device) :
    (js.foldl (acceptedTable d) table).length ≤ table.length + js.length := by
  induction js generalizing table with
  | nil => simp
  | cons j js ih =>
    have step : (acceptedTable d table j).length ≤ table.length + 1 := by
      unfold acceptedTable
      cases h : acceptDevice table (deviceEntryOf d j) with
      | none => simp
      | some table' =>
        obtain ⟨dev, -, rfl⟩ := acceptDevice_eq_some h
        simp
    have := ih (acceptedTable d table j)
    simp only [List.foldl_cons, List.length_cons]
    omega

/-- The entries of a device slot are accepted one behind the other, and one was ignored when the table has grown by less
than their number. -/
theorem acceptDevices_eq (d : Slot) (n j : Nat) (table : List Device) :
    (acceptDevices d n j table).1 = (List.range' j n).foldl (acceptedTable d) table ∧
      ((acceptDevices d n j table).2 = true ↔
        ((List.range' j n).foldl (acceptedTable d) table).length < table.length + n) := by
  induction n generalizing j table with
  | zero => simp [acceptDevices]
  | succ n ih =>
    rw [List.range'_succ, List.foldl_cons, acceptDevices]
    cases h : acceptDevice table (deviceEntryOf d j) with
    | none =>
      have ht : acceptedTable d table j = table := by simp [acceptedTable, h]
      have := length_foldl_acceptedTable_le d (List.range' (j + 1) n) table
      rw [List.length_range'] at this
      exact ⟨by rw [ht]; exact (ih (j + 1) table).1, iff_of_true rfl (by rw [ht]; omega)⟩
    | some table' =>
      obtain ⟨dev, -, rfl⟩ := acceptDevice_eq_some h
      have ht : acceptedTable d table j = table ++ [dev] := by simp [acceptedTable, h]
      obtain ⟨htable, hflag⟩ := ih (j + 1) (table ++ [dev])
      rw [ht]
      exact ⟨htable, hflag.trans (by rw [List.length_append, List.length_singleton]; omega)⟩

/-! The directory (R13). -/

/-- The entries of a directory slot that `acceptDirectory` wants behind those already copied. -/
def Follows (recordArea : Nat) (dir entries : List DirEntry) : Prop :=
  (∀ e ∈ entries, e.time ≤ 1099511627774 ∧ e.slot < recordArea) ∧ (∀ e ∈ entries, ∀ x ∈ dir, x.time < e.time) ∧
    entries.Pairwise fun a b => a.time < b.time

theorem dirEntryValid_iff {recordArea : Nat} {dir : List DirEntry} {e : DirEntry} :
    dirEntryValid recordArea dir e = true ↔
      (e.time ≤ 1099511627774 ∧ e.slot < recordArea) ∧ ∀ x ∈ dir, x.time < e.time := by
  simp [dirEntryValid, Config.maxTime]

theorem follows_cons {recordArea : Nat} {dir entries : List DirEntry} {e : DirEntry} :
    Follows recordArea dir (e :: entries) ↔
      dirEntryValid recordArea dir e = true ∧ Follows recordArea (dir ++ [e]) entries := by
  simp only [Follows, dirEntryValid_iff, List.forall_mem_cons, List.pairwise_cons, List.forall_mem_append,
    imp_and, forall_and]
  tauto

/-- The directory entries of a slot join the copy together, or the first unfit one is refused. -/
theorem acceptDirectory_eq (recordArea : Nat) (d : Slot) (n j : Nat) (dir : List DirEntry) :
    (Follows recordArea dir ((List.range' j n).map (dirEntryOf d)) →
      acceptDirectory recordArea d n j dir = some (dir ++ (List.range' j n).map (dirEntryOf d))) ∧
    (¬Follows recordArea dir ((List.range' j n).map (dirEntryOf d)) → acceptDirectory recordArea d n j dir = none) := by
  induction n generalizing j dir with
  | zero => simp [acceptDirectory, Follows]
  | succ n ih =>
    obtain ⟨hall, hnot⟩ := ih (j + 1) (dir ++ [dirEntryOf d j])
    rw [List.range'_succ, List.map_cons, follows_cons, acceptDirectory]
    refine ⟨fun ⟨hv, hf⟩ => ?_, fun h => ?_⟩
    · rw [if_pos hv, hall hf, List.append_assoc, List.singleton_append]
    · split
      next hv => exact hnot fun hf => h ⟨hv, hf⟩
      next => rfl

theorem rangesOf_all_valid {count : Nat} {d : Slot} : (rangesOf count d).all DeviceRange.valid = true ↔
    ∀ r ∈ rangesOf count d, 1 ≤ r.low ∧ r.high ≤ 65534 ∧ r.low ≤ r.high := by
  simp [DeviceRange.valid, and_assoc]

/-- A directory slot with fit entries leads to the next one, or to the load's end (R4, R12). -/
theorem State.nextDirectory_cases (s : State) (p : LoadProgress) (i : Nat) :
    if 2 * (i + 1) < p.header.directoryCount then
      s.LoadReads (s.nextDirectory p i).refreshDrive p (.directory (i + 1)) (p.header.directoryBase + (i + 1))
    else s.LoadEnds (s.nextDirectory p i).refreshDrive p := by
  unfold State.nextDirectory
  split
  · simpa only [State.warnIf_false] using s.loadReads_readLoad false p _ _
  · simpa only [State.warnIf_false] using s.loadEnds_finishLoad false p

/-- Settles O10: the device slot by `acceptDevices_eq`, the directory slot by `acceptDirectory_eq`, and what follows each
by `State.afterDeviceList_loadRanges` and `State.afterCheckSeven_loadDirectory`. -/
theorem lastDirectoryEntryEndsTheLoad : Obligations.LastDirectoryEntryEndsTheLoad := by
  intro words d s p n retry hr hb hq hp
  refine ⟨_, State.exec_loadSlotAnswer hr hb hq hp, fun i count devices hs hcount hdev => ?_,
    fun ranges hs hranges => ?_, fun i count entries hs hcount hentries => ?_⟩
  · have hfold : devices = (List.range' 0 count).foldl (acceptedTable d) p.devices := by
      rw [hdev, List.range_eq_range']
      congr 1
      funext table j
      exact (acceptedTable_eq d table j).symm
    obtain ⟨htable, hflag⟩ := acceptDevices_eq d count 0 p.devices
    rw [← hfold] at htable hflag
    have ht : s.loadAnswer p d = (s.warnIf (devicesOfSlot p i d).2).nextDevices { p with devices := devices } i := by
      rw [← htable, hcount]
      simp only [State.loadAnswer, hs, State.loadDeviceSlot]
      rfl
    rw [ht]
    refine ⟨?_, ?_⟩
    · rw [State.refreshDrive_rc, State.nextDevices_configWarning, State.warnIf_rc_configWarning, Bool.or_eq_true, ← hflag,
        hcount]
      rfl
    · rw [State.nextDevices]
      split
      · exact s.loadReads_readLoad _ _ _ _
      · exact s.afterDeviceList_loadRanges _ _
  · have ht : s.loadAnswer p d = s.loadRangeSlot p d := by simp only [State.loadAnswer, hs]
    have hr' : ranges = rangesOf p.header.rangeCount d := hranges
    rw [ht]
    refine ⟨by simp, ?_⟩
    rw [State.loadRangeSlot, hr']
    split
    next hv =>
      rw [if_pos (rangesOf_all_valid.2 hv)]
      simpa only [State.warnIf_false] using
        s.afterCheckSeven_loadDirectory false { p with ranges := rangesOf p.header.rangeCount d }
    next hv =>
      rw [if_neg (mt rangesOf_all_valid.1 hv)]
      exact State.loadFaults_enterFaulted _ _
  · have ht : s.loadAnswer p d = s.loadDirectorySlot p i d := by simp only [State.loadAnswer, hs]
    have he : entries = (List.range' 0 count).map (dirEntryOf d) := by
      rw [hentries, List.range_eq_range']
      rfl
    obtain ⟨hall, hnot⟩ := acceptDirectory_eq (stationBlock s.straps.archiveSize) d count 0 p.directory
    rw [← he] at hall hnot
    rw [ht]
    refine ⟨by simp, ?_⟩
    rw [State.loadDirectorySlot, directoryOfSlot, ← hcount]
    split
    next hf =>
      rw [hall hf]
      exact s.nextDirectory_cases { p with directory := p.directory ++ entries } i
    next hf =>
      rw [hnot hf]
      exact State.loadFaults_enterFaulted _ _

end Sys2Proof.Machine
end

section
/-! PROOFS. A lane's slot that inserts nothing and a lane's lost read (R14, R30, R31, R32, R74, R75). -/

namespace Sys2Proof.Machine

/-! What the end of a command leaves when no seek completes. -/

/-- In SEEKING the hold line is driven (R103). -/
theorem State.driveFor_of_seeking {s : State} (h : s.rc.mode = .seeking) : s.driveFor = .dominant := by
  simp [State.driveFor, h]

/-- A seek that waits stays, and drives the line. -/
theorem State.settle_of_seekWaits {s : State} (hm : s.rc.mode = .seeking) (h : s.SeekWaits) :
    s.settle = { s with mq.cut := s.settleCut.mq.cut, pu.drive := .dominant } := by
  have hd : s.settleCut.driveFor = .dominant := State.driveFor_of_seeking (by simpa using hm)
  rw [State.settle, State.settleSeek_of_waits fun _ => h, State.refreshDrive, hd, State.settleCut_eq]

/-- Outside SEEKING, and in a seek that waits, the end of a command changes the cut record and the drive alone. -/
theorem State.settle_of_still {s : State} (h : s.rc.mode = .seeking → s.SeekWaits) :
    s.settle = { s with mq.cut := s.settleCut.mq.cut, pu.drive := s.settle.pu.drive } := by
  by_cases hm : s.rc.mode = .seeking
  · have e := State.settle_of_seekWaits hm (h hm)
    have hd : s.settle.pu.drive = .dominant := by rw [e]
    rw [hd]
    exact e
  · exact State.settle_of_ne hm

theorem State.raises_raiseFinding (s : State) (f : Finding) : s.cku.Raises (s.raiseFinding f).cku f := by
  unfold Cku.Raises
  rcases s.raiseFinding_cku f with ⟨h, e⟩ | ⟨h, e⟩
  · rwa [if_pos h]
  · rwa [if_neg (by omega)]

/-- A finding changes the finding queue alone. -/
theorem State.raiseFinding_eq (s : State) (f : Finding) :
    s.raiseFinding f = { s with cku := (s.raiseFinding f).cku } := by
  unfold State.raiseFinding
  split <;> rfl

/-! A second timeout (R30). -/

/-- The retry of lane l's slot has timed out: the lane, the port and the finding queue are all that changes. -/
theorem State.loseLane_eq (s : State) (l : Fin 16) :
    s.loseLane l = { s with
      afu := { s.afu with
        lanes := (s.loseLane l).afu.lanes, request := none, words := [], rotation := l + 1, visitEnding := false }
      cku := (s.loseLane l).cku } := by
  unfold State.loseLane
  rw [State.raiseFinding_eq]
  rfl

theorem State.lane_loseLane (s : State) (l m : Fin 16) :
    (s.loseLane l).lane m = if m = l then { s.lane l with state := .lost } else s.lane m := by
  rw [State.loseLane, State.lane_endVisit, State.lane_raiseFinding]
  exact State.lane_setLane _ _ _ _

/-- The command in which a retry times out. -/
theorem State.exec_retryTimeout {s : State} {owner : ReadOwner} {n : Nat} (hr : s.inReset = false)
    (hq : s.afu.request = some { owner := owner, slot := n, retry := true }) :
    exec .archiveReadTimeout s = .next (s.readFailed owner).settle := by
  simp only [exec, execArchiveReadTimeout, State.whenLive_live hr, hq, if_true]

/-- The end of the command in which the start-up load's retry times out: FAULTED releases the hold line. -/
theorem State.settle_enterFaulted (s : State) (cause : FaultCause) :
    (s.enterFaulted cause).settle = { s.enterFaulted cause with pu.drive := .released } := by
  rw [State.settle, State.settleSeek_of_ne (by simp), State.settleCut_of_absent rfl (by simp)]
  rfl

/-- Settles O13: `State.loseLane` for a lane's read, `State.enterFaulted` for the load's. -/
theorem secondTimeoutLosesTheLaneOrFaultsTheLoad : Obligations.SecondTimeoutLosesTheLaneOrFaultsTheLoad := by
  refine ⟨fun s l n hr hm hq => ?_, fun s n hr hq => ?_⟩
  · have hstill : (s.loseLane l).rc.mode = .seeking → (s.loseLane l).SeekWaits := fun hs => by
      have hrc : (s.loseLane l).rc = s.rc := by rw [State.loseLane_eq]
      rw [hrc] at hs
      obtain ⟨m, hml, hstate, hsilent, htime⟩ := (hm.resolve_left (not_not.2 hs)).other
      have hlane : (s.loseLane l).lane m = s.lane m := by rw [State.lane_loseLane, if_neg hml]
      exact .inr ⟨m, .inl (by rw [hlane, hstate]), .inr ⟨by rw [hlane, hsilent], by rw [hlane, hrc]; exact htime⟩⟩
    have hlane : ∀ m, (s.loseLane l).settle.lane m = (s.loseLane l).lane m := fun m => by
      rw [State.settle_of_still hstill]
      rfl
    have hraise : s.cku.Raises (s.loseLane l).cku
        (laneFinding l 0 {} .laneLost none (s.lane l).readPos s.pu.windowStart) :=
      State.raises_raiseFinding ((s.setLane l { s.lane l with state := .lost }).dropRead) _
    refine ⟨_, State.exec_retryTimeout hr hq, ?_, fun m hml => ?_, ?_, ?_, ?_, ?_⟩
    · exact (hlane l).trans (by rw [State.lane_loseLane, if_pos rfl])
    · exact (hlane m).trans (by rw [State.lane_loseLane, if_neg hml])
    all_goals
      dsimp only [State.readFailed]
      rw [State.settle_of_still hstill]
    · rw [State.loseLane_eq]
    · rw [State.loseLane_eq]
    · exact hraise
    · rw [State.loseLane_eq]
      exact ⟨rfl, rfl, rfl, rfl, rfl, rfl, rfl, rfl⟩
  · refine ⟨_, State.exec_retryTimeout hr hq, ?_⟩
    dsimp only [State.readFailed]
    rw [State.settle_enterFaulted]
    exact ⟨rfl, fun l => by simp [State.lane], rfl, rfl, rfl, rfl, rfl, rfl, rfl, rfl, rfl, rfl⟩

/-! The cut record (R74, R75). -/

/-- A lane that holds the engine back is configured and neither PASSED, ENDED nor LOST. -/
theorem Lane.holdsBack_iff {x : Lane} : x.holdsBack = true ↔
    x.state = .ready ∨ x.state = .waiting ∨ x.state = .stalled ∨ x.state = .trapped := by
  unfold Lane.holdsBack Lane.configured Lane.finished
  cases x.state <;> simp

theorem State.lanesFinished_iff (s : State) : s.lanesFinished = true ↔
    ∀ l, (s.lane l).state = .disabled ∨ (s.lane l).state = .passed ∨ (s.lane l).state = .ended ∨
      (s.lane l).state = .lost := by
  unfold State.lanesFinished
  rw [State.allLanes_iff]
  refine forall_congr' fun l => ?_
  simp only [Lane.configured, Lane.finished]
  cases (s.lane l).state <;> simp

theorem State.anyReading_iff (s : State) : s.anyReading = true ↔
    ∃ l, (s.lane l).state = .ready ∨ (s.lane l).state = .waiting := by
  unfold State.anyReading
  rw [State.anyLane_iff]
  refine exists_congr fun l => ?_
  cases (s.lane l).state <;> simp

/-- No CUT of the engine's own waits in its inbound queue (R75). -/
theorem State.not_ownCutWaiting_iff (s : State) : (!s.ownCutWaiting) = true ↔
    ∀ f ∈ s.biu.inbound, f.body = .cut → f.station ≠ s.straps.station := by
  simp only [State.ownCutWaiting, Bool.not_eq_true', List.any_eq_false]
  refine forall₂_congr fun f _ => ?_
  cases f.body <;> simp

/-- What a search through lanes keeps is its first choice or a lane of the list that holds the engine back. -/
theorem foldl_lowerLane_mem {s : State} {ls : List (Fin 16)} {best : Option (Fin 16)} {x : Fin 16}
    (h : ls.foldl (lowerLane s) best = some x) : best = some x ∨ x ∈ ls ∧ (s.lane x).holdsBack = true := by
  induction ls generalizing best with
  | nil => exact .inl h
  | cons a ls ih =>
    rcases ih h with hb | ⟨hx, hh⟩
    · unfold lowerLane at hb
      split at hb
      next ha =>
        split at hb
        · cases hb
          exact .inr ⟨by simp, ha⟩
        · split at hb
          · cases hb
            exact .inr ⟨by simp, ha⟩
          · exact .inl hb
      next => exact .inl hb
    · exact .inr ⟨List.mem_cons_of_mem _ hx, hh⟩

/-- A search keeps a lane that none of the others is below. -/
theorem foldl_lowerLane_keeps {s : State} {w : Fin 16} (ls : List (Fin 16))
    (h : ∀ m ∈ ls, (s.lane m).holdsBack = true → (s.lane w).clock.lastCorrected ≤ (s.lane m).clock.lastCorrected) :
    ls.foldl (lowerLane s) (some w) = some w := by
  induction ls with
  | nil => rfl
  | cons a ls ih =>
    have step : lowerLane s (some w) a = some w := by
      unfold lowerLane
      split
      next ha =>
        dsimp only
        rw [if_neg (not_lt.2 (h a (by simp) ha))]
      next => rfl
    rw [List.foldl_cons, step]
    exact ih fun m hm => h m (List.mem_cons_of_mem _ hm)

/-- The lane with the least last corrected time of those that hold the engine back, the lowest-numbered of equals
(R74, R77). -/
theorem State.leastHolder_eq {s : State} {w : Fin 16} (hw : (s.lane w).holdsBack = true)
    (hmin : ∀ m, (s.lane m).holdsBack = true → (s.lane w).clock.lastCorrected ≤ (s.lane m).clock.lastCorrected ∧
      (m < w → (s.lane w).clock.lastCorrected < (s.lane m).clock.lastCorrected)) : s.leastHolder = some w := by
  obtain ⟨before, after, hsplit⟩ := List.append_of_mem (List.mem_finRange w)
  have hlt : ∀ m ∈ before, m < w := by
    have := List.pairwise_lt_finRange 16
    rw [hsplit, List.pairwise_append] at this
    exact fun m hm => this.2.2 m hm w (by simp)
  have step : lowerLane s (before.foldl (lowerLane s) none) w = some w := by
    unfold lowerLane
    rw [if_pos hw]
    split
    · rfl
    next x hx =>
      rcases foldl_lowerLane_mem hx with h | ⟨hmem, hh⟩
      · cases h
      · rw [if_pos ((hmin x hh).2 (hlt x hmem))]
  rw [State.leastHolder, hsplit, List.foldl_append, List.foldl_cons, step]
  exact foldl_lowerLane_keeps after fun m _ hm => (hmin m hm).1

/-! An erased slot, and an event without room (R31, R32). -/

/-- The lane whose slot is taken holds no silent event (R160). -/
theorem State.AnswersLane.silent {s : State} {l : Fin 16} (h : s.AnswersLane l) : (s.lane l).silent = none :=
  h.elim (·.silent) (·.silent)

/-- A slot whose lane does not become READY ends its visit: no lane changes any more. -/
theorem State.SlotTaken.lane_continueVisit {s u : State} {l : Fin 16} {x : Lane} (h : s.SlotTaken u l x)
    (hx : x.state ≠ .ready) (m : Fin 16) : (u.continueVisit l).lane m = if m = l then x else s.lane m := by
  have hc : u.mayContinue l = false := by simp [State.mayContinue, h.lane, hx]
  rw [State.continueVisit, hc, if_neg (by decide), State.lane_endVisit]
  split
  next hm => rw [hm, h.lane]
  next hm => exact h.others m hm

/-- The visit's going on or ending touches only the port. -/
theorem State.continueVisit_eq (s : State) (l : Fin 16) :
    s.continueVisit l = { s with afu := (s.continueVisit l).afu } := by
  unfold State.continueVisit
  split <;> rfl

/-- A PENDING cut is withdrawn exactly when every lane has finished and no own CUT waits (R75). -/
theorem State.settleCut_of_pending {s : State} {c : Nat} {forced : Option (Fin 16)} (h : s.mq.cut = .pending c forced) :
    s.settleCut.mq.cut = if s.lanesFinished && !s.ownCutWaiting then .absent else s.mq.cut := by
  unfold State.settleCut
  rw [h]
  dsimp only
  split <;> simp [h]

/-- No cut is computed while a lane can still insert (R74). -/
theorem State.settleCut_of_reading {s : State} (h : s.mq.cut = .absent) (hr : s.anyReading = true) :
    s.settleCut.mq.cut = .absent := by
  unfold State.settleCut
  rw [h]
  simp [State.cutDue, hr, h]

/-- A cut is due: it is computed from the lane that is least (R74). -/
theorem State.settleCut_of_due {s : State} {w : Fin 16} (h : s.mq.cut = .absent) (hd : s.cutDue = true)
    (hw : s.leastHolder = some w) :
    s.settleCut.mq.cut = .pending (max (s.lane w).clock.lastCorrected (s.pu.windowStart + 1))
      (if (s.lane w).clock.lastCorrected ≤ s.pu.windowStart then some w else none) := by
  unfold State.settleCut
  rw [h]
  simp [hd, State.computeCut, hw]

/-- The lane of an erased slot is ENDED, the slot not passed (R31). -/
theorem State.takeSlot_erased (s : State) (l : Fin 16) :
    (s.answerTaken l).takeSlot l (BitVec.allOnes 256) =
      (s.answerTaken l).setLane l { s.lane l with state := .ended } := by
  have hc : classify (BitVec.allOnes 256) = .erased := by decide
  simp only [State.takeSlot, hc, State.lane_answerTaken]

/-- An event that finds no entry free stalls its lane and is left untaken (R32). -/
theorem State.takeSlot_full {s : State} {d : Slot} {device : BitVec 16} {kind : EventKind} {stamp : BitVec 48}
    {seq : BitVec 32} (hd : classify d = .event device kind stamp seq) (hfull : 256 ≤ s.mq.entries.length) (l : Fin 16) :
    (s.answerTaken l).takeSlot l d = (s.answerTaken l).setLane l { s.lane l with state := .stalled } := by
  have hq : (s.answerTaken l).queueFull = true := decide_eq_true hfull
  simp only [State.takeSlot, hd, hq, if_true, State.lane_answerTaken]

/-- A slot that sets its lane, and at most raises findings, leaves the entries and the other blocks. -/
theorem State.AnswersLane.setsLane {s : State} {l : Fin 16} (ha : s.AnswersLane l) {x : Lane} (hx : x.silent = none)
    (hw : x.fetchWidth = (s.lane l).fetchWidth) {u t : State}
    (hu : u = { (s.answerTaken l).setLane l x with cku := u.cku }) (ht : t = (u.continueVisit l).settle) :
    s.TakesSlot t l x ∧ t.mq.entries = s.mq.entries ∧ t.cku = u.cku ∧ s.OnlyLanesAndQueues t := by
  have hs : s.SlotTaken u l x := hu ▸ (State.slotTaken_setLane x).withCku u.cku
  obtain ⟨hentries, hcku⟩ := State.settle_continueVisit u l
  rw [ht]
  refine ⟨hs.takes ha hx hw, hentries.trans ?_, hcku, hs.onlyLanes ha ?_⟩ <;> rw [hu] <;> rfl

/-- The cut record after such a slot, when the lane is not READY: settled on the lanes as the slot leaves them. -/
theorem State.AnswersLane.setsLane_cut {s : State} {l : Fin 16} (ha : s.AnswersLane l) {x : Lane}
    (hx : x.state ≠ .ready) : ∃ v : State,
      (((s.answerTaken l).setLane l x).continueVisit l).settle.mq.cut = v.settleCut.mq.cut ∧ v.mq = s.mq ∧
        v.rc = s.rc ∧ v.pu = s.pu ∧ v.biu = s.biu ∧ v.straps = s.straps ∧
        ∀ m, v.lane m = if m = l then x else s.lane m := by
  have hs : s.SlotTaken ((s.answerTaken l).setLane l x) l x := State.slotTaken_setLane x
  refine ⟨((s.answerTaken l).setLane l x).continueVisit l, ?_, ?_, ?_, ?_, ?_, ?_, hs.lane_continueVisit hx⟩
  · rw [hs.settle_eq ha]
  all_goals
    rw [State.continueVisit_eq]
    rfl

/-- Settles O14: the slot only sets its lane, and the cut record is settled on the lanes so left. -/
theorem erasedSlotEndsAndFullQueueStalls : Obligations.ErasedSlotEndsAndFullQueueStalls := by
  intro words d s l ha hb
  refine ⟨?_, fun device kind stamp seq hd hfull => ?_⟩
  · rintro rfl
    refine ⟨_, ha.exec_eq hb, ?_⟩
    rw [s.takeSlot_erased l]
    obtain ⟨htakes, hentries, hcku, honly⟩ := ha.setsLane (x := { s.lane l with state := .ended })
      (u := (s.answerTaken l).setLane l { s.lane l with state := .ended }) ha.silent rfl rfl rfl
    refine ⟨htakes, hentries, hcku, honly, fun c forced hcut => ?_⟩
    obtain ⟨v, ht, hmq, -, -, hbiu, hstraps, hlane⟩ := ha.setsLane_cut (x := { s.lane l with state := .ended }) nofun
    rw [ht, State.settleCut_of_pending (by rw [hmq]; exact hcut), hmq]
    refine if_congr ?_ rfl rfl
    rw [Bool.and_eq_true, State.lanesFinished_iff, State.not_ownCutWaiting_iff, hbiu, hstraps]
    refine and_congr_left fun _ => forall_congr' fun m => ?_
    rw [hlane m]
    by_cases hm : m = l <;> simp [hm]
  · refine ⟨_, ha.exec_eq hb, ?_⟩
    rw [State.takeSlot_full hd hfull l]
    obtain ⟨htakes, hentries, hcku, honly⟩ := ha.setsLane (x := { s.lane l with state := .stalled })
      (u := (s.answerTaken l).setLane l { s.lane l with state := .stalled }) ha.silent rfl rfl rfl
    refine ⟨htakes, hentries, hcku, honly, fun hmode hphase hcut => ?_⟩
    obtain ⟨v, ht, hmq, hrc, hpu, -, -, hlane⟩ := ha.setsLane_cut (x := { s.lane l with state := .stalled }) nofun
    have habsent : v.mq.cut = .absent := by rw [hmq]; exact hcut
    rw [ht]
    refine ⟨fun ⟨m, hm, hreads⟩ => ?_, fun hnone w least hleast hw hmin => ?_⟩
    · refine State.settleCut_of_reading habsent (v.anyReading_iff.2 ⟨m, ?_⟩)
      rwa [hlane m, if_neg hm]
    · have holds : ∀ m, (v.lane m).holdsBack = true ↔
          m = l ∨ (s.lane m).state = .stalled ∨ (s.lane m).state = .trapped := fun m => by
        rw [Lane.holdsBack_iff, hlane m]
        by_cases hm : m = l
        · simp [hm]
        · simp [hm, hnone m hm]
      have hlast : ∀ m, (v.lane m).clock.lastCorrected = (s.lane m).clock.lastCorrected := fun m => by
        rw [hlane m]
        by_cases hm : m = l <;> simp [hm]
      have hleastHolder : v.leastHolder = some w := by
        refine State.leastHolder_eq ((holds w).2 hw) fun m hm => ?_
        rw [hlast w, hlast m, ← hleast]
        exact hmin m ((holds m).1 hm)
      have hfin : v.lanesFinished = false := by
        rw [Bool.eq_false_iff, ne_eq, State.lanesFinished_iff]
        intro hall
        have := hall l
        rw [hlane l, if_pos rfl] at this
        simp at this
      have hread : v.anyReading = false := by
        rw [Bool.eq_false_iff, ne_eq, State.anyReading_iff]
        rintro ⟨m, hm⟩
        rw [hlane m] at hm
        by_cases hml : m = l
        · simp [hml] at hm
        · rw [if_neg hml] at hm
          exact hm.elim (hnone m hml).1 (hnone m hml).2
      have hqueue : v.queueFull = true := by
        rw [State.queueFull, hmq]
        exact decide_eq_true hfull
      have hdue : v.cutDue = true := by
        have hrep : v.rc.mode.replaying = true := by
          rw [hrc]
          rcases hmode with h | h <;> rw [h] <;> rfl
        simp [State.cutDue, hrep, hpu, hphase, habsent, State.gathered, hfin, hqueue, hread]
      rw [State.settleCut_of_due habsent hdue hleastHolder, hlast w, ← hleast, hpu]

end Sys2Proof.Machine
end

section
/-! PROOFS. The classes of slots by their bytes, and the slots that a lane skips or holds (R14, R31, R40, R139). -/

namespace Sys2Proof.Machine

/-! The bytes of a slot. -/

theorem natAt_eq (d : Slot) (lo n : Nat) : natAt d lo n = d.toNat / 256 ^ (32 - lo - n) % 256 ^ n := by
  have h256 : ∀ k, 256 ^ k = 2 ^ (8 * k) := fun k => by rw [pow_mul]; rfl
  rw [natAt, bytesAt, BitVec.extractLsb'_toNat, Nat.shiftRight_eq_div_pow, h256, h256]

theorem getLsbD_bytesAt (d : Slot) (lo n k : Nat) :
    (bytesAt d lo n).getLsbD k = (decide (k < 8 * n) && d.getLsbD (8 * (32 - lo - n) + k)) := by
  rw [bytesAt, BitVec.getLsbD_extractLsb']

/-- A slot is its bytes. -/
theorem slot_ext_bytes {d e : Slot} (h : ∀ i < 32, bytesAt d i 1 = bytesAt e i 1) : d = e := by
  apply BitVec.eq_of_getLsbD_eq
  intro k hk
  have hb := congrArg (fun b => b.getLsbD (k % 8)) (h (31 - k / 8) (by omega))
  simp only [getLsbD_bytesAt] at hb
  have hi : 8 * (32 - (31 - k / 8) - 1) + k % 8 = k := by omega
  rw [hi] at hb
  simpa [Nat.mod_lt] using hb

/-- Bytes are all zero exactly when each of them is. -/
theorem zeroAt_iff {d : Slot} {lo n : Nat} (h : lo + n ≤ 32) :
    zeroAt d lo n = true ↔ ∀ i, lo ≤ i → i < lo + n → natAt d i 1 = 0 := by
  have byte : ∀ i, natAt d i 1 = 0 ↔ bytesAt d i 1 = 0#8 := fun i => by
    rw [natAt, ← BitVec.toNat_inj]
    rfl
  simp only [zeroAt, beq_iff_eq, byte]
  constructor
  · intro hz i hlo hhi
    apply BitVec.eq_of_getLsbD_eq
    intro k hk
    have hb := congrArg (fun b => b.getLsbD (8 * (lo + n - 1 - i) + k)) hz
    simp only [getLsbD_bytesAt, BitVec.getLsbD_zero] at hb ⊢
    have hi : 8 * (32 - lo - n) + (8 * (lo + n - 1 - i) + k) = 8 * (32 - i - 1) + k := by omega
    have hin : 8 * (lo + n - 1 - i) + k < 8 * n := by omega
    rw [hi] at hb
    simpa [hin, hk] using hb
  · intro hz
    apply BitVec.eq_of_getLsbD_eq
    intro k hk
    have hb := congrArg (fun b => b.getLsbD (k % 8)) (hz (lo + n - 1 - k / 8) (by omega) (by omega))
    simp only [getLsbD_bytesAt, BitVec.getLsbD_zero] at hb ⊢
    have hi : 8 * (32 - (lo + n - 1 - k / 8) - 1) + k % 8 = 8 * (32 - lo - n) + k := by omega
    rw [hi] at hb
    simpa [hk, Nat.mod_lt] using hb

/-- All bytes of an erased slot are 0xFF. -/
theorem erased_iff {d : Slot} : erased d = true ↔ ∀ i < 32, natAt d i 1 = 255 := by
  have ones : ∀ i < 32, bytesAt (BitVec.allOnes 256) i 1 = 255#8 := by decide
  rw [erased, beq_iff_eq]
  constructor
  · rintro rfl i hi
    rw [natAt, ones i hi]
    rfl
  · intro h
    refine slot_ext_bytes fun i hi => ?_
    rw [ones i hi]
    exact BitVec.eq_of_toNat_eq (h i hi)

/-- The byte XOR is that of the bytes in their order. -/
theorem xorBytes_toNat (d : Slot) :
    (xorBytes d).toNat = (List.range 32).foldl (fun acc i => acc ^^^ natAt d i 1) 0 := by
  have step : ∀ (ls : List Nat) (acc : BitVec 8), (∀ i ∈ ls, i < 32) →
      (ls.foldl (fun acc i => acc ^^^ d.extractLsb' (8 * i) 8) acc).toNat =
        (ls.map (31 - ·)).foldl (fun acc i => acc ^^^ natAt d i 1) acc.toNat := by
    intro ls
    induction ls with
    | nil => simp
    | cons i ls ih =>
      intro acc hls
      have hi : 8 * (32 - (31 - i) - 1) = 8 * i := by
        have := hls i (by simp)
        omega
      rw [List.foldl_cons, List.map_cons, List.foldl_cons, ih _ fun m hm => hls m (by simp [hm]), BitVec.toNat_xor, natAt,
        bytesAt, hi]
  have hrev : (List.range 32).map (31 - ·) = (List.range 32).reverse := by decide
  rw [xorBytes, step _ _ (by simp), hrev]
  refine (List.reverse_perm _).foldl_eq' (fun x _ y _ z => ?_) _
  rw [Nat.xor_assoc, Nat.xor_comm (natAt d x 1), ← Nat.xor_assoc]

/-! The classes (R14). -/

theorem EventKind.ofCode_eq_none {n : Nat} : EventKind.ofCode n = none ↔ n = 0 ∨ 10 < n := by
  unfold EventKind.ofCode
  split <;> simp_all
  omega

/-- A kind by its value, as the place in the list of Table 1-5. -/
theorem EventKind.ofCode_eq_some {n : Nat} {kind : EventKind} : EventKind.ofCode n = some kind ↔
    1 ≤ n ∧ [EventKind.pickup, .dropout, .trip, .openCmd, .closeCmd, .opened, .closed, .travel, .lockout,
      .lockoutReset][n - 1]? = some kind := by
  by_cases h : 10 < n
  · rw [EventKind.ofCode_eq_none.2 (.inr h),
      List.getElem?_eq_none (by simp only [List.length_cons, List.length_nil]; omega)]
    simp
  · interval_cases n <;> simp [EventKind.ofCode]

/-- An erased slot's byte XOR is 0. -/
theorem xorBytes_of_erased {d : Slot} (h : erased d = true) : xorBytes d = 0#8 := by
  obtain rfl : d = BitVec.allOnes 256 := by simpa [erased] using h
  decide

theorem zeroAt_eq_false {d : Slot} {lo n : Nat} (h : lo + n ≤ 32) :
    zeroAt d lo n = false ↔ ∃ i, lo ≤ i ∧ i < lo + n ∧ natAt d i 1 ≠ 0 := by
  rw [Bool.eq_false_iff, ne_eq, zeroAt_iff h]
  push Not
  rfl

theorem not_erased_iff {d : Slot} : erased d = false ↔ ∃ i < 32, natAt d i 1 ≠ 255 := by
  rw [Bool.eq_false_iff, ne_eq, erased_iff]
  push Not
  rfl

/-- Past the first two tests of R14, the type byte decides (Table 11-1). -/
theorem classify_of_whole {d : Slot} (he : erased d = false) (hx : xorBytes d = 0#8) :
    classify d = if natAt d 0 1 = 1 then classifyEvent d else if natAt d 0 1 = 2 then classifyMark d
      else if natAt d 0 1 = 3 then classifyGap d else .undecodable := by
  rw [classify, he, hx]
  simp only [Bool.false_eq_true, if_false, ne_eq, not_true_eq_false]
  split <;> simp_all

/-- The record readers give their own class or UNDECODABLE. -/
theorem classifyEvent_cases (d : Slot) : classifyEvent d = .undecodable ∨
    ∃ device kind stamp seq, classifyEvent d = .event device kind stamp seq := by
  unfold classifyEvent
  split
  · exact .inl rfl
  · split
    · exact .inl rfl
    · exact .inr ⟨_, _, _, _, rfl⟩

theorem classifyMark_cases (d : Slot) : classifyMark d = .undecodable ∨
    ∃ stamp reference seq, classifyMark d = .mark stamp reference seq := by
  unfold classifyMark
  split
  · exact .inl rfl
  · exact .inr ⟨_, _, _, rfl⟩

theorem classifyGap_cases (d : Slot) : classifyGap d = .undecodable ∨ ∃ lost seq, classifyGap d = .gap lost seq := by
  unfold classifyGap
  split
  · exact .inl rfl
  · exact .inr ⟨_, _, rfl⟩

/-- The six ways through the tests of R14. -/
theorem classify_cases (d : Slot) :
    (erased d = true ∧ xorBytes d = 0#8 ∧ natAt d 0 1 = 255 ∧ classify d = .erased) ∨
    (erased d = false ∧ xorBytes d ≠ 0#8 ∧ classify d = .damaged) ∨
    (erased d = false ∧ xorBytes d = 0#8 ∧ natAt d 0 1 = 1 ∧ classify d = classifyEvent d) ∨
    (erased d = false ∧ xorBytes d = 0#8 ∧ natAt d 0 1 = 2 ∧ classify d = classifyMark d) ∨
    (erased d = false ∧ xorBytes d = 0#8 ∧ natAt d 0 1 = 3 ∧ classify d = classifyGap d) ∨
    (erased d = false ∧ xorBytes d = 0#8 ∧ (natAt d 0 1 = 0 ∨ 3 < natAt d 0 1) ∧ classify d = .undecodable) := by
  cases he : erased d with
  | true => exact .inl ⟨rfl, xorBytes_of_erased he, erased_iff.1 he 0 (by decide), by rw [classify, if_pos he]⟩
  | false =>
    by_cases hx : xorBytes d = 0#8
    · have hw := classify_of_whole he hx
      by_cases h1 : natAt d 0 1 = 1
      · exact .inr (.inr (.inl ⟨rfl, hx, h1, by rw [hw, if_pos h1]⟩))
      · by_cases h2 : natAt d 0 1 = 2
        · exact .inr (.inr (.inr (.inl ⟨rfl, hx, h2, by rw [hw, if_neg h1, if_pos h2]⟩)))
        · by_cases h3 : natAt d 0 1 = 3
          · exact .inr (.inr (.inr (.inr (.inl ⟨rfl, hx, h3, by rw [hw, if_neg h1, if_neg h2, if_pos h3]⟩))))
          · exact .inr (.inr (.inr (.inr (.inr ⟨rfl, hx, by omega, by rw [hw, if_neg h1, if_neg h2, if_neg h3]⟩))))
    · exact .inr (.inl ⟨rfl, hx, by rw [classify, he, if_neg (by decide), if_pos hx]⟩)

theorem classify_eq_erased {d : Slot} : classify d = .erased ↔ erased d = true := by
  rcases classify_cases d with ⟨he, -, -, hc⟩ | ⟨he, -, hc⟩ | ⟨he, -, -, hc⟩ | ⟨he, -, -, hc⟩ | ⟨he, -, -, hc⟩ |
    ⟨he, -, -, hc⟩ <;> rw [hc, he]
  · simp
  · simp
  · obtain h | ⟨_, _, _, _, h⟩ := classifyEvent_cases d <;> simp [h]
  · obtain h | ⟨_, _, _, h⟩ := classifyMark_cases d <;> simp [h]
  · obtain h | ⟨_, _, h⟩ := classifyGap_cases d <;> simp [h]
  · simp

theorem classify_eq_damaged {d : Slot} : classify d = .damaged ↔ xorBytes d ≠ 0#8 := by
  rcases classify_cases d with ⟨-, hx, -, hc⟩ | ⟨-, hx, hc⟩ | ⟨-, hx, -, hc⟩ | ⟨-, hx, -, hc⟩ | ⟨-, hx, -, hc⟩ |
    ⟨-, hx, -, hc⟩ <;> rw [hc]
  · simp [hx]
  · simp [hx]
  · obtain h | ⟨_, _, _, _, h⟩ := classifyEvent_cases d <;> simp [h, hx]
  · obtain h | ⟨_, _, _, h⟩ := classifyMark_cases d <;> simp [h, hx]
  · obtain h | ⟨_, _, h⟩ := classifyGap_cases d <;> simp [h, hx]
  · simp [hx]

theorem classify_eq_undecodable {d : Slot} : classify d = .undecodable ↔
    xorBytes d = 0#8 ∧ erased d = false ∧ (natAt d 0 1 = 0 ∨ 3 < natAt d 0 1 ∨
      (natAt d 0 1 = 1 ∧ classifyEvent d = .undecodable) ∨ (natAt d 0 1 = 2 ∧ classifyMark d = .undecodable) ∨
      (natAt d 0 1 = 3 ∧ classifyGap d = .undecodable)) := by
  rcases classify_cases d with ⟨he, -, -, hc⟩ | ⟨-, hx, hc⟩ | ⟨he, hx, hn, hc⟩ | ⟨he, hx, hn, hc⟩ | ⟨he, hx, hn, hc⟩ |
    ⟨he, hx, hn, hc⟩ <;> rw [hc]
  · simp [he]
  · simp [hx]
  · simp [he, hx, hn]
  · simp [he, hx, hn]
  · simp [he, hx, hn]
  · simp only [he, hx, true_and, true_iff]
    exact hn.imp id .inl

theorem classify_eq_event {d : Slot} {device : BitVec 16} {kind : EventKind} {stamp : BitVec 48} {seq : BitVec 32} :
    classify d = .event device kind stamp seq ↔
      xorBytes d = 0#8 ∧ natAt d 0 1 = 1 ∧ classifyEvent d = .event device kind stamp seq := by
  rcases classify_cases d with ⟨-, -, hn, hc⟩ | ⟨-, hx, hc⟩ | ⟨-, hx, hn, hc⟩ | ⟨-, -, hn, hc⟩ | ⟨-, -, hn, hc⟩ |
    ⟨-, -, hn, hc⟩ <;> rw [hc]
  · simp [hn]
  · simp [hx]
  · simp [hx, hn]
  · obtain h | ⟨_, _, _, h⟩ := classifyMark_cases d <;> simp [h, hn]
  · obtain h | ⟨_, _, h⟩ := classifyGap_cases d <;> simp [h, hn]
  · simp only [reduceCtorEq, false_iff]
    omega

theorem classify_eq_mark {d : Slot} {stamp : BitVec 48} {reference : Nat} {seq : BitVec 32} :
    classify d = .mark stamp reference seq ↔
      xorBytes d = 0#8 ∧ natAt d 0 1 = 2 ∧ classifyMark d = .mark stamp reference seq := by
  rcases classify_cases d with ⟨-, -, hn, hc⟩ | ⟨-, hx, hc⟩ | ⟨-, -, hn, hc⟩ | ⟨-, hx, hn, hc⟩ | ⟨-, -, hn, hc⟩ |
    ⟨-, -, hn, hc⟩ <;> rw [hc]
  · simp [hn]
  · simp [hx]
  · obtain h | ⟨_, _, _, _, h⟩ := classifyEvent_cases d <;> simp [h, hn]
  · simp [hx, hn]
  · obtain h | ⟨_, _, h⟩ := classifyGap_cases d <;> simp [h, hn]
  · simp only [reduceCtorEq, false_iff]
    omega

theorem classify_eq_gap {d : Slot} {lost : Nat} {seq : BitVec 32} :
    classify d = .gap lost seq ↔ xorBytes d = 0#8 ∧ natAt d 0 1 = 3 ∧ classifyGap d = .gap lost seq := by
  rcases classify_cases d with ⟨-, -, hn, hc⟩ | ⟨-, hx, hc⟩ | ⟨-, -, hn, hc⟩ | ⟨-, -, hn, hc⟩ | ⟨-, hx, hn, hc⟩ |
    ⟨-, -, hn, hc⟩ <;> rw [hc]
  · simp [hn]
  · simp [hx]
  · obtain h | ⟨_, _, _, _, h⟩ := classifyEvent_cases d <;> simp [h, hn]
  · obtain h | ⟨_, _, _, h⟩ := classifyMark_cases d <;> simp [h, hn]
  · simp [hx, hn]
  · simp only [reduceCtorEq, false_iff]
    omega

/-! The records (R15, R16, R17; Table 11-1). -/

theorem classifyEvent_eq_undecodable {d : Slot} : classifyEvent d = .undecodable ↔
    natAt d 1 1 = 0 ∨ 10 < natAt d 1 1 ∨ natAt d 2 2 = 0 ∨ natAt d 2 2 = 65535 ∨
      ∃ i, 14 ≤ i ∧ i ≤ 30 ∧ natAt d i 1 ≠ 0 := by
  unfold classifyEvent
  split
  next hk => exact iff_of_true rfl ((EventKind.ofCode_eq_none.1 hk).imp id .inl)
  next kind hk =>
    have hcode : ¬(natAt d 1 1 = 0 ∨ 10 < natAt d 1 1) := fun h => by
      rw [EventKind.ofCode_eq_none.2 h] at hk
      cases hk
    have hz : zeroAt d 14 17 = false ↔ ∃ i, 14 ≤ i ∧ i ≤ 30 ∧ natAt d i 1 ≠ 0 := by
      rw [zeroAt_eq_false (by decide)]
      simp only [Nat.lt_succ_iff]
    split
    next hbad => exact iff_of_true rfl (.inr (.inr (hbad.imp id fun h => h.imp id hz.1)))
    next hgood =>
      refine iff_of_false nofun ?_
      rintro (h | h | h)
      · exact hcode (.inl h)
      · exact hcode (.inr h)
      · exact hgood (h.imp id fun h => h.imp id hz.2)

theorem classifyEvent_eq_event {d : Slot} {device : BitVec 16} {kind : EventKind} {stamp : BitVec 48}
    {seq : BitVec 32} : classifyEvent d = .event device kind stamp seq ↔
      1 ≤ natAt d 1 1 ∧
        [EventKind.pickup, .dropout, .trip, .openCmd, .closeCmd, .opened, .closed, .travel, .lockout,
          .lockoutReset][natAt d 1 1 - 1]? = some kind ∧
        device.toNat = natAt d 2 2 ∧ 1 ≤ natAt d 2 2 ∧ natAt d 2 2 ≤ 65534 ∧ stamp.toNat = natAt d 4 6 ∧
        seq.toNat = natAt d 10 4 ∧ ∀ i, 14 ≤ i → i ≤ 30 → natAt d i 1 = 0 := by
  have hzero : zeroAt d 14 17 = true ↔ ∀ i, 14 ≤ i → i ≤ 30 → natAt d i 1 = 0 := by
    rw [zeroAt_iff (by decide)]
    simp only [Nat.lt_succ_iff]
  have htop : natAt d 2 2 < 65536 := (bytesAt d 2 2).isLt
  rw [← and_assoc, ← EventKind.ofCode_eq_some, ← hzero]
  unfold classifyEvent
  split
  next hk => simp [hk]
  next kind' hk =>
    split
    next hbad =>
      simp only [reduceCtorEq, false_iff]
      rintro ⟨-, -, hlo, hhi, -, -, hz⟩
      rcases hbad with h | h | h
      · omega
      · omega
      · rw [hz] at h
        cases h
    next hgood =>
      simp only [not_or, Bool.not_eq_false] at hgood
      obtain ⟨hlo, hhi, hz⟩ := hgood
      rw [hk, Option.some.injEq, SlotClass.event.injEq]
      simp only [← BitVec.toNat_inj, hz, and_true]
      constructor
      · rintro ⟨hd, hkind, hs, hq⟩
        exact ⟨hkind, hd.symm, Nat.one_le_iff_ne_zero.2 hlo,
          Nat.le_of_lt_succ (lt_of_le_of_ne (Nat.le_of_lt_succ htop) hhi),
          hs.symm, hq.symm⟩
      · rintro ⟨hkind, hd, -, -, hs, hq⟩
        exact ⟨hd.symm, hkind, hs.symm, hq.symm⟩

theorem classifyMark_eq_undecodable {d : Slot} : classifyMark d = .undecodable ↔
    natAt d 14 5 = 1099511627775 ∨ ∃ i, (1 ≤ i ∧ i ≤ 3 ∨ 19 ≤ i ∧ i ≤ 30) ∧ natAt d i 1 ≠ 0 := by
  have hz : (zeroAt d 1 3 = false ∨ zeroAt d 19 12 = false) ↔
      ∃ i, (1 ≤ i ∧ i ≤ 3 ∨ 19 ≤ i ∧ i ≤ 30) ∧ natAt d i 1 ≠ 0 := by
    rw [zeroAt_eq_false (by decide), zeroAt_eq_false (by decide), ← exists_or]
    refine exists_congr fun i => ?_
    rw [or_and_right, and_assoc, and_assoc]
    simp only [Nat.lt_succ_iff]
  unfold classifyMark
  split
  next hbad => exact iff_of_true rfl (hbad.imp id hz.1)
  next hgood => exact iff_of_false nofun fun h => hgood (h.imp id hz.2)

theorem classifyMark_eq_mark {d : Slot} {stamp : BitVec 48} {reference : Nat} {seq : BitVec 32} :
    classifyMark d = .mark stamp reference seq ↔
      stamp.toNat = natAt d 4 6 ∧ seq.toNat = natAt d 10 4 ∧ reference = natAt d 14 5 ∧
        natAt d 14 5 ≠ 1099511627775 ∧ ∀ i, (1 ≤ i ∧ i ≤ 3 ∨ 19 ≤ i ∧ i ≤ 30) → natAt d i 1 = 0 := by
  have hgood : classifyMark d ≠ .undecodable ↔
      natAt d 14 5 ≠ 1099511627775 ∧ ∀ i, (1 ≤ i ∧ i ≤ 3 ∨ 19 ≤ i ∧ i ≤ 30) → natAt d i 1 = 0 := by
    rw [ne_eq, classifyMark_eq_undecodable]
    push Not
    rfl
  rw [← hgood]
  unfold classifyMark
  split
  next => simp
  next =>
    simp only [SlotClass.mark.injEq, ← BitVec.toNat_inj, ne_eq, reduceCtorEq, not_false_eq_true, and_true]
    exact ⟨fun ⟨hs, href, hq⟩ => ⟨hs.symm, hq.symm, href.symm⟩, fun ⟨hs, hq, href⟩ => ⟨hs.symm, href.symm, hq.symm⟩⟩

theorem classifyGap_eq_undecodable {d : Slot} : classifyGap d = .undecodable ↔
    natAt d 2 2 = 0 ∨ ∃ i, (i = 1 ∨ 4 ≤ i ∧ i ≤ 9 ∨ 14 ≤ i ∧ i ≤ 30) ∧ natAt d i 1 ≠ 0 := by
  have hz : (zeroAt d 1 1 = false ∨ zeroAt d 4 6 = false ∨ zeroAt d 14 17 = false) ↔
      ∃ i, (i = 1 ∨ 4 ≤ i ∧ i ≤ 9 ∨ 14 ≤ i ∧ i ≤ 30) ∧ natAt d i 1 ≠ 0 := by
    rw [zeroAt_eq_false (by decide), zeroAt_eq_false (by decide), zeroAt_eq_false (by decide), ← exists_or, ← exists_or]
    refine exists_congr fun i => ?_
    rw [or_and_right, or_and_right, ← and_assoc, ← and_assoc, ← and_assoc]
    simp only [Nat.lt_succ_iff, Nat.le_antisymm_iff, and_comm]
  unfold classifyGap
  split
  next hbad => exact iff_of_true rfl (hbad.imp id hz.1)
  next hgood => exact iff_of_false nofun fun h => hgood (h.imp id hz.2)

theorem classifyGap_eq_gap {d : Slot} {lost : Nat} {seq : BitVec 32} :
    classifyGap d = .gap lost seq ↔
      lost = natAt d 2 2 ∧ 1 ≤ natAt d 2 2 ∧ seq.toNat = natAt d 10 4 ∧
        ∀ i, (i = 1 ∨ 4 ≤ i ∧ i ≤ 9 ∨ 14 ≤ i ∧ i ≤ 30) → natAt d i 1 = 0 := by
  have hgood : classifyGap d ≠ .undecodable ↔
      1 ≤ natAt d 2 2 ∧ ∀ i, (i = 1 ∨ 4 ≤ i ∧ i ≤ 9 ∨ 14 ≤ i ∧ i ≤ 30) → natAt d i 1 = 0 := by
    rw [ne_eq, classifyGap_eq_undecodable, Nat.one_le_iff_ne_zero]
    push Not
    rfl
  rw [and_left_comm (b := seq.toNat = _), ← and_left_comm, ← hgood]
  unfold classifyGap
  split
  next => simp
  next =>
    simp only [SlotClass.gap.injEq, ← BitVec.toNat_inj, ne_eq, reduceCtorEq, not_false_eq_true, and_true]
    exact ⟨fun ⟨hl, hq⟩ => ⟨hq.symm, hl.symm⟩, fun ⟨hq, hl⟩ => ⟨hl.symm, hq.symm⟩⟩

/-! A DAMAGED or UNDECODABLE slot that a lane reads (R31, R40, R139). -/

/-- A lane past a slot that it skips (R31, R36). -/
def Lane.skipped (x : Lane) : Lane :=
  { x with
    readPos := x.readPos + 1, held := none, trap := none
    state := if x.slotCount ≤ x.readPos + 1 then .ended else .ready }

/-- A lane that holds a bad slot for its release (R139, R148). -/
def Lane.holdingSlot (x : Lane) : Lane :=
  { x with state := .trapped, held := some .slot, trap := some (.fetch 1) }

/-- In SEEKING a bad slot is skipped without a finding (R40). -/
theorem State.takeBadSlot_of_seeking {s : State} (h : s.rc.mode = .seeking) (l : Fin 16) (a : AnomalySet) :
    (s.answerTaken l).takeBadSlot l a = (s.answerTaken l).setLane l (s.lane l).skipped := by
  have hm : (s.answerTaken l).rc.mode = .seeking := h
  simp only [State.takeBadSlot, hm, State.lane_answerTaken]
  rfl

/-- Outside SEEKING the lane's mask for group 1 decides (R139): under PASS the slot is skipped with a finding. -/
theorem State.takeBadSlot_of_pass {s : State} {l : Fin 16} (h : s.rc.mode ≠ .seeking)
    (hmask : (s.lane l).mask.group1 = .pass) (a : AnomalySet) :
    (s.answerTaken l).takeBadSlot l a = ((s.answerTaken l).setLane l (s.lane l).skipped).raiseFinding
      (laneFinding l 1 a .skipped none (s.lane l).readPos s.pu.windowStart) := by
  unfold State.takeBadSlot
  split
  next hm => exact absurd hm h
  all_goals
    rw [State.lane_answerTaken]
    dsimp only
    rw [hmask]
    rfl

/-- Under HOLD the lane is TRAPPED with the slot, and a finding says so (R139, R148). -/
theorem State.takeBadSlot_of_hold {s : State} {l : Fin 16} (h : s.rc.mode ≠ .seeking)
    (hmask : (s.lane l).mask.group1 = .hold) (a : AnomalySet) :
    (s.answerTaken l).takeBadSlot l a = ((s.answerTaken l).setLane l (s.lane l).holdingSlot).raiseFinding
      (laneFinding l 1 a .heldForRelease none (s.lane l).readPos s.pu.windowStart) := by
  unfold State.takeBadSlot State.trapAtFetch
  split
  next hm => exact absurd hm h
  all_goals
    rw [State.lane_answerTaken]
    dsimp only
    rw [hmask]
    rfl

/-- A slot that sets its lane and raises a finding. -/
theorem State.AnswersLane.setsLaneAndRaises {s : State} {l : Fin 16} (ha : s.AnswersLane l) {x : Lane}
    (hx : x.silent = none) (hw : x.fetchWidth = (s.lane l).fetchWidth) (f : Finding) {t : State}
    (ht : t = ((((s.answerTaken l).setLane l x).raiseFinding f).continueVisit l).settle) :
    s.TakesSlot t l x ∧ t.mq.entries = s.mq.entries ∧ s.cku.Raises t.cku f ∧ s.OnlyLanesAndQueues t := by
  obtain ⟨htakes, hentries, hcku, honly⟩ := ha.setsLane hx hw (State.raiseFinding_eq _ f) ht
  refine ⟨htakes, hentries, ?_, honly⟩
  rw [hcku]
  exact State.raises_raiseFinding ((s.answerTaken l).setLane l x) f

theorem State.takeSlot_damaged {s : State} {d : Slot} (hd : classify d = .damaged) (l : Fin 16) :
    s.takeSlot l d = s.takeBadSlot l { damaged := true } := by
  simp only [State.takeSlot, hd]

theorem State.takeSlot_undecodable {s : State} {d : Slot} (hd : classify d = .undecodable) (l : Fin 16) :
    s.takeSlot l d = s.takeBadSlot l { undecodable := true } := by
  simp only [State.takeSlot, hd]

/-- Settles O15: the classes by the tests of `classify`, the slot by the mode and the lane's mask. -/
theorem badSlotIsSkippedOrHeld : Obligations.BadSlotIsSkippedOrHeld := by
  refine ⟨fun d xor hxor => ?_, fun words d s l a ha hb hd => ?_⟩
  · have hzero : xorBytes d = 0#8 ↔ xor = 0 := by
      rw [hxor, ← xorBytes_toNat, ← BitVec.toNat_inj]
      rfl
    refine ⟨fun lo n _ => natAt_eq d lo n, classify_eq_erased.trans erased_iff,
      classify_eq_damaged.trans (not_congr hzero),
      ?_, fun device kind stamp seq => ?_, fun stamp reference seq => ?_, fun lost seq => ?_⟩
    · rw [classify_eq_undecodable, hzero, not_erased_iff, classifyEvent_eq_undecodable, classifyMark_eq_undecodable,
        classifyGap_eq_undecodable]
    · rw [classify_eq_event, hzero, classifyEvent_eq_event]
    · rw [classify_eq_mark, hzero, classifyMark_eq_mark]
    · rw [classify_eq_gap, hzero, classifyGap_eq_gap]
  · have ht : (s.answerTaken l).takeSlot l d = (s.answerTaken l).takeBadSlot l a := by
      rcases hd with ⟨hd, rfl⟩ | ⟨hd, rfl⟩
      · exact State.takeSlot_damaged hd l
      · exact State.takeSlot_undecodable hd l
    have hexec := ha.exec_eq hb
    rw [ht] at hexec
    refine ⟨_, hexec, ?_⟩
    by_cases hm : s.rc.mode = .seeking
    · rw [State.takeBadSlot_of_seeking hm]
      obtain ⟨htakes, hentries, hcku, honly⟩ := ha.setsLane (x := (s.lane l).skipped)
        (u := (s.answerTaken l).setLane l (s.lane l).skipped) ha.silent rfl rfl rfl
      exact ⟨hentries, honly, fun _ => htakes, fun _ => hcku, fun h => absurd hm h, fun h => absurd hm h⟩
    · cases hmask : (s.lane l).mask.group1 with
      | pass =>
        rw [State.takeBadSlot_of_pass hm hmask]
        obtain ⟨htakes, hentries, hraises, honly⟩ :=
          ha.setsLaneAndRaises (x := (s.lane l).skipped) ha.silent rfl _ rfl
        exact ⟨hentries, honly, fun _ => htakes, fun h => absurd h hm, fun _ _ => hraises, fun _ h => absurd h nofun⟩
      | hold =>
        rw [State.takeBadSlot_of_hold hm hmask]
        obtain ⟨htakes, hentries, hraises, honly⟩ :=
          ha.setsLaneAndRaises (x := (s.lane l).holdingSlot) ha.silent rfl _ rfl
        exact ⟨hentries, honly, fun h => absurd (h.resolve_left hm) nofun, fun h => absurd h hm,
          fun _ h => absurd h nofun,
          fun _ _ => ⟨htakes, hraises⟩⟩

end Sys2Proof.Machine
end

section
/-! PROOFS. The seek: its checkpoint's load, the load's end with or without a checkpoint, and the decision (R19, R20,
R21, R158, R159, R162). -/

namespace Sys2Proof.Machine

/-! What a load sets (R20, R21). -/

theorem Lane.fromSub_eq_afterSub (x : Lane) (sub : LaneSub) : x.fromSub sub = x.afterSub sub := by
  simp only [Lane.fromSub, Lane.afterSub, ClockModel.fromSub, clampOffset, clampDrift,
    clampInt_eq (lo := -Config.maxOffset) (hi := Config.maxOffset) (by decide),
    clampInt_eq (lo := -Config.maxDrift) (hi := Config.maxDrift) (by decide)]

theorem Lane.nominal_eq_withoutSub (x : Lane) : x.nominal = x.withoutSub :=
  rfl

theorem Device.fromSub_eq_afterSub (x : Device) (sub : DeviceSub) : x.fromSub sub = x.afterSub sub := by
  simp only [Device.fromSub, Device.afterSub, beq_iff_eq]

theorem Device.fromSubs_eq (x : Device) (subs : List DeviceSub) :
    x.fromSubs subs = match subs.find? fun sub => sub.device = x.number with
      | some sub => x.afterSub sub
      | none => x.withoutSub := by
  simp only [Device.fromSubs, Device.fromSub_eq_afterSub] <;> rfl

/-- A lane as the load leaves it, before the test of R37: as its first sub-record sets it, or nominal. -/
theorem Lane.loaded_of_ne {x : Lane} (h : x.state ≠ .disabled) (subs : List LaneSub) (l : Fin 16) :
    x.loaded subs l = match subs.find? fun sub => sub.lane = l.val with
      | some sub => x.afterSub sub
      | none => x.withoutSub := by
  have hc : x.configured = true := by simpa [Lane.configured] using h
  simp only [Lane.loaded, hc, if_true, Lane.fromSub_eq_afterSub, Lane.nominal_eq_withoutSub] <;> rfl

/-- A lane set by a load is READY or ENDED. -/
theorem Lane.loaded_state {x : Lane} (h : x.state ≠ .disabled) (subs : List LaneSub) (l : Fin 16) :
    (x.loaded subs l).state = .ready ∨ (x.loaded subs l).state = .ended := by
  rw [Lane.loaded_of_ne h]
  split
  · unfold Lane.afterSub
    dsimp only
    split <;> simp
  · unfold Lane.withoutSub
    dsimp only
    split <;> simp

/-- A lane that is not configured is left as it is. -/
theorem Lane.loaded_of_disabled {x : Lane} (h : x.state = .disabled) (subs : List LaneSub) (l : Fin 16) :
    x.loaded subs l = x := by
  simp [Lane.loaded, Lane.configured, h]

/-- A READY or ENDED lane under the test of R37. -/
theorem Lane.passTest_of_set {x : Lane} (h : x.state = .ready ∨ x.state = .ended) (windowEnd : Nat) :
    x.passTest windowEnd =
      if x.state = .ready ∧ windowEnd ≤ x.clock.lastCorrected then { x with state := .passed } else x := by
  rcases h with h | h <;> simp [Lane.passTest, h]

/-- A lane as the load leaves it behind the test of R37. -/
theorem Lane.passTest_loaded (x : Lane) (subs : List LaneSub) (l : Fin 16) (windowEnd : Nat) :
    (x.loaded subs l).passTest windowEnd = x.afterLoad subs l windowEnd := by
  unfold Lane.afterLoad
  by_cases h : x.state = .disabled
  · rw [if_pos h, Lane.loaded_of_disabled h]
    simp [Lane.passTest, h]
  · rw [if_neg h, Lane.passTest_of_set (Lane.loaded_state h subs l), Lane.loaded_of_ne h] <;> rfl

/-- No load leaves a lane WAITING, and none touches its silent event or what it holds. -/
theorem Lane.loaded_kept (x : Lane) (subs : List LaneSub) (l : Fin 16) :
    (x.loaded subs l).silent = x.silent ∧ (x.loaded subs l).held = x.held := by
  unfold Lane.loaded
  split
  · split <;> exact ⟨rfl, rfl⟩
  · exact ⟨rfl, rfl⟩

theorem Lane.afterLoad_ne_waiting (x : Lane) (subs : List LaneSub) (l : Fin 16) (windowEnd : Nat) :
    (x.afterLoad subs l windowEnd).state ≠ .waiting := by
  rw [← Lane.passTest_loaded]
  by_cases h : x.state = .disabled
  · simp [Lane.loaded_of_disabled h, Lane.passTest, h]
  · rw [Lane.passTest_of_set (Lane.loaded_state h subs l)]
    split
    · nofun
    · rcases Lane.loaded_state h subs l with hs | hs <;> rw [hs] <;> nofun

/-! The state behind a load, and the end of the command on it. -/

/-- The test of R37 changes the lanes and the merge queue alone. -/
theorem State.retestLanes_eq (s : State) :
    s.retestLanes = { s with afu.lanes := s.retestLanes.afu.lanes, mq := s.retestLanes.mq } := by
  obtain ⟨lanes, q, e⟩ : ∃ lanes q, s.retestLanes = { s with afu.lanes := lanes, mq := q } := by
    refine State.retestLanes_induct (P := fun u => ∃ lanes q, u = { s with afu.lanes := lanes, mq := q }) ?_ ⟨_, _, rfl⟩
    rintro _ l ⟨lanes, q, rfl⟩
    rcases State.retestLane_cases { s with afu.lanes := lanes, mq := q } l with ⟨e, -, -, h⟩ | ⟨e, -, -, h⟩ | ⟨-, h⟩ <;>
      exact ⟨_, _, h⟩
  rw [e]

/-- The state behind a load with these sub-records, SEEK_DEGRADED as given (R20, R21, R159). -/
def State.reloaded (s : State) (lanes : List LaneSub) (devices : List DeviceSub) (degraded : Bool) : State :=
  { s.loadSubs lanes devices with rc.seekDegraded := degraded }.retestLanes

/-- A seek whose lanes hold nothing: what the load's end leaves can be read off its lanes. -/
structure State.FrontClear (s : State) : Prop where
  silent : ∀ l, (s.lane l).silent = none
  held : ∀ l, (s.lane l).held = none

theorem State.reloaded_lane_mq {s : State} (h : s.FrontClear) (lanes : List LaneSub) (devices : List DeviceSub)
    (degraded : Bool) : (∀ l, (s.reloaded lanes devices degraded).lane l = (s.lane l).afterLoad lanes l s.pu.windowEnd) ∧
      (s.reloaded lanes devices degraded).mq = s.mq := by
  have hnone : ∀ l, ((s.lane l).loaded lanes l).resumesRecord s.pu.windowEnd = none := fun l => by
    simp [Lane.resumesRecord, Lane.releasedRecord, Lane.loaded_kept, h.held l]
  have hl : ∀ l, State.lane { s.loadSubs lanes devices with rc.seekDegraded := degraded } l =
      (s.lane l).loaded lanes l := s.lane_loadSubs lanes devices
  obtain ⟨hlane, hmq⟩ := State.retestLanes_of_none (s := { s.loadSubs lanes devices with rc.seekDegraded := degraded })
    fun l => by rw [hl]; exact hnone l
  exact ⟨fun l => by rw [State.reloaded, hlane, hl]; exact Lane.passTest_loaded _ _ _ _,
    hmq.trans (s.loadSubs_mq lanes devices)⟩

theorem State.reloaded_eq {s : State} (h : s.FrontClear) (lanes : List LaneSub) (devices : List DeviceSub)
    (degraded : Bool) : s.reloaded lanes devices degraded = { s with
      afu := { s.afu with lanes := (s.reloaded lanes devices degraded).afu.lanes, checkpoint := none }
      dst := s.dst.loadDevices devices
      rc := { s.rc with seekDegraded := degraded } } := by
  obtain ⟨loaded, hload⟩ : ∃ loaded, s.loadSubs lanes devices = { s with
      afu := { s.afu with lanes := loaded, checkpoint := none }, dst := s.dst.loadDevices devices } := ⟨_, rfl⟩
  have hmq := (State.reloaded_lane_mq h lanes devices degraded).2
  rw [State.reloaded, hload] at hmq ⊢
  rw [State.retestLanes_eq, hmq]

/-- On an idle port a load has set lanes, device table and port (R20, R21). -/
theorem State.loadSets_reloaded {s : State} (h : s.FrontClear) (hq : s.afu.request = none) (hw : s.afu.words = [])
    (lanes : List LaneSub) (devices : List DeviceSub) (degraded : Bool) :
    s.LoadSets (s.reloaded lanes devices degraded) lanes devices := by
  refine ⟨(State.reloaded_lane_mq h lanes devices degraded).1, ?_, ?_, ?_⟩ <;> rw [State.reloaded_eq h]
  · simp only [Dst.loadDevices, Device.fromSubs_eq] <;> rfl
  · dsimp only
    rw [hq, hw]
  · exact ⟨rfl, rfl, rfl, rfl⟩

/-- An empty front applies nothing. -/
theorem State.drainFront_of_empty {s : State} (h : ∀ l, (s.lane l).silent = none) (n : Nat) :
    State.drainFront n s = s := by
  cases n with
  | zero => rfl
  | succ n =>
    rw [State.drainFront, State.lowestSilent_of_empty h]
    simp

/-- A seek that is complete drives the hold line, in PAUSED by its gather and in RUNNING by its close pulse (R105). -/
theorem State.driveFor_completeSeek (s : State) (c : CutRecord) :
    State.driveFor { s.completeSeek with mq.cut := c } = .dominant := by
  cases h : s.rc.modeAfterSeek <;> simp [State.driveFor, State.completeSeek, AfterSeek.mode, State.mayRelease, h]

/-- The end of a command on a complete seek changes the cut record and the drive alone. -/
theorem State.settle_completeSeek (s : State) :
    s.completeSeek.settle =
      { s.completeSeek with mq.cut := s.completeSeek.settleCut.mq.cut, pu.drive := .dominant } := by
  have hm : s.completeSeek.rc.mode ≠ .seeking := by
    cases h : s.rc.modeAfterSeek <;> simp [State.completeSeek, AfterSeek.mode, h]
  have e : s.completeSeek.settle = s.completeSeek.settleCut.refreshDrive := by
    rw [State.settle, State.settleSeek_of_ne hm]
  have hd := s.driveFor_completeSeek s.completeSeek.settleCut.mq.cut
  rw [← State.settleCut_eq] at hd
  rw [e, State.refreshDrive, hd, State.settleCut_eq]

/-- A silent replay without a silent event and without a lane to read completes at the end of the command (R162). -/
theorem State.settle_of_seekEnds {s : State} (hm : s.rc.mode = .seeking) (hc : s.afu.checkpoint = none)
    (hs : ∀ l, (s.lane l).silent = none) (hr : ∀ l, (s.lane l).state ≠ .ready ∧ (s.lane l).state ≠ .waiting) :
    s.settle = { s.completeSeek with mq.cut := s.completeSeek.settleCut.mq.cut, pu.drive := .dominant } := by
  have hread : s.anyReading = false := by
    rw [Bool.eq_false_iff, ne_eq, State.anyReading_iff]
    rintro ⟨l, h⟩
    exact h.elim (hr l).1 (hr l).2
  have hempty : s.frontEmpty = true := by
    rw [State.frontEmpty, State.allLanes_iff]
    exact fun l => by simp [hs l]
  have hseek : s.settleSeek = s.completeSeek := by
    simp [State.settleSeek, State.replaysSilently, hm, hc, State.drainFront_of_empty hs, State.finishReplay, hread, hempty]
  have hd := s.driveFor_completeSeek s.completeSeek.settleCut.mq.cut
  rw [← State.settleCut_eq] at hd
  rw [State.settle, hseek, State.refreshDrive, hd, State.settleCut_eq]

/-- In SEEKING an absent cut record stays absent (R74). -/
theorem State.settleCut_of_seeking {s : State} (hm : s.rc.mode = .seeking) (h : s.mq.cut = .absent) : s.settleCut = s := by
  simp [State.settleCut, h, State.cutDue, hm, Mode.replaying]

/-! The load's end (R159). -/

/-- A seek whose load is about to end, on an idle port and with clear lanes. -/
structure State.LoadEnding (s : State) : Prop where
  mode : s.rc.mode = .seeking
  front : s.FrontClear
  request : s.afu.request = none
  words : s.afu.words = []

/-- The load's end below the seek time: SEEK_DEGRADED is set, and the replay goes on or has nothing to read. -/
theorem State.LoadEnding.degraded {s : State} (h : s.LoadEnding) (lanes : List LaneSub) (devices : List DeviceSub)
    (atSeekTime : Prop) (hat : ¬atSeekTime) :
    s.LoadSets (s.reloaded lanes devices true).settle lanes devices ∧
      s.SeekDecides (s.reloaded lanes devices true).settle atSeekTime := by
  have hsets := State.loadSets_reloaded h.front h.request h.words lanes devices true
  have heq := State.reloaded_eq h.front lanes devices true
  have hrc : (s.reloaded lanes devices true).rc = { s.rc with seekDegraded := true } := by rw [heq]
  have hpu : (s.reloaded lanes devices true).pu = s.pu := by rw [heq]
  have hck : (s.reloaded lanes devices true).afu.checkpoint = none := by rw [heq]
  have hsilent : ∀ l, ((s.reloaded lanes devices true).lane l).silent = none := fun l => by
    rw [hsets.lanes l, ← Lane.passTest_loaded, Lane.passTest_eq]
    exact (Lane.loaded_kept _ _ _).1.trans (h.front.silent l)
  have hwait : ∀ l, ((s.reloaded lanes devices true).lane l).state ≠ .waiting := fun l => by
    rw [hsets.lanes l]
    exact Lane.afterLoad_ne_waiting _ _ _ _
  generalize s.reloaded lanes devices true = v at hsets hrc hpu hck hsilent hwait
  have hm : v.rc.mode = .seeking := by rw [hrc]; exact h.mode
  by_cases hready : ∃ l, (v.lane l).state = .ready
  · obtain ⟨l, hl⟩ := hready
    rw [State.settle_of_seekWaits hm (.inr ⟨l, .inl hl, .inl hsilent⟩)]
    refine ⟨{ hsets with }, fun ha => absurd ha hat, fun _ _ => ⟨hrc, ?_⟩, fun _ hn => absurd hl (hn l)⟩
    dsimp only
    rw [hpu]
  · rw [State.settle_of_seekEnds hm hck hsilent fun l => ⟨fun hl => hready ⟨l, hl⟩, hwait l⟩]
    refine ⟨{ hsets with }, fun ha => absurd ha hat, fun _ hl => absurd hl hready, fun _ _ => ⟨?_, ?_⟩⟩
    · dsimp only [State.completeSeek]
      rw [hrc]
      cases s.rc.modeAfterSeek <;> rfl
    · dsimp only [State.completeSeek]
      rw [hpu]

/-- The load's end at exactly the seek time: the seek completes at once. -/
theorem State.LoadEnding.atTime {s : State} (h : s.LoadEnding) (lanes : List LaneSub) (devices : List DeviceSub)
    (atSeekTime : Prop) (hat : atSeekTime) :
    s.LoadSets (s.reloaded lanes devices s.rc.seekDegraded).completeSeek.settle lanes devices ∧
      s.SeekDecides (s.reloaded lanes devices s.rc.seekDegraded).completeSeek.settle atSeekTime := by
  have hsets := State.loadSets_reloaded h.front h.request h.words lanes devices s.rc.seekDegraded
  have heq := State.reloaded_eq h.front lanes devices s.rc.seekDegraded
  have hrc : (s.reloaded lanes devices s.rc.seekDegraded).rc = s.rc := by rw [heq]
  have hpu : (s.reloaded lanes devices s.rc.seekDegraded).pu = s.pu := by rw [heq]
  generalize s.reloaded lanes devices s.rc.seekDegraded = v at hsets hrc hpu
  rw [State.settle_completeSeek]
  refine ⟨{ hsets with }, fun _ => ⟨?_, ?_⟩, fun hn => absurd hat hn, fun hn => absurd hat hn⟩
  · dsimp only [State.completeSeek]
    rw [hrc]
    cases s.rc.modeAfterSeek <;> rfl
  · dsimp only [State.completeSeek]
    rw [hpu]

theorem State.LoadEnding.fromNominal {s : State} (h : s.LoadEnding) :
    s.LoadSets s.replayFromNominal.settle [] [] ∧ s.SeekDecides s.replayFromNominal.settle False :=
  h.degraded [] [] False id

/-- The decision of R159, in the states behind the load. -/
theorem State.replayFromCheckpoint_eq (s : State) (c : CheckpointLoad) :
    s.replayFromCheckpoint c =
      if c.entry.time = s.rc.seekTime then
        (s.reloaded c.lanes.reverse c.devices.reverse s.rc.seekDegraded).completeSeek
      else s.reloaded c.lanes.reverse c.devices.reverse true :=
  rfl

theorem State.LoadEnding.fromCheckpoint {s : State} (h : s.LoadEnding) (c : CheckpointLoad) :
    s.LoadSets (s.replayFromCheckpoint c).settle c.lanes.reverse c.devices.reverse ∧
      s.SeekDecides (s.replayFromCheckpoint c).settle (c.entry.time = s.rc.seekTime) := by
  rw [State.replayFromCheckpoint_eq]
  split
  next hat => exact h.atTime _ _ _ hat
  next hat => exact h.degraded _ _ _ hat

end Sys2Proof.Machine
end

section
/-! PROOFS. The checkpoint's slots and the commands that begin or end its load (R19, R20, R21, R158, R159). -/

namespace Sys2Proof.Machine

/-! An unusable checkpoint (R19). -/

/-- A load's end is the same from the state before the read has been dropped. -/
theorem State.LoadSets.of_dropRead {s t : State} {lanes : List LaneSub} {devices : List DeviceSub}
    (h : s.dropRead.LoadSets t lanes devices) : s.LoadSets t lanes devices :=
  ⟨h.lanes, h.devices, h.port, h.kept⟩

theorem State.SeekDecides.of_dropRead {s t : State} {atSeekTime : Prop} (h : s.dropRead.SeekDecides t atSeekTime) :
    s.SeekDecides t atSeekTime :=
  ⟨fun ha => ⟨(h.atTime ha).rc, (h.atTime ha).pu⟩, h.goesOn,
    fun ha hl => ⟨(h.atOnce ha hl).rc, (h.atOnce ha hl).pu⟩⟩

/-- The command that brings a slot of the checkpoint. -/
theorem State.exec_checkpointSlotAnswer {s : State} {words : List PortWord} {d : Slot} {c : CheckpointLoad} {n : Nat}
    {retry : Bool} (hr : s.inReset = false) (hb : s.Brings words d)
    (hq : s.afu.request = some { owner := .checkpoint, slot := n, retry := retry }) (hc : s.afu.checkpoint = some c) :
    exec (.checkpointSlotAnswer words) s = .next (s.checkpointAnswer c d).settle := by
  simp only [exec, execCheckpointSlotAnswer, State.whenLive_live hr, hq, hc, hb.takeWords_eq]

/-- An erased slot, or one that fails its byte XOR, is refused at once. -/
theorem CheckpointLoad.takeSlot_of_bad {c : CheckpointLoad} {d : Slot} (h : d = BitVec.allOnes 256 ∨ xorBytes d ≠ 0#8)
    (area : Nat) : c.takeSlot area d = none := by
  have hbad : (erased d || xorBytes d != 0#8) = true := by simpa [erased] using h
  rw [CheckpointLoad.takeSlot, if_pos hbad]

/-- A whole slot is dealt with by its place in the record. -/
theorem CheckpointLoad.takeSlot_of_whole {c : CheckpointLoad} {d : Slot} (he : d ≠ BitVec.allOnes 256)
    (hx : xorBytes d = 0#8) (area : Nat) :
    c.takeSlot area d = (if c.taken = 0 then c.takeHeader area d
      else if c.taken ≤ 2 * c.laneCount then c.takeLaneSlot d else c.takeDeviceSlot d).map
        fun c => { c with taken := c.taken + 1 } := by
  have hgood : ¬(erased d || xorBytes d != 0#8) = true := by simpa [erased, hx] using he
  rw [CheckpointLoad.takeSlot, if_neg hgood]

theorem CheckpointLoad.takeHeader_eq (c : CheckpointLoad) (area : Nat) (d : Slot) :
    c.takeHeader area d =
      if natAt d 0 5 = c.entry.time ∧ natAt d 5 1 ≤ 16 ∧ natAt d 6 2 ≤ 1024 ∧
          c.entry.slot + (1 + 2 * natAt d 5 1 + natAt d 6 2) ≤ area then
        some { c with laneCount := natAt d 5 1, deviceCount := natAt d 6 2 }
      else none :=
  rfl

/-- A position by its code, as the place in the list of Table 11-5. -/
theorem Position.ofCode_eq (n : Nat) :
    Position.ofCode n = [Position.opened, .closed, .travel, .unknown][n]? := by
  unfold Position.ofCode
  split <;> simp_all
  omega

/-- What makes a checkpoint unusable (R19). -/
theorem CheckpointLoad.takeSlot_eq_none {c : CheckpointLoad} {d : Slot} {area : Nat}
    (h : d = BitVec.allOnes 256 ∨ xorBytes d ≠ 0#8 ∨
      c.taken = 0 ∧ (natAt d 0 5 ≠ c.entry.time ∨ 16 < natAt d 5 1 ∨ 1024 < natAt d 6 2 ∨
        area < c.entry.slot + (1 + 2 * natAt d 5 1 + natAt d 6 2)) ∨
      1 ≤ c.taken ∧ c.taken ≤ 2 * c.laneCount ∧ c.firstSlot = none ∧ 16 ≤ natAt d 0 1 ∨
      2 * c.laneCount < c.taken ∧ (natAt d 0 2 = 0 ∨ natAt d 0 2 = 65535 ∨ 3 < natAt d 2 1)) :
    c.takeSlot area d = none := by
  by_cases he : d = BitVec.allOnes 256
  · exact CheckpointLoad.takeSlot_of_bad (.inl he) area
  by_cases hx : xorBytes d = 0#8
  · rw [CheckpointLoad.takeSlot_of_whole he hx, Option.map_eq_none_iff]
    rcases h with h | h | ⟨h0, hbad⟩ | ⟨hlo, hhi, hfirst, hlane⟩ | ⟨hlo, hbad⟩
    · exact absurd h he
    · exact absurd hx h
    · rw [if_pos h0, CheckpointLoad.takeHeader_eq, if_neg (by omega)]
    · rw [if_neg (by omega), if_pos hhi, CheckpointLoad.takeLaneSlot, hfirst]
      exact if_neg (by omega)
    · have hsub : deviceSubOf d = none := by
        unfold deviceSubOf
        split
        · rfl
        next position hp =>
          have hcode : ¬3 < natAt d 2 1 := fun h3 => by
            rw [Position.ofCode_eq, List.getElem?_eq_none (by exact h3)] at hp
            cases hp
          exact if_pos (by omega)
      rw [if_neg (by omega), if_neg (by omega), CheckpointLoad.takeDeviceSlot, hsub]
  · exact CheckpointLoad.takeSlot_of_bad (.inr hx) area

/-- Settles O24: each cause ends the load from nominal values, on the port of the dropped read. -/
theorem unusableCheckpointLeavesNominalValues : Obligations.UnusableCheckpointLeavesNominalValues := by
  intro words d s c n retry hr hq hc hm hclear
  have hending : s.dropRead.LoadEnding := ⟨hm, ⟨fun l => (hclear l).1, fun l => (hclear l).2⟩, rfl, rfl⟩
  obtain ⟨hsets, hdecides⟩ := hending.fromNominal
  refine ⟨fun hb hbad => ⟨_, State.exec_checkpointSlotAnswer hr hb hq hc, ?_⟩, ?_⟩
  · rw [State.checkpointAnswer, CheckpointLoad.takeSlot_eq_none hbad]
    exact ⟨hsets.of_dropRead, hdecides.of_dropRead⟩
  · rintro rfl
    exact ⟨_, State.exec_retryTimeout hr hq, hsets.of_dropRead, hdecides.of_dropRead⟩

/-! The beginning of a seek (R158, R159). -/

/-- The blocks as a SEEK sets them, the hold line driven: the state that the seek's load begins from. -/
def State.seekStart (s : State) (time : Nat) : State :=
  { s.seekBlocks time with pu.drive := .dominant }

theorem State.seekSetsBlocks (s : State) (time : Nat) : s.SeekSetsBlocks (s.seekStart time) time := by
  refine ⟨rfl, rfl, rfl, by simp [State.seekStart], rfl, fun l => ?_⟩
  refine (s.lane_seekBlocks time l).trans ?_
  unfold Lane.seekReset Lane.configured
  by_cases h : (s.lane l).state = .disabled <;> simp [h]

/-- The latest entry at or below a time, with none behind it at or below (R159). -/
theorem State.chooseCheckpoint_eq_some {s : State} {e : DirEntry} {earlier later : List DirEntry} {time : Nat}
    (hdir : s.afu.directory = earlier ++ e :: later) (he : e.time ≤ time) (hlater : ∀ x ∈ later, time < x.time) :
    s.chooseCheckpoint time = some e := by
  have hnone : later.filter (fun x => decide (x.time ≤ time)) = [] :=
    List.filter_eq_nil_iff.2 fun x hx => by simpa using hlater x hx
  simp [State.chooseCheckpoint, hdir, List.filter_append, he, hnone]

theorem State.chooseCheckpoint_eq_none {s : State} {time : Nat} (h : ∀ x ∈ s.afu.directory, time < x.time) :
    s.chooseCheckpoint time = none := by
  have hnone : s.afu.directory.filter (fun x => decide (x.time ≤ time)) = [] :=
    List.filter_eq_nil_iff.2 fun x hx => by simpa using h x hx
  simp [State.chooseCheckpoint, hnone]

/-- The drive of the hold line takes no part in the load's end. -/
theorem State.LoadSets.of_drive {s t : State} {lanes : List LaneSub} {devices : List DeviceSub}
    (h : s.LoadSets t lanes devices) (drive : Drive) : State.LoadSets { s with pu.drive := drive } t lanes devices :=
  ⟨h.lanes, h.devices, h.port, h.kept⟩

theorem State.SeekDecides.of_drive {s t : State} {atSeekTime : Prop} (h : s.SeekDecides t atSeekTime) (drive : Drive) :
    State.SeekDecides { s with pu.drive := drive } t atSeekTime :=
  ⟨fun ha => ⟨(h.atTime ha).rc, (h.atTime ha).pu⟩, h.goesOn,
    fun ha hl => ⟨(h.atOnce ha hl).rc, (h.atOnce ha hl).pu⟩⟩

/-- The load of a checkpoint begins with its header slot: the end of the command only drives the line. -/
theorem State.settle_beginsLoad {s : State} (hm : s.rc.mode = .seeking) (hcut : s.mq.cut = .absent) (c : CheckpointLoad)
    (slot : Nat) : (State.issueRead { s with afu.checkpoint := some c } .checkpoint slot false).settle =
      State.issueRead { s with afu.checkpoint := some c, pu.drive := .dominant } .checkpoint slot false := by
  rw [State.settle_of_seekWaits (by exact hm) (.inl (by simp)), State.settleCut_of_seeking (by exact hm) (by exact hcut)]
  rfl

/-- A seek to a time, in the command that begins it. -/
theorem State.seeks_beginSeek (s : State) (time : Nat) : s.Seeks (s.beginSeek time).settle time := by
  refine ⟨s.seekStart time, s.seekSetsBlocks time, fun e earlier later hdir he hlater => ?_, fun hnone hclear => ?_⟩
  · have hchoose : (s.seekBlocks time).chooseCheckpoint time = some e :=
      State.chooseCheckpoint_eq_some (by rwa [State.seekBlocks_afu_directory]) he hlater
    have hbegin : s.beginSeek time = State.issueRead
        { s.seekBlocks time with
          afu.checkpoint := some
            { entry := e, taken := 0, laneCount := 0, deviceCount := 0, firstSlot := none, lanes := [], devices := [] } }
        .checkpoint e.slot false := by
      have htime : (s.seekBlocks time).rc.seekTime = time := rfl
      rw [State.beginSeek, State.beginLoad, htime, hchoose]
    rw [hbegin, State.settle_beginsLoad (s := s.seekBlocks time) (by simp) (by simp)]
    exact ⟨rfl, _, rfl, rfl, rfl, rfl, rfl, rfl⟩
  · have hchoose : (s.seekBlocks time).chooseCheckpoint time = none :=
      State.chooseCheckpoint_eq_none (s := s.seekBlocks time) (by rwa [State.seekBlocks_afu_directory])
    have hbegin : s.beginSeek time = (s.seekBlocks time).replayFromNominal := by
      have : (s.seekBlocks time).rc.seekTime = time := rfl
      rw [State.beginSeek, State.beginLoad, this, hchoose]
    have hlane : ∀ l, ((s.seekBlocks time).lane l).silent = none ∧ ((s.seekBlocks time).lane l).held = none := fun l => by
      rw [State.lane_seekBlocks]
      unfold Lane.seekReset
      split
      · exact ⟨rfl, rfl⟩
      next h => exact (hclear l (by simpa [Lane.configured] using h)).symm
    have hending : (s.seekBlocks time).LoadEnding := ⟨rfl, ⟨fun l => (hlane l).1, fun l => (hlane l).2⟩, rfl, rfl⟩
    obtain ⟨hsets, hdecides⟩ := hending.fromNominal
    rw [hbegin]
    exact ⟨hsets.of_drive _, hdecides.of_drive _⟩

/-- Settles O45: the command takes the frame and begins the seek. -/
theorem seekSetsTheBlocksAndReadsTheCheckpoint : Obligations.SeekSetsTheBlocksAndReadsTheCheckpoint := by
  intro s f rest a time ht hf htime
  have hfront : s.frontCommand 4 = some a :=
    State.frontCommand_eq_some.2 ⟨f, State.frontFrame_eq_some.2 ⟨ht.live, ht.mode, by rw [ht.front]; rfl⟩,
      hf.body, hf.code⟩
  have hpop : s.popInbound = { s with biu.inbound := rest } := by rw [State.popInbound, ht.front]; rfl
  have harg : seekArg a = time := htime.symm
  refine ⟨_, ?_, State.seeks_beginSeek _ time⟩
  simp only [exec, execSeek, State.whenLive_live ht.live, hfront, hpop, harg]

end Sys2Proof.Machine
end

section
/-! PROOFS. The slots of a usable checkpoint (R19, R20, R21, R159). -/

namespace Sys2Proof.Machine

/-! What a whole slot says of the checkpoint, by its place in the record. -/

/-- A slot that keeps the checkpoint usable leaves its load at `c'`, and completes the sub-record of a lane or of a device,
each with effect only when no earlier one names the same (R20, R21). -/
structure CheckpointLoad.Takes (c : CheckpointLoad) (area : Nat) (d : Slot) (c' : CheckpointLoad) (lane : Option LaneSub)
    (device : Option DeviceSub) : Prop where
  next : c.takeSlot area d = some c'
  entry : c'.entry = c.entry
  lane : c.newLane d = lane.bind fun sub => if c.lanes.any fun x => x.lane == sub.lane then none else some sub
  device : c.newDevice d = device.bind fun sub => if c.devices.any fun x => x.device == sub.device then none else some sub

section
variable {c : CheckpointLoad} {d : Slot} {area : Nat} (he : d ≠ BitVec.allOnes 256) (hx : xorBytes d = 0#8)
include he hx

theorem CheckpointLoad.takes_header (h0 : c.taken = 0) (htime : natAt d 0 5 = c.entry.time) (hlanes : natAt d 5 1 ≤ 16)
    (hdevices : natAt d 6 2 ≤ 1024) (harea : c.entry.slot + (1 + 2 * natAt d 5 1 + natAt d 6 2) ≤ area) :
    c.Takes area d { c with laneCount := natAt d 5 1, deviceCount := natAt d 6 2, taken := 1 } none none := by
  refine ⟨?_, rfl, by simp [CheckpointLoad.newLane, h0], by simp [CheckpointLoad.newDevice, h0]⟩
  rw [CheckpointLoad.takeSlot_of_whole he hx, if_pos h0, CheckpointLoad.takeHeader_eq,
    if_pos ⟨htime, hlanes, hdevices, harea⟩, Option.map_some, h0]

theorem CheckpointLoad.takes_firstSlot (hlo : 1 ≤ c.taken) (hhi : c.taken ≤ 2 * c.laneCount) (hfirst : c.firstSlot = none)
    (hlane : natAt d 0 1 ≤ 15) :
    c.Takes area d { c with firstSlot := some d, taken := c.taken + 1 } none none := by
  have h0 : ¬c.taken = 0 := by omega
  refine ⟨?_, rfl, ?_, by simp [CheckpointLoad.newDevice, hhi]⟩
  · rw [CheckpointLoad.takeSlot_of_whole he hx, if_neg h0, if_pos hhi, CheckpointLoad.takeLaneSlot, hfirst]
    dsimp only
    rw [if_pos (by omega), Option.map_some]
  · rw [CheckpointLoad.newLane, if_neg (by omega), hfirst]
    rfl

theorem CheckpointLoad.takes_secondSlot (hlo : 1 ≤ c.taken) (hhi : c.taken ≤ 2 * c.laneCount) {first : Slot}
    (hfirst : c.firstSlot = some first) :
    c.Takes area d { c with firstSlot := none, lanes := laneSubOf first d :: c.lanes, taken := c.taken + 1 }
      (some (laneSubOf first d)) none := by
  have h0 : ¬c.taken = 0 := by omega
  refine ⟨?_, rfl, ?_, by simp [CheckpointLoad.newDevice, hhi]⟩
  · rw [CheckpointLoad.takeSlot_of_whole he hx, if_neg h0, if_pos hhi, CheckpointLoad.takeLaneSlot, hfirst]
    rfl
  · rw [CheckpointLoad.newLane, if_neg (by omega), hfirst]
    rfl

theorem CheckpointLoad.takes_device (hlo : 2 * c.laneCount < c.taken) {sub : DeviceSub} (hsub : deviceSubOf d = some sub) :
    c.Takes area d { c with devices := sub :: c.devices, taken := c.taken + 1 } none (some sub) := by
  refine ⟨?_, rfl, by simp [CheckpointLoad.newLane, hlo], ?_⟩
  · rw [CheckpointLoad.takeSlot_of_whole he hx, if_neg (by omega), if_neg (by omega), CheckpointLoad.takeDeviceSlot, hsub]
    rfl
  · rw [CheckpointLoad.newDevice, if_neg (by omega), hsub]
    rfl

end

/-- A device sub-record by its bytes (Table 11-5). -/
theorem deviceSubOf_eq_some {d : Slot} {sub : DeviceSub} (hlo : 1 ≤ natAt d 0 2) (hhi : natAt d 0 2 ≤ 65534)
    (hpos : [Position.opened, .closed, .travel, .unknown][natAt d 2 1]? = some sub.position)
    (hsub : sub =
      { device := bytesAt d 0 2, position := sub.position, lockout := (bytesAt d 3 1).getLsbD 0
        pickup := (bytesAt d 3 1).getLsbD 1, operations := natAt d 4 2, travelStart := natAt d 6 5 }) :
    deviceSubOf d = some sub := by
  rw [deviceSubOf, Position.ofCode_eq, hpos]
  dsimp only
  rw [if_neg (by omega), ← hsub]

/-! What the slot sets as it is read, and that the load's end sets it again. -/

theorem Lane.setBy_first (x : Lane) (l : Fin 16) (lane : Option LaneSub) (earlier : List LaneSub) :
    Lane.setBy (lane.bind fun sub => if earlier.any fun y => y.lane == sub.lane then none else some sub) l x =
      match lane with
      | none => x
      | some sub =>
        if x.state ≠ .disabled ∧ sub.lane = l.val ∧ (∀ y ∈ earlier, y.lane ≠ sub.lane) then x.afterSub sub else x := by
  cases lane with
  | none => rfl
  | some sub =>
    rw [Option.bind_some]
    by_cases hany : (earlier.any fun y => y.lane == sub.lane) = true
    · rw [if_pos hany]
      have : ¬∀ y ∈ earlier, y.lane ≠ sub.lane := by simpa using hany
      exact (if_neg fun h => this h.2.2).symm
    · rw [if_neg hany]
      have hnew : ∀ y ∈ earlier, y.lane ≠ sub.lane := by simpa using hany
      simp only [Lane.setBy, Lane.configured, Bool.and_eq_true, bne_iff_ne, beq_iff_eq, Lane.fromSub_eq_afterSub]
      exact if_congr ⟨fun h => ⟨h.1, h.2, hnew⟩, fun h => ⟨h.1, h.2.1⟩⟩ rfl rfl

theorem Dst.setBy_first (t : Dst) (device : Option DeviceSub) (earlier : List DeviceSub) :
    t.setBy (device.bind fun sub => if earlier.any fun y => y.device == sub.device then none else some sub) =
      match device with
      | none => t
      | some sub =>
        if ∀ y ∈ earlier, y.device ≠ sub.device then
          { t with devices := t.devices.map fun x => if x.number = sub.device then x.afterSub sub else x }
        else t := by
  cases device with
  | none => rfl
  | some sub =>
    rw [Option.bind_some]
    by_cases hany : (earlier.any fun y => y.device == sub.device) = true
    · rw [if_pos hany]
      have : ¬∀ y ∈ earlier, y.device ≠ sub.device := by simpa using hany
      exact (if_neg this).symm
    · rw [if_neg hany]
      have hnew : ∀ y ∈ earlier, y.device ≠ sub.device := by simpa using hany
      dsimp only
      rw [if_pos hnew]
      simp only [Dst.setBy, Dst.update, beq_iff_eq, Device.fromSub_eq_afterSub]

/-- The load's end sets a lane whatever a slot has set of it before. -/
theorem Lane.loaded_setBy (x : Lane) (l : Fin 16) (sub : Option LaneSub) (subs : List LaneSub) :
    (Lane.setBy sub l x).loaded subs l = x.loaded subs l := by
  unfold Lane.setBy
  split
  · rfl
  next sub =>
    split
    next h =>
      have hx : x.configured = true := (Bool.and_eq_true_iff.1 h).1
      have hy : (x.fromSub sub).configured = true := by
        unfold Lane.fromSub Lane.configured
        dsimp only
        split <;> rfl
      unfold Lane.loaded
      rw [hx, hy]
      cases subs.find? fun sub => sub.lane == l.val <;> rfl
    next => rfl

theorem Lane.setBy_kept (x : Lane) (l : Fin 16) (sub : Option LaneSub) :
    (Lane.setBy sub l x).silent = x.silent ∧ (Lane.setBy sub l x).held = x.held := by
  unfold Lane.setBy
  split
  · exact ⟨rfl, rfl⟩
  · split <;> exact ⟨rfl, rfl⟩

theorem Device.fromSubs_fromSub (x : Device) (sub : DeviceSub) (subs : List DeviceSub) :
    (x.fromSub sub).fromSubs subs = x.fromSubs subs := by
  unfold Device.fromSubs
  have hn : (x.fromSub sub).number = x.number := rfl
  rw [hn]
  cases subs.find? fun y => y.device == x.number <;> rfl

/-- The load's end sets the device table whatever a slot has set of it before. -/
theorem Dst.loadDevices_setBy (t : Dst) (sub : Option DeviceSub) (subs : List DeviceSub) :
    (t.setBy sub).loadDevices subs = t.loadDevices subs := by
  cases sub with
  | none => rfl
  | some sub =>
    simp only [Dst.setBy, Dst.update, Dst.loadDevices, List.map_map, Dst.mk.injEq, and_true]
    refine List.map_congr_left fun x _ => ?_
    rw [Function.comp_apply]
    split
    · exact x.fromSubs_fromSub sub subs
    · rfl

theorem Dst.loadDevices_eq (t : Dst) (subs : List DeviceSub) :
    t.loadDevices subs = { t with
      devices := t.devices.map fun x =>
        match subs.find? fun sub => sub.device = x.number with
        | some sub => x.afterSub sub
        | none => x.withoutSub } := by
  simp only [Dst.loadDevices, Device.fromSubs_eq] <;> rfl

/-- A slot sets at most lanes and device table. -/
theorem State.setFromSlot_eq (s : State) (c : CheckpointLoad) (d : Slot) :
    s.setFromSlot c d = { s with
      afu.lanes := (s.setFromSlot c d).afu.lanes, dst := s.dst.setBy (c.newDevice d) } :=
  rfl

/-- In SEEKING an absent cut record stays absent (R74). -/
theorem State.settleCut_absent_of_seeking {s : State} (hm : s.rc.mode = .seeking) (h : s.mq.cut = .absent) :
    s.settleCut.mq.cut = .absent := by
  rw [State.settleCut_of_seeking hm h, h]

/-- The next slot of the record is read while the seek waits for its load (R19). -/
theorem State.checkpointReads_setFromSlot {s : State} (hm : s.rc.mode = .seeking) (c c' : CheckpointLoad) (d : Slot)
    (ht : c'.taken < c'.slots) :
    s.CheckpointReads ((s.setFromSlot c d).nextCheckpoint c').settle c' ∧
      (∀ l, ((s.setFromSlot c d).nextCheckpoint c').settle.lane l = Lane.setBy (c.newLane d) l (s.lane l)) ∧
      ((s.setFromSlot c d).nextCheckpoint c').settle.dst = s.dst.setBy (c.newDevice d) := by
  have hlane := s.lane_setFromSlot c d
  obtain ⟨loaded, hset⟩ : ∃ loaded, s.setFromSlot c d =
    { s with afu.lanes := loaded, dst := s.dst.setBy (c.newDevice d) } := ⟨_, s.setFromSlot_eq c d⟩
  rw [hset] at hlane ⊢
  rw [State.nextCheckpoint, if_pos ht, State.settle_of_seekWaits (by exact hm) (.inl (by simp))]
  refine ⟨⟨rfl, ⟨rfl, rfl, rfl, rfl, rfl⟩, fun hcut => ?_, rfl⟩, hlane, rfl⟩
  dsimp only
  exact State.settleCut_absent_of_seeking (by exact hm) (by exact hcut)

/-- The last slot ends the load, from the state before it (R20, R21, R159). -/
theorem State.loadSets_setFromSlot {s : State} (hm : s.rc.mode = .seeking) (hf : s.FrontClear) (c c' : CheckpointLoad)
    (d : Slot) (ht : ¬c'.taken < c'.slots) :
    s.LoadSets ((s.setFromSlot c d).nextCheckpoint c').settle c'.lanes.reverse c'.devices.reverse ∧
      s.SeekDecides ((s.setFromSlot c d).nextCheckpoint c').settle (c'.entry.time = s.rc.seekTime) := by
  have hlane := s.lane_setFromSlot c d
  obtain ⟨loaded, hset⟩ : ∃ loaded, s.setFromSlot c d =
    { s with afu.lanes := loaded, dst := s.dst.setBy (c.newDevice d) } := ⟨_, s.setFromSlot_eq c d⟩
  rw [State.nextCheckpoint, if_neg ht]
  rw [hset] at hlane ⊢
  generalize hu : State.dropRead { s with afu.lanes := loaded, dst := s.dst.setBy (c.newDevice d) } = u
  have hl : ∀ l, u.lane l = Lane.setBy (c.newLane d) l (s.lane l) := fun l => by rw [← hu]; exact hlane l
  have hending : u.LoadEnding := by
    refine ⟨by rw [← hu]; exact hm, ⟨fun l => ?_, fun l => ?_⟩, by rw [← hu]; rfl, by rw [← hu]; rfl⟩ <;> rw [hl]
    · exact (Lane.setBy_kept _ _ _).1.trans (hf.silent l)
    · exact (Lane.setBy_kept _ _ _).2.trans (hf.held l)
  obtain ⟨hsets, hdecides⟩ := hending.fromCheckpoint c'
  generalize (u.replayFromCheckpoint c').settle = t at hsets hdecides
  refine ⟨⟨fun l => ?_, ?_, ?_, ?_⟩, ?_⟩
  · rw [hsets.lanes l, hl l, ← Lane.passTest_loaded, Lane.loaded_setBy, Lane.passTest_loaded, ← hu]
    rfl
  · have hload : u.dst.loadDevices c'.devices.reverse = s.dst.loadDevices c'.devices.reverse := by
      rw [← hu]
      exact Dst.loadDevices_setBy _ _ _
    rw [Dst.loadDevices_eq, Dst.loadDevices_eq] at hload
    exact hsets.devices.trans hload
  · rw [hsets.port, ← hu]
    rfl
  · have hkept := hsets.kept
    rw [← hu] at hkept
    exact hkept
  · rw [← hu] at hdecides
    exact ⟨fun ha => ⟨(hdecides.atTime ha).rc, (hdecides.atTime ha).pu⟩, hdecides.goesOn,
      fun ha hn => ⟨(hdecides.atOnce ha hn).rc, (hdecides.atOnce ha hn).pu⟩⟩

/-- Settles O23: the slot by its place in the record, then the next read or the load's end. -/
theorem usableCheckpointHeaderLeadsToTheNextSlot : Obligations.UsableCheckpointHeaderLeadsToTheNextSlot := by
  intro words d s c c' lane device n retry hr hb hq hc hm he hx hcases
  have htakes : c.Takes (stationBlock s.straps.archiveSize) d c' lane device := by
    rcases hcases with ⟨h0, htime, hlanes, hdevices, harea, rfl, rfl, rfl⟩ | ⟨hlo, hhi, hfirst, hlane, rfl, rfl, rfl⟩ |
      ⟨hlo, hhi, ⟨first, sub, hfirst, hsub, rfl, rfl⟩, rfl⟩ | ⟨hlo, hnlo, hnhi, ⟨sub, hpos, hsub, rfl, rfl⟩, rfl⟩
    · exact CheckpointLoad.takes_header he hx h0 htime hlanes hdevices harea
    · exact CheckpointLoad.takes_firstSlot he hx hlo hhi hfirst hlane
    · have hof : sub = laneSubOf first d := by
        rw [hsub]
        simp [laneSubOf, bne, beq_eq_decide]
      rw [hof]
      exact CheckpointLoad.takes_secondSlot he hx hlo hhi hfirst
    · exact CheckpointLoad.takes_device he hx hlo (deviceSubOf_eq_some hnlo hnhi hpos hsub)
  have hanswer : s.checkpointAnswer c d = (s.setFromSlot c d).nextCheckpoint c' := by
    rw [State.checkpointAnswer, htakes.next]
  refine ⟨_, State.exec_checkpointSlotAnswer hr hb hq hc, fun hmore => ?_, fun hlast hclear => ?_⟩ <;> rw [hanswer]
  · obtain ⟨hreads, hlanes, hdst⟩ := State.checkpointReads_setFromSlot hm c c' d hmore
    refine ⟨hreads, fun l => ?_, ?_⟩
    · rw [hlanes l, htakes.lane, Lane.setBy_first] <;> rfl
    · rw [hdst, htakes.device, Dst.setBy_first] <;> rfl
  · have hf : s.FrontClear := ⟨fun l => (hclear l).1, fun l => (hclear l).2⟩
    have hends := State.loadSets_setFromSlot hm hf c c' d (not_lt.2 hlast)
    rwa [htakes.entry] at hends

end Sys2Proof.Machine
end

section
/-! PROOFS. Frames of other stations and the inbound queue (R83, R91 to R94, R96). -/

namespace Sys2Proof.Machine

/-- Where no cut is computed and none is pending, the cut record stays (R74, R75). -/
theorem State.settleCut_of_resting {s : State} (hm : s.rc.mode.replaying = false)
    (hc : ∀ c forced, s.mq.cut ≠ .pending c forced) : s.settleCut = s := by
  unfold State.settleCut
  split
  next c forced h => exact absurd h (hc c forced)
  next => simp [State.cutDue, hm]
  next => rfl

theorem Mode.vetoes_iff {m : Mode} : m.vetoes = true ↔ m = .seeking ∨ m = .paused ∨ m = .running := by
  cases m <;> simp [Mode.vetoes]

/-- The frames that are discarded as of an invalid class (R83). -/
theorem State.discards_iff {s : State} {h : HeardFrame} :
    s.discards h = true ↔ s.biu.discarding = true ∨ h.frame.body = .invalid := by
  unfold State.discards
  cases h.frame.body <;> simp

theorem State.Hears.discards {s : State} {h : HeardFrame} (hh : s.Hears h) : s.discards h = false := by
  rw [Bool.eq_false_iff, ne_eq, State.discards_iff, hh.valid.1]
  exact not_or.2 ⟨nofun, hh.valid.2⟩

/-- The command at the close of a received frame whose veto slot no other station drove. -/
theorem State.exec_frameAccepted {s : State} (hr : s.inReset = false) (hs : s.biu.state = .receiving) (h : HeardFrame) :
    exec (.frameAccepted h) s = .next (s.heardAccepted h).settle := by
  simp only [exec, execFrameAccepted, State.whenLive_live hr, hs]

/-- The count behind a veto slot that the engine leaves alone (R96). -/
theorem State.countVeto_false (s : State) :
    s.countVeto false = { s with biu.vetoCount := if s.rc.mode.vetoes then 0 else s.biu.vetoCount } := by
  unfold State.countVeto
  split
  · rfl
  · rfl

/-- A frame that the engine can take joins its inbound queue in the modes that take frames (R93). -/
theorem State.queueAccepted_of_takesFrames {s : State} (h : s.rc.mode.takesFrames = true) (f : Frame) :
    s.queueAccepted f = s.pushInbound f := by
  unfold State.queueAccepted
  cases hm : s.rc.mode <;> simp [hm, Mode.takesFrames] at h ⊢

/-- A correct frame of another station, with room for it, joins the queue at its end (R93, R94). -/
theorem State.receiveAccepted_joins {s : State} {h : HeardFrame} (hm : s.rc.mode.takesFrames = true)
    (hi : h.intact = true) (hroom : s.biu.inbound.length < 16) (hst : h.frame.station ≠ s.straps.station) :
    s.receiveAccepted h = { s with biu.inbound := s.biu.inbound ++ [h.frame] } := by
  have hfull : s.inboundFull = false := decide_eq_false (not_le.2 hroom)
  unfold State.receiveAccepted
  rw [if_neg (by simp [hi, hfull]), if_neg (by simp [hst]), State.queueAccepted_of_takesFrames hm, State.pushInbound,
    hfull, if_neg nofun]

/-- A frame that fails its check octet or finds no room is lost; LOADING discards every frame of another number, and
FAULTED every frame (R4, R92, R93, R94). -/
theorem State.receiveAccepted_lost {s : State} {h : HeardFrame}
    (hl : h.intact = false ∨ s.rc.mode.takesFrames = true ∧ 16 ≤ s.biu.inbound.length ∨
      s.rc.mode = .loading ∧ h.frame.station ≠ s.straps.station ∨ s.rc.mode = .faulted) :
    s.receiveAccepted h = s := by
  unfold State.receiveAccepted
  split
  · rfl
  next hgood =>
    rcases hl with hi | ⟨hm, hfull⟩ | ⟨hm, hst⟩ | hm
    · simp [hi] at hgood
    · have : s.inboundFull = true := decide_eq_true hfull
      simp [hm, this] at hgood
    · rw [if_neg (by simp [hst]), State.queueAccepted, hm]
    · rw [if_neg (by simp [hm]), State.queueAccepted, hm]

/-- A frame heard through to its end, whose veto slot the engine leaves alone, is taken or lost (R91, R92). -/
theorem State.heardAccepted_of_undriven {s : State} {h : HeardFrame} (hh : s.Hears h) (hv : s.drivesVeto h = false) :
    s.heardAccepted h = (s.busIdle.countVeto false).receiveAccepted h := by
  simp [State.heardAccepted, hh.discards, hv]

/-- The engine takes a correct frame of another station that it has room for. -/
theorem State.heardAccepted_joins {s : State} {h : HeardFrame} (hh : s.Hears h) (hm : s.rc.mode.takesFrames = true)
    (hi : h.intact = true) (hfull : s.biu.fullAtOpen = false) (hroom : s.biu.inbound.length < 16)
    (hst : h.frame.station ≠ s.straps.station) :
    s.heardAccepted h = { s with
      biu := { s.biu with
        state := .idle, outbound := none, inbound := s.biu.inbound ++ [h.frame]
        vetoCount := if s.rc.mode.vetoes then 0 else s.biu.vetoCount } } := by
  rw [State.heardAccepted_of_undriven hh (by simp [State.drivesVeto, hi, hfull]), State.countVeto_false,
    State.receiveAccepted_joins (by exact hm) hi (by exact hroom) (by exact hst)]
  rfl

/-- In a mode that does not veto, a frame that is not taken only ends. -/
theorem State.heardAccepted_lost {s : State} {h : HeardFrame} (hh : s.Hears h) (hv : s.rc.mode.vetoes = false)
    (hl : h.intact = false ∨ s.rc.mode.takesFrames = true ∧ 16 ≤ s.biu.inbound.length ∨
      s.rc.mode = .loading ∧ h.frame.station ≠ s.straps.station ∨ s.rc.mode = .faulted) :
    s.heardAccepted h = s.busIdle := by
  have hcount : s.busIdle.countVeto false = s.busIdle := by simp [State.countVeto, hv]
  rw [State.heardAccepted_of_undriven hh (by simp [State.drivesVeto, hv]), hcount,
    State.receiveAccepted_lost (by exact hl)]

/-- A mode that neither vetoes nor takes part in the epoch protocol. -/
theorem Mode.resting {m : Mode} (hs : m ≠ .seeking) (hp : m ≠ .paused) (hr : m ≠ .running) :
    m.vetoes = false ∧ m.replaying = false := by
  cases m <;> simp [Mode.vetoes, Mode.replaying] at hs hp hr ⊢

/-- Settles O35: `State.heardAccepted` by what it does with the frame, then the end of the command. -/
theorem acceptedFramesJoinTheInboundQueue : Obligations.AcceptedFramesJoinTheInboundQueue := by
  refine ⟨fun h s hh => ⟨fun hm hwait hi hfull hroom hst => ?_, fun hns hnp hnr hcut hl => ?_⟩,
    fun h s hr hrec hinv => ⟨?_, fun hwait => ?_⟩⟩
  · refine ⟨_, State.exec_frameAccepted hh.live hh.receiving h, ?_⟩
    rw [State.heardAccepted_joins hh hm hi hfull hroom hst, State.settle_of_still (by exact hwait)]
    refine ⟨?_, rfl, rfl, rfl, rfl, rfl, rfl⟩
    dsimp only
    simp only [Mode.vetoes_iff]
  · obtain ⟨hv, hrep⟩ := Mode.resting hns hnp hnr
    refine ⟨_, State.exec_frameAccepted hh.live hh.receiving h, ?_⟩
    have hsettle := State.settle_of_still (s := s.busIdle) fun hs => absurd hs hns
    rw [State.settleCut_of_resting (by exact hrep) (by exact hcut)] at hsettle
    rw [State.heardAccepted_lost hh hv hl]
    exact hsettle
  · have hd : s.discards h = true := State.discards_iff.2 hinv
    refine ⟨(s.heardVetoed h).refreshDrive, ?_, ?_⟩
    · simp only [exec, execFrameVetoed, State.whenLive_live hr, hrec]
    · rw [State.heardVetoed, hd, if_pos rfl]
      rfl
  · have hd : s.discards h = true := State.discards_iff.2 hinv
    have he : s.heardAccepted h = s.busIdle := by rw [State.heardAccepted, hd, if_pos rfl]
    refine ⟨_, State.exec_frameAccepted hr hrec h, ?_⟩
    have hsettle := State.settle_of_still (s := s.busIdle) hwait
    rw [he]
    exact ⟨by rw [hsettle]; rfl, by rw [hsettle]; rfl⟩

end Sys2Proof.Machine
end

section
/-! PROOFS. The order of the merge queue and the lanes' traps through every step (R31, R36, R40, R41, R64, R66, R148,
R149). -/

namespace Sys2Proof.Machine

/-! The merge queue, as far as its keys go. -/

/-- Two keys that share lane and lane sequence. -/
def EntryKey.Shares (a b : EntryKey) : Prop :=
  a.lane = b.lane ∧ a.laneSeq = b.laneSeq

/-- A queue whose keys stood in an ordered one is ordered, where no lane's insertion count has fallen (R36, R64). -/
theorem State.QueueOrdered.of_keys {s t : State} (h : s.QueueOrdered)
    (hk : (t.mq.entries.map Entry.key).Sublist (s.mq.entries.map Entry.key))
    (hi : ∀ l, (s.lane l).insertions ≤ (t.lane l).insertions) : t.QueueOrdered := by
  have ascending : (s.mq.entries.map Entry.key).Pairwise fun a b => a.before b = true :=
    List.pairwise_map.2 h.ascending
  have distinct : (s.mq.entries.map Entry.key).Pairwise fun a b => ¬a.Shares b := List.pairwise_map.2 h.distinct
  refine ⟨List.pairwise_map.1 (ascending.sublist hk), List.pairwise_map.1 (distinct.sublist hk), fun e he => ?_⟩
  obtain ⟨x, hx, hxe⟩ := List.mem_map.1 (hk.subset (List.mem_map_of_mem he))
  have hlane : x.lane = e.lane := congrArg EntryKey.lane hxe
  have hseq : x.laneSeq = e.laneSeq := congrArg EntryKey.laneSeq hxe
  have hcount := h.counted x hx
  rw [hlane, hseq] at hcount
  exact hcount.trans_le (hi _)

theorem State.QueueOrdered.of_nil {s : State} (h : s.mq.entries = []) : s.QueueOrdered := by
  constructor <;> simp [h]

theorem perm_insertEntry (e : Entry) (q : List Entry) : (insertEntry e q).Perm (e :: q) := by
  induction q with
  | nil => exact .refl _
  | cons y q ih =>
    unfold insertEntry
    split
    · exact .refl _
    · exact (ih.cons y).trans (.swap e y q)

/-- An insertion takes the lane's count as the sequence, which no entry of the lane has yet (R36, R66). -/
theorem State.QueueOrdered.insertEvent {s : State} (h : s.QueueOrdered) (l : Fin 16) (e : HeldEvent) :
    (s.insertEvent l e).QueueOrdered := by
  obtain ⟨x, hq, hl, hseq⟩ : ∃ x, (s.insertEvent l e).mq.entries = insertEntry x s.mq.entries ∧ x.lane = l ∧
      x.laneSeq = (s.lane l).insertions := ⟨_, State.insertEvent_mq_entries s l e, rfl, rfl⟩
  have hfresh : ∀ y ∈ s.mq.entries, ¬(x.lane = y.lane ∧ x.laneSeq = y.laneSeq) := by
    rintro y hy ⟨hyl, hys⟩
    have := h.counted y hy
    rw [← hys, ← hyl, hl, hseq] at this
    exact lt_irrefl _ this
  have hcount : ∀ m, ((s.insertEvent l e).lane m).insertions = (s.lane m).insertions + if m = l then 1 else 0 := by
    intro m
    rw [State.lane_insertEvent]
    split
    next hm => rw [hm]; rfl
    next => rfl
  refine ⟨?_, ?_, fun y hy => ?_⟩
  · rw [hq]
    exact insertEntry_ascending h.ascending hfresh
  · rw [hq]
    have hall := List.pairwise_cons.2 ⟨hfresh, h.distinct⟩
    exact ((perm_insertEntry x s.mq.entries).pairwise_iff fun hab hba => hab ⟨hba.1.symm, hba.2.symm⟩).2 hall
  · rw [hcount]
    rw [hq, mem_insertEntry] at hy
    rcases hy with rfl | hy
    · rw [hl, if_pos rfl, hseq]
      exact Nat.lt_succ_self _
    · exact (h.counted y hy).trans_le (Nat.le_add_right _ _)

/-! What a lane holds. -/

/-- The lane has no trap and holds no item. -/
def Lane.Clear (x : Lane) : Prop :=
  x.held = none ∧ x.trap = none

/-- The modes in which every lane is clear (R40, R41, R149). -/
def State.TrapFree (s : State) : Prop :=
  s.rc.mode = .loading ∨ s.rc.mode = .standby ∨ s.rc.mode = .seeking

theorem Lane.Clear.trapSound {x : Lane} (h : x.Clear) (hs : x.state ≠ .trapped) : x.TrapSound := by
  obtain ⟨hheld, htrap⟩ := h
  constructor <;> simp [hheld, htrap, hs]

/-- A lane that is neither TRAPPED nor waits for an entry or the next window is clear. -/
theorem Lane.TrapSound.clear {x : Lane} (h : x.TrapSound) (ht : x.state ≠ .trapped) (hs : x.state ≠ .stalled)
    (hp : x.state ≠ .passed) : x.Clear := by
  have htrap : x.trap = none := by
    rw [← Option.not_isSome_iff_eq_none, ← h.trapped]
    exact ht
  exact ⟨(h.free htrap).resolve_right fun hr => hr.2.elim hs hp, htrap⟩

/-- A lane that is not TRAPPED has no trap. -/
theorem Lane.TrapSound.trap_none {x : Lane} (h : x.TrapSound) (ht : x.state ≠ .trapped) : x.trap = none := by
  rw [← Option.not_isSome_iff_eq_none, ← h.trapped]
  exact ht

/-- A lane without a released record, and not TRAPPED, is clear. -/
theorem Lane.TrapSound.clear_of_noRecord {x : Lane} (h : x.TrapSound) (ht : x.state ≠ .trapped)
    (hr : x.releasedRecord = none) : x.Clear :=
  ⟨(h.free (h.trap_none ht)).resolve_right fun hh => by simp [hr] at hh, h.trap_none ht⟩

/-- A lane trapped at fetch with an item that is no released record. -/
theorem Lane.trapSound_fetch {x : Lane} (g : Nat) {item : HeldItem} (h : ∀ e, item ≠ .released e) :
    Lane.TrapSound { x with state := .trapped, held := some item, trap := some (.fetch g) } := by
  refine ⟨by simp, fun _ _ => ⟨rfl, ?_⟩, nofun, nofun⟩
  cases item with
  | released e => exact absurd rfl (h e)
  | slot | mark | event => rfl

/-- The state of a lane that waits with a released record may be STALLED or PASSED (R37, R38). -/
theorem Lane.TrapSound.waits {x : Lane} (h : x.TrapSound) (ht : x.state ≠ .trapped) {st : LaneState}
    (hst : st = .stalled ∨ st = .passed) : Lane.TrapSound { x with state := st } := by
  have htrap := h.trap_none ht
  refine ⟨?_, fun g hg => ?_, fun k b hk => ?_, fun _ => (h.free htrap).imp id fun hr => ⟨hr.1, hst⟩⟩
  · rcases hst with rfl | rfl <;> simp [htrap]
  · exact absurd (htrap.symm.trans hg) nofun
  · exact absurd (htrap.symm.trans hk) nofun

/-- The test against the window end keeps a lane's trap sound, where a lane that leaves PASSED holds no record (R37). -/
theorem Lane.TrapSound.passTest {x : Lane} (h : x.TrapSound) {w : Nat} (hr : x.resumesRecord w = none) :
    (x.passTest w).TrapSound := by
  unfold Lane.passTest
  split
  next hx => split <;> [exact h.waits (by simp [hx]) (.inr rfl); exact h]
  next hx => split <;> [exact h.waits (by simp [hx]) (.inr rfl); exact h]
  next hx =>
    split
    · exact h
    next hw =>
      have hnone : x.releasedRecord = none := by
        rw [Lane.resumesRecord] at hr
        simpa [hx, not_le.1 hw] using hr
      exact Lane.Clear.trapSound (h.clear_of_noRecord (by simp [hx]) hnone) nofun
  all_goals exact h

/-- The test against the window end changes the state alone. -/
theorem Lane.Clear.passTest {x : Lane} (h : x.Clear) (w : Nat) : (x.passTest w).Clear := by
  rw [Lane.passTest_eq]
  exact h

theorem Lane.insertions_passTest (x : Lane) (w : Nat) : (x.passTest w).insertions = x.insertions := by
  rw [Lane.passTest_eq]

/-! From state to state. -/

/-- From `s` to `t` the merge queue stays ordered; and where `P` holds, the lanes' traps stay sound. -/
structure State.Keeps (P : Prop) (s t : State) : Prop where
  queue : s.QueueOrdered → t.QueueOrdered
  traps : P → s.TrapsSound → t.TrapsSound

section
variable {P : Prop} {s t u : State}

theorem State.Keeps.refl (s : State) : s.Keeps P s :=
  ⟨id, fun _ => id⟩

theorem State.Keeps.trans (h : s.Keeps P t) (g : t.Keeps P u) : s.Keeps P u :=
  ⟨fun hq => g.queue (h.queue hq), fun hp ht => g.traps hp (h.traps hp ht)⟩

/-- Entries and lanes stay, and no mode without traps is entered. -/
theorem State.Keeps.of_eq (hm : t.TrapFree → s.TrapFree) (hl : t.afu.lanes = s.afu.lanes)
    (hq : t.mq.entries = s.mq.entries) : s.Keeps P t := by
  have hlane := State.lane_congr hl
  refine ⟨fun h => h.of_keys (by rw [hq]) fun l => by rw [hlane], fun _ h => ⟨fun l => ?_, fun hf l => ?_⟩⟩
  · rw [hlane]
    exact h.each l
  · rw [hlane]
    exact h.clear (hm hf) l

/-- Entries, lanes and mode stay. -/
theorem State.Keeps.of_same (hm : t.rc.mode = s.rc.mode) (hl : t.afu.lanes = s.afu.lanes)
    (hq : t.mq.entries = s.mq.entries) : s.Keeps P t :=
  .of_eq (by unfold State.TrapFree; rw [hm]; exact id) hl hq

/-- Every lane is left clear and not TRAPPED. -/
theorem State.Keeps.of_clear (hq : s.QueueOrdered → t.QueueOrdered)
    (h : P → s.TrapsSound → ∀ l, (t.lane l).state ≠ .trapped ∧ (t.lane l).Clear) : s.Keeps P t :=
  ⟨hq, fun hp ht => ⟨fun l => (h hp ht l).2.trapSound (h hp ht l).1, fun _ l => (h hp ht l).2⟩⟩

/-- Lane l alone changes, its insertion count does not fall, and what it holds fits. -/
theorem State.keeps_setLane {l : Fin 16} {x : Lane} (hi : (s.lane l).insertions ≤ x.insertions)
    (ht : P → s.TrapsSound → x.TrapSound) (hc : P → s.TrapsSound → s.TrapFree → x.Clear) :
    s.Keeps P (s.setLane l x) := by
  refine ⟨fun h => h.of_keys (.refl _) fun m => ?_, fun hp h => ⟨fun m => ?_, fun hf m => ?_⟩⟩ <;>
    rw [State.lane_setLane] <;> split
  next hm => rw [hm]; exact hi
  next => exact le_rfl
  next => exact ht hp h
  next => exact h.each m
  next => exact hc hp h hf
  next => exact h.clear hf m

/-- Lane l is left clear and not TRAPPED. -/
theorem State.keeps_setLane_clear {l : Fin 16} {x : Lane} (hi : (s.lane l).insertions ≤ x.insertions)
    (hs : x.state ≠ .trapped) (hc : P → (s.lane l).TrapSound → x.Clear) : s.Keeps P (s.setLane l x) :=
  State.keeps_setLane hi (fun hp h => (hc hp (h.each l)).trapSound hs) fun hp h _ => hc hp (h.each l)

theorem State.setLane_self (s : State) (l : Fin 16) : s.setLane l (s.lane l) = s := by
  simp [State.setLane, State.lane]

/-- An insertion by a lane that has just been set leaves it clear, whatever it held (R36, R39). -/
theorem State.keeps_setInsert {l : Fin 16} {x : Lane} (hi : x.insertions = (s.lane l).insertions) (e : HeldEvent) :
    s.Keeps P ((s.setLane l x).insertEvent l e) := by
  have hset : ∀ m, (s.lane m).insertions ≤ ((s.setLane l x).lane m).insertions := fun m => by
    rw [State.lane_setLane]
    split
    next hm => rw [hm, hi]
    next => exact le_rfl
  have hclear : ∀ time stop, (x.afterInsert e time stop).state ≠ .trapped ∧ (x.afterInsert e time stop).Clear :=
    fun time stop => by
      refine ⟨?_, rfl, rfl⟩
      unfold Lane.afterInsert
      dsimp only
      split_ifs <;> nofun
  refine ⟨fun h => ?_, fun _ h => ⟨fun m => ?_, fun hf m => ?_⟩⟩
  · exact (State.QueueOrdered.of_keys (t := s.setLane l x) h (.refl _) hset).insertEvent l e
  all_goals
    rw [State.lane_insertEvent, State.lane_setLane_same]
    split
  next => exact (hclear _ _).2.trapSound (hclear _ _).1
  next hm => rw [State.lane_setLane_other s hm]; exact h.each m
  next => exact (hclear _ _).2
  next hm => rw [State.lane_setLane_other s hm]; exact h.clear hf m

theorem State.keeps_insertEvent (l : Fin 16) (e : HeldEvent) : s.Keeps P (s.insertEvent l e) := by
  have h := State.keeps_setInsert (P := P) (s := s) (l := l) (x := s.lane l) rfl e
  rwa [State.setLane_self] at h

end

/-! The work on lanes, queues and offers. -/

section
variable {P : Prop} {s : State}

theorem State.keeps_raiseFinding (f : Finding) : s.Keeps P (s.raiseFinding f) :=
  .of_same (by simp) (by simp) (by simp)

theorem State.keeps_markReleased (k : EntryKey) : s.Keeps P (s.markReleased k) := by
  have hkeys : (s.markReleased k).mq.entries.map Entry.key = s.mq.entries.map Entry.key := by
    rw [State.markReleased_mq_entries, List.map_map]
    refine List.map_congr_left fun e _ => ?_
    dsimp only [Function.comp]
    split <;> rfl
  exact ⟨fun h => h.of_keys (by rw [hkeys]) fun _ => le_rfl, fun _ h => { h with }⟩

theorem State.keeps_removeEntry (k : EntryKey) : s.Keeps P (s.removeEntry k) :=
  ⟨fun h => h.of_keys (List.filter_sublist.map _) fun _ => le_rfl, fun _ h => { h with }⟩

/-- The state test of a lane, where a lane that leaves PASSED holds no released record (R37). -/
theorem State.keeps_passTest {l : Fin 16} {w : Nat} (h : P → s.TrapsSound → (s.lane l).resumesRecord w = none) :
    s.Keeps P (s.setLane l ((s.lane l).passTest w)) :=
  State.keeps_setLane (Lane.insertions_passTest _ _).ge (fun hp ht => (ht.each l).passTest (h hp ht))
    fun _ ht hf => Lane.Clear.passTest (ht.clear hf l) w

theorem State.keeps_retestLane (l : Fin 16) : s.Keeps P (s.retestLane l) := by
  rcases s.retestLane_cases l with ⟨e, he, -, h⟩ | ⟨e, -, -, h⟩ | ⟨hn, h⟩ <;> rw [h]
  · have hp := (Lane.passed_of_resumesRecord he).1
    exact State.keeps_setLane le_rfl (fun _ ht => (ht.each l).waits (by simp [hp]) (.inl rfl))
      fun _ ht hf => ht.clear hf l
  · exact State.keeps_insertEvent l e
  · exact State.keeps_passTest fun _ _ => hn

theorem State.keeps_retestLanes : s.Keeps P s.retestLanes :=
  State.retestLanes_induct (P := s.Keeps P) (fun _ l h => h.trans (State.keeps_retestLane l)) (.refl s)

/-- A STALLED lane without a released record becomes READY clear (R38). -/
theorem Lane.resume_eq (x : Lane) :
    x.resume = x ∨ x.state = .stalled ∧ x.releasedRecord = none ∧ x.resume = { x with state := .ready } := by
  unfold Lane.resume
  split
  next h =>
    simp only [Bool.and_eq_true, beq_iff_eq, Option.isNone_iff_eq_none] at h
    exact .inr ⟨h.1, h.2, rfl⟩
  next => exact .inl rfl

theorem State.keeps_entryFreed : s.Keeps P s.entryFreed := by
  have hmap : s.Keeps P (s.mapLanes Lane.resume) := by
    refine ⟨fun h => h.of_keys (.refl _) fun l => ?_, fun _ h => ⟨fun l => ?_, fun hf l => ?_⟩⟩ <;>
      rw [State.lane_mapLanes] <;> rcases (s.lane l).resume_eq with he | ⟨hs, hr, he⟩ <;> rw [he]
    · exact h.each l
    · exact Lane.Clear.trapSound ((h.each l).clear_of_noRecord (by simp [hs]) hr) nofun
    · exact h.clear hf l
    · exact h.clear hf l
  rcases (s.mapLanes Lane.resume).insertReleased_cases with h | ⟨l, e, -, -, -, h⟩ <;> rw [State.entryFreed, h]
  · exact hmap
  · exact hmap.trans (State.keeps_insertEvent l e)

/-! The taking of a slot (R31 to R39). -/

theorem Lane.passSlot_state (x : Lane) : x.passSlot.state ≠ .trapped := by
  unfold Lane.passSlot Lane.stateAfterSlot
  dsimp only
  split <;> nofun

/-- A lane passes its slot, its insertion count as it was. -/
theorem State.keeps_passSlot {l : Fin 16} (y : Lane) (hi : y.insertions = (s.lane l).insertions) :
    s.Keeps P (s.setLane l y.passSlot) :=
  State.keeps_setLane_clear hi.ge y.passSlot_state fun _ _ => ⟨rfl, rfl⟩

/-- A trap at fetch, in a mode that has traps (R31, R148). -/
theorem State.keeps_trapAtFetch {l : Fin 16} (g : Nat) {item : HeldItem} (hitem : ∀ e, item ≠ .released e)
    (hm : P → ¬s.TrapFree) : s.Keeps P (s.trapAtFetch l g item) :=
  State.keeps_setLane le_rfl (fun _ _ => Lane.trapSound_fetch g hitem) fun hp _ hf => absurd hf (hm hp)

/-- Traps are made where the mode has them, or in SEEKING never (R40). -/
theorem State.not_trapFree {m : Mode} (hm : s.rc.mode = m) (hs : m ≠ .seeking)
    (h : P → s.TrapFree → s.rc.mode = .seeking) : P → ¬s.TrapFree :=
  fun hp hf => hs (hm.symm.trans (h hp hf))

theorem State.keeps_takeBadSlot (l : Fin 16) (a : AnomalySet)
    (hm : P → s.TrapFree → s.rc.mode = .seeking) : s.Keeps P (s.takeBadSlot l a) := by
  unfold State.takeBadSlot
  dsimp only
  split
  · exact State.keeps_passSlot _ rfl
  all_goals
    next hmode =>
      split
      · exact (State.keeps_passSlot _ rfl).trans (State.keeps_raiseFinding _)
      · exact (State.keeps_trapAtFetch 1 (by simp) (State.not_trapFree hmode nofun hm)).trans
          (State.keeps_raiseFinding _)

theorem State.keeps_takeMark (l : Fin 16) (stamp : BitVec 48) (reference : Nat)
    (hm : P → s.TrapFree → s.rc.mode = .seeking) : s.Keeps P (s.takeMark l stamp reference) := by
  have applied : ∀ c, s.Keeps P (s.setLane l { s.lane l with clock := c }.passSlot) := fun _ =>
    State.keeps_passSlot _ rfl
  unfold State.takeMark
  dsimp only
  split
  · split
    · exact applied _
    all_goals
      next hmode =>
        split
        · exact (applied _).trans (State.keeps_raiseFinding _)
        · exact (State.keeps_trapAtFetch 2 (by simp) (State.not_trapFree hmode nofun hm)).trans
            (State.keeps_raiseFinding _)
  · exact applied _

/-- An event goes in, or waits STALLED, which in a mode without traps it never does. -/
theorem State.keeps_insertOrStall (l : Fin 16) (e : HeldEvent)
    (hfull : P → s.TrapFree → s.queueFull = false) : s.Keeps P (s.insertOrStall l e) := by
  unfold State.insertOrStall
  split
  next hq =>
    refine State.keeps_setLane le_rfl (fun _ _ => ?_) fun hp _ hf => absurd (hfull hp hf) (by simp [hq])
    exact ⟨by simp [Lane.advance], nofun, nofun, fun _ => .inr ⟨rfl, .inl rfl⟩⟩
  next => exact State.keeps_setInsert (x := (s.lane l).advance) rfl e

theorem State.keeps_referenceStage (l : Fin 16) (e : HeldEvent)
    (hm : P → s.TrapFree → s.rc.mode = .seeking ∧ s.queueFull = false) :
    s.Keeps P (s.referenceStage l e) := by
  unfold State.referenceStage
  dsimp only
  split
  · split
    · exact (State.keeps_passSlot _ rfl).trans (State.keeps_raiseFinding _)
    next hc =>
      refine (State.keeps_trapAtFetch 3 (by simp) fun hp hf => hc ?_).trans (State.keeps_raiseFinding _)
      simp [(hm hp hf).1]
  · exact State.keeps_insertOrStall l e fun hp hf => (hm hp hf).2

theorem State.keeps_takeEvent (l : Fin 16) (device : BitVec 16) (kind : EventKind) (stamp : BitVec 48)
    (hm : P → s.TrapFree → s.rc.mode = .seeking) (hq : s.queueFull = false) :
    s.Keeps P (s.takeEvent l device kind stamp) := by
  have stage : ∀ e, s.Keeps P (s.referenceStage l e) := fun e =>
    State.keeps_referenceStage l e fun hp hf => ⟨hm hp hf, hq⟩
  unfold State.takeEvent
  dsimp only
  split
  · unfold State.takeEventSeeking
    split
    · exact State.keeps_setLane_clear le_rfl (by
        dsimp only [Lane.stateAfterSlot]
        split <;> nofun) fun _ _ => ⟨rfl, rfl⟩
    · exact stage _
  all_goals
    next hmode =>
      have hlive := State.not_trapFree hmode nofun hm
      unfold State.takeEventLive
      dsimp only
      split
      · split
        · refine (State.keeps_raiseFinding _).trans (State.keeps_referenceStage l _ fun hp hf => ?_)
          have hf' : s.TrapFree := by simpa [State.TrapFree] using hf
          exact ⟨by simpa using hm hp hf', by simpa [State.queueFull] using hq⟩
        · exact (State.keeps_trapAtFetch 2 (by simp) hlive).trans (State.keeps_raiseFinding _)
      · exact stage _

/-- The taking of a slot by a READY lane, which is clear (R31). -/
theorem State.keeps_takeSlot {l : Fin 16} (hl : (s.lane l).state = .ready) (d : Slot)
    (hm : P → s.TrapFree → s.rc.mode = .seeking) : s.Keeps P (s.takeSlot l d) := by
  have hclear : s.TrapsSound → (s.lane l).Clear := fun h =>
    (h.each l).clear (by simp [hl]) (by simp [hl]) (by simp [hl])
  have note : ∀ seq, s.Keeps P (s.setLane l ((s.lane l).noteSequence seq)) := fun seq => by
    obtain ⟨last, gap, he⟩ := (s.lane l).noteSequence_eq seq
    rw [he]
    exact State.keeps_setLane le_rfl (fun _ ht => Lane.Clear.trapSound (by exact hclear ht) (by simp [hl]))
      fun _ ht _ => hclear ht
  unfold State.takeSlot
  dsimp only
  split
  · exact State.keeps_setLane le_rfl (fun _ ht => Lane.Clear.trapSound (hclear ht) nofun) fun _ ht _ => hclear ht
  · exact State.keeps_takeBadSlot l _ hm
  · exact State.keeps_takeBadSlot l _ hm
  · exact State.keeps_passSlot _ rfl
  · exact (note _).trans (State.keeps_takeMark l _ _ hm)
  · split
    · exact State.keeps_setLane le_rfl (fun _ ht => Lane.Clear.trapSound (hclear ht) nofun) fun _ ht _ => hclear ht
    next hq => exact (note _).trans (State.keeps_takeEvent l _ _ _ hm (by rwa [Bool.not_eq_true] at hq))

end

/-! The end of a trap (R39, R71, R150). -/

section
variable {P : Prop} {s : State}

theorem State.keeps_passAndTest {l : Fin 16} {y : Lane} (hi : y.insertions = (s.lane l).insertions) :
    s.Keeps P ((s.setLane l y.passSlot).testReleased l) := by
  refine (State.keeps_passSlot y hi).trans (State.keeps_passTest fun _ _ => ?_)
  rw [State.lane_setLane_same]
  simp [Lane.resumesRecord, Lane.passSlot, Lane.advance, Lane.releasedRecord]

/-- A lane that leaves its trap at winning is clear, as it held nothing but its entry (R148, R150). -/
theorem Lane.TrapSound.leaveWinning {x : Lane} (h : x.TrapSound) {k : EntryKey} {before : LaneState}
    (ht : x.trap = some (.winning k before)) (w : Nat) : (x.leaveWinning before w).Clear := by
  have hheld := h.winning k before ht
  unfold Lane.leaveWinning
  split
  · exact ⟨hheld, rfl⟩
  · exact ⟨hheld, rfl⟩
  all_goals exact Lane.Clear.passTest (x := { x with state := .ready, trap := none }) ⟨hheld, rfl⟩ w

theorem Lane.leaveWinning_state (x : Lane) (before : LaneState) (w : Nat) :
    (x.leaveWinning before w).state ≠ .trapped ∧ (x.leaveWinning before w).insertions = x.insertions := by
  unfold Lane.leaveWinning Lane.passTest
  split
  · exact ⟨nofun, rfl⟩
  · exact ⟨nofun, rfl⟩
  all_goals
    dsimp only
    split <;> exact ⟨nofun, rfl⟩

theorem State.keeps_releaseLane {l : Fin 16} (hl : (s.lane l).state = .trapped) (action : ReleaseAction)
    (hm : P → ¬s.TrapFree) : s.Keeps P (s.releaseLane l action) := by
  have skip : s.Keeps P (s.skipHeld l) := State.keeps_passAndTest rfl
  unfold State.releaseLane
  split
  · unfold State.releaseFetch
    split
    · exact skip
    · split
      · exact State.keeps_passAndTest rfl
      · split
        · refine (State.keeps_referenceStage l _ fun hp hf => absurd hf (hm hp)).trans
            (State.keeps_passTest fun _ _ => ?_)
          unfold Lane.resumesRecord
          split
          next hc =>
            simp only [Bool.and_eq_true, beq_iff_eq] at hc
            exact State.referenceStage_passed hc.1
          next => rfl
        · exact skip
      all_goals exact skip
  next k before hk =>
    obtain ⟨-, hlane⟩ := State.releaseEntry_moves hl k action
    have hentry : s.Keeps P (s.releaseEntry k action) := by
      unfold State.releaseEntry
      split
      · exact State.keeps_markReleased k
      · split
        · exact (State.keeps_removeEntry k).trans State.keeps_entryFreed
        · exact .refl s
    refine hentry.trans (State.keeps_setLane_clear ?_ ?_ fun _ ht => ?_)
    · exact (Lane.leaveWinning_state _ _ _).2.ge
    · exact (Lane.leaveWinning_state _ _ _).1
    · exact ht.leaveWinning (by rw [hlane]; exact hk) _
  · exact .refl s

/-! The bus unit's work (R84, R87, R92). -/

theorem State.keeps_ownAccepted (o : Outbound) : s.Keeps P (s.ownAccepted o) := by
  have settled : s.Keeps P (s.ownSettled o) := by
    refine State.Keeps.trans (t := { s.busIdle with biu.failureCount := 0 }) (.of_same rfl rfl rfl) ?_
    unfold State.ownSettled State.settleOffer
    split
    · split
      · exact .refl _
      · split
        · exact (State.keeps_removeEntry _).trans State.keeps_entryFreed
        · exact .refl _
    all_goals exact .of_same rfl rfl rfl
  unfold State.ownAccepted
  split
  · exact settled.trans (.of_same (by simp) (by simp) (by simp))
  · exact settled

/-- Silent events come and go beside what the lanes hold (R160, R161). -/
theorem State.Keeps.of_silent {t : State} (hm : t.TrapFree → s.TrapFree) (hq : t.mq.entries = s.mq.entries)
    (hl : ∀ l, ∃ y, t.lane l = { s.lane l with silent := y }) : s.Keeps P t := by
  refine ⟨fun h => h.of_keys (by rw [hq]) fun l => ?_, fun _ h => ⟨fun l => ?_, fun hf l => ?_⟩⟩ <;>
    obtain ⟨y, hy⟩ := hl l <;> rw [hy]
  · exact { h.each l with }
  · exact h.clear (hm hf) l

theorem State.keeps_withdraw : s.Keeps P s.withdraw :=
  .of_silent (by simp [State.TrapFree]) (by simp) fun l => ⟨none, s.lane_withdraw l⟩

theorem State.lane_enterFaulted (s : State) (cause : FaultCause) (l : Fin 16) :
    (s.enterFaulted cause).lane l = Lane.disabled := by
  simp [State.lane]

theorem State.keeps_enterFaulted (cause : FaultCause) : s.Keeps P (s.enterFaulted cause) := by
  refine .of_clear (fun _ => .of_nil (by simp)) fun _ _ l => ?_
  rw [State.lane_enterFaulted]
  exact ⟨nofun, rfl, rfl⟩

/-- A trap at winning holds nothing but its entry, in a mode that has traps (R147, R148). -/
theorem State.keeps_trapAtWinning (e : Entry) (a : AnomalySet) (hm : s.rc.mode.replaying = true) :
    s.Keeps P (s.trapAtWinning e a) := by
  have trap : s.Keeps P (s.trapLane e.lane e.key) := by
    refine State.keeps_setLane le_rfl (fun _ _ => ⟨by simp, nofun, fun _ _ _ => rfl, nofun⟩) fun _ _ hf => ?_
    rcases hf with hf | hf | hf <;> simp [hf, Mode.replaying] at hm
  refine trap.trans (.of_same ?_ ?_ ?_) <;> unfold State.trapAtWinning State.abandonVisit <;> split <;> simp

theorem State.keeps_suspendOn {level : Level} : s.Keeps P (s.suspendOn level) := by
  unfold State.suspendOn
  split
  · exact .refl s
  · split
    · exact .of_same rfl rfl rfl
    · exact .refl s

/-- The frame is sent, trapped where the mode has traps, or aborted (R89, R147). -/
theorem State.keeps_endStretch (o : Outbound) (line : Level) : s.Keeps P (s.endStretch o line) := by
  unfold State.endStretch
  split
  next e he =>
    have hm : s.rc.mode.replaying = true := by
      unfold State.sendable at he
      split at he
      · cases he
      · split at he
        · cases he
        · split at he
          next hc =>
            simp only [Bool.and_eq_true] at hc
            exact hc.1.1.1
          next => cases he
    unfold State.actOnWin
    split
    · exact .of_same rfl rfl rfl
    · exact .of_same (by simp [State.sendEvent]) (by simp [State.sendEvent]) (by simp [State.sendEvent])
    · exact State.keeps_trapAtWinning e _ hm
  next => exact State.keeps_suspendOn.trans (.of_same rfl rfl rfl)

/-! The seek (R19, R20, R40, R158, R159). -/

/-- A seek ends in a mode that has traps (R162). -/
theorem State.not_trapFree_completeSeek (s : State) : ¬s.completeSeek.TrapFree := by
  have hm : s.completeSeek.rc.mode = s.rc.modeAfterSeek.mode := rfl
  rw [State.TrapFree, hm]
  cases s.rc.modeAfterSeek <;> simp [AfterSeek.mode]

theorem State.keeps_completeSeek : s.Keeps P s.completeSeek :=
  .of_eq (fun hf => absurd hf s.not_trapFree_completeSeek) (by simp) (by simp)

theorem State.keeps_loadSubs (lanes : List LaneSub) (devices : List DeviceSub) (hm : P → s.rc.mode = .seeking) :
    s.Keeps P (s.loadSubs lanes devices) := by
  have hlane : ∀ l, ((s.lane l).loaded lanes l).insertions = (s.lane l).insertions ∧
      ((s.lane l).Clear → ((s.lane l).loaded lanes l).Clear) ∧
      ((s.lane l).state ≠ .trapped → ((s.lane l).loaded lanes l).state ≠ .trapped) := fun l => by
    unfold Lane.loaded
    split
    · split
      · exact ⟨rfl, id, fun _ => by dsimp only [Lane.fromSub]; split <;> nofun⟩
      · exact ⟨rfl, id, fun _ => by dsimp only [Lane.nominal]; split <;> nofun⟩
    · exact ⟨rfl, id, id⟩
  refine .of_clear (fun h => h.of_keys (by simp) fun l => ?_) fun hp h l => ?_ <;> rw [State.lane_loadSubs]
  · exact (hlane l).1.ge
  · have hc := h.clear (.inr (.inr (hm hp))) l
    exact ⟨(hlane l).2.2 (by rw [ne_eq, (h.each l).trapped, hc.2]; simp), (hlane l).2.1 hc⟩

theorem State.keeps_replayFromNominal (hm : P → s.rc.mode = .seeking) : s.Keeps P s.replayFromNominal := by
  refine (State.keeps_loadSubs [] [] hm).trans
    (State.Keeps.trans (t := { s.loadSubs [] [] with rc.seekDegraded := true }) (.of_same rfl rfl rfl)
      State.keeps_retestLanes)

theorem State.keeps_replayFromCheckpoint (c : CheckpointLoad) (hm : P → s.rc.mode = .seeking) :
    s.Keeps P (s.replayFromCheckpoint c) := by
  refine (State.keeps_loadSubs c.lanes.reverse c.devices.reverse hm).trans ?_
  unfold State.replayFromCheckpoint
  generalize s.loadSubs c.lanes.reverse c.devices.reverse = u
  unfold State.decideSeek
  split
  · exact State.keeps_retestLanes.trans State.keeps_completeSeek
  · exact State.Keeps.trans (t := { u with rc.seekDegraded := true }) (.of_same rfl rfl rfl) State.keeps_retestLanes

theorem State.keeps_beginSeek (time : Nat) : s.Keeps P (s.beginSeek time) := by
  have blocks : s.Keeps P (s.seekBlocks time) := by
    refine .of_clear (fun _ => .of_nil (by simp)) fun _ h l => ?_
    rw [State.lane_seekBlocks]
    unfold Lane.seekReset
    split
    · exact ⟨nofun, rfl, rfl⟩
    next hc =>
      have hd : (s.lane l).state = .disabled := by simpa [Lane.configured] using hc
      exact ⟨by rw [hd]; nofun, (h.each l).clear (by rw [hd]; nofun) (by rw [hd]; nofun) (by rw [hd]; nofun)⟩
  refine blocks.trans ?_
  unfold State.beginSeek State.beginLoad
  split
  · exact State.keeps_replayFromNominal fun _ => by simp
  · exact .of_same rfl rfl rfl

theorem State.keeps_checkpointAnswer (c : CheckpointLoad) (d : Slot) (hm : P → s.rc.mode = .seeking) :
    s.Keeps P (s.checkpointAnswer c d) := by
  have set : s.Keeps P (s.setFromSlot c d) := by
    have hlane : ∀ l, (Lane.setBy (c.newLane d) l (s.lane l)).insertions = (s.lane l).insertions ∧
        ((s.lane l).Clear → (Lane.setBy (c.newLane d) l (s.lane l)).Clear) ∧
        ((s.lane l).state ≠ .trapped → (Lane.setBy (c.newLane d) l (s.lane l)).state ≠ .trapped) := fun l => by
      unfold Lane.setBy
      split
      · exact ⟨rfl, id, id⟩
      · split
        · exact ⟨rfl, id, fun _ => by dsimp only [Lane.fromSub]; split <;> nofun⟩
        · exact ⟨rfl, id, id⟩
    refine .of_clear (fun h => h.of_keys (by simp) fun l => ?_) fun hp h l => ?_ <;> rw [State.lane_setFromSlot]
    · exact (hlane l).1.ge
    · have hc := h.clear (.inr (.inr (hm hp))) l
      exact ⟨(hlane l).2.2 (by rw [ne_eq, (h.each l).trapped, hc.2]; simp), (hlane l).2.1 hc⟩
  unfold State.checkpointAnswer
  split
  · exact State.Keeps.trans (t := s.dropRead) (.of_same rfl rfl rfl) (State.keeps_replayFromNominal hm)
  · refine set.trans ?_
    unfold State.nextCheckpoint
    split
    · exact .of_same rfl rfl rfl
    · exact State.Keeps.trans (t := (s.setFromSlot c d).dropRead) (.of_same rfl rfl rfl)
        (State.keeps_replayFromCheckpoint _ fun hp => by simpa using hm hp)

end

/-! Every command. -/

section
variable {P : Prop} {s : State}

/-- The end of a command takes silent events from lanes, and completes a seek (R161, R162). -/
theorem State.keeps_settle : s.Keeps P s.settle := by
  have seek : s.Keeps P s.settleSeek := by
    have drain : s.Keeps P (State.drainFront 16 s) :=
      .of_silent (by simp [State.TrapFree]) (by simp) (s.drainFront_lane 16)
    rcases s.settleSeek_completes with e | ⟨-, -, e | ⟨-, e⟩⟩ <;> rw [e]
    · exact .refl s
    · exact drain
    · exact drain.trans State.keeps_completeSeek
  exact seek.trans (.of_same (by simp [State.settle]) (by simp [State.settle]) (by simp [State.settle]))

theorem State.Keeps.settle {t : State} (h : s.Keeps P t) : s.Keeps P t.settle :=
  h.trans State.keeps_settle

theorem State.Keeps.refreshDrive {t : State} (h : s.Keeps P t) : s.Keeps P t.refreshDrive :=
  h.trans (.of_same rfl rfl rfl)

/-- A lane's read leaves it WAITING, clear as it was READY (R26). -/
theorem State.keeps_readLane {l : Fin 16} (h : (s.lane l).state = .ready) : s.Keeps P (s.readLane l) :=
  State.Keeps.trans (t := s.setLane l { s.lane l with state := .waiting })
    (State.keeps_setLane_clear le_rfl (by nofun) fun _ ht =>
      ht.clear (by rw [h]; nofun) (by rw [h]; nofun) (by rw [h]; nofun))
    (.of_same rfl rfl rfl)

/-- A lane's slot is taken, and its visit goes on or ends (R26, R31). -/
theorem State.keeps_laneAnswer (l : Fin 16) (d : Slot) (hw : P → (s.lane l).state = .waiting)
    (hm : P → s.TrapFree → s.rc.mode = .seeking) :
    s.Keeps P (((s.answerTaken l).takeSlot l d).continueVisit l) := by
  have answer : s.Keeps P (s.answerTaken l) :=
    State.Keeps.trans (t := s.setLane l { s.lane l with state := .ready })
      (State.keeps_setLane_clear le_rfl (by nofun) fun hp ht =>
        ht.clear (by rw [hw hp]; nofun) (by rw [hw hp]; nofun) (by rw [hw hp]; nofun))
      (.of_same rfl rfl rfl)
  have slot : s.Keeps P ((s.answerTaken l).takeSlot l d) :=
    answer.trans (State.keeps_takeSlot (by rw [State.lane_answerTaken]) d hm)
  refine slot.trans ?_
  unfold State.continueVisit
  split
  next hc =>
    simp only [State.mayContinue, Bool.and_eq_true, beq_iff_eq] at hc
    exact State.keeps_readLane hc.1.1.1.1
  next => exact .of_same rfl rfl rfl

/-- The start-up load reads on, faults, or sets every lane clear (R6, R23). -/
theorem State.keeps_loadAnswer (p : LoadProgress) (d : Slot) : s.Keeps P (s.loadAnswer p d) := by
  obtain ⟨b, ⟨c, e⟩ | ⟨q, stage, slot, e⟩ | ⟨q, e⟩⟩ := s.loadAnswer_cases p d <;> rw [e]
  · exact State.Keeps.trans (t := s.warnIf b) (.of_same rfl rfl rfl) (State.keeps_enterFaulted c)
  · exact .of_same rfl rfl rfl
  · refine .of_clear (fun _ => .of_nil (by simp)) fun _ _ l => ?_
    have hl : ((s.warnIf b).finishLoad q).lane l = (q.lanes[l.val]?).elim Lane.disabled LaneConfig.toLane := by
      simp [State.lane]
    rw [hl]
    cases q.lanes[l.val]? with
    | none => exact ⟨nofun, rfl, rfl⟩
    | some c => exact ⟨by simp only [Option.elim, LaneConfig.toLane]; split <;> nofun, rfl, rfl⟩

theorem State.keeps_readFailed {r : Request} (hw : ∀ l, r.owner = .lane l → P → (s.lane l).state = .waiting)
    (hm : r.owner = .checkpoint → P → s.rc.mode = .seeking) : s.Keeps P (s.readFailed r.owner) := by
  unfold State.readFailed
  split
  · exact State.keeps_enterFaulted _
  next l ho =>
    refine State.Keeps.trans (t := s.setLane l { s.lane l with state := .lost })
      (State.keeps_setLane_clear le_rfl (by nofun) fun hp ht => ?_)
      (.of_same (by simp [State.loseLane]) (by simp [State.loseLane]) (by simp [State.loseLane]))
    have hwl := hw l ho hp
    exact ht.clear (by rw [hwl]; nofun) (by rw [hwl]; nofun) (by rw [hwl]; nofun)
  next ho => exact State.Keeps.trans (t := s.dropRead) (.of_same rfl rfl rfl) (State.keeps_replayFromNominal (hm ho))

theorem State.keeps_takeCut (f : Frame) : s.Keeps P (s.takeCut f) := by
  have adopt : s.Keeps P (s.adoptCut f.key.toNat) := by
    unfold State.adoptCut
    split
    · exact State.Keeps.trans (t := { s with pu.windowEnd := f.key.toNat }) (.of_same rfl rfl rfl)
        State.keeps_retestLanes
    · exact .refl s
  have own : s.Keeps P (s.adoptOwnCut f.key.toNat) := adopt.trans (.of_same rfl rfl rfl)
  unfold State.takeCut
  split
  · split
    · unfold State.takeOwnCut
      split
      · exact own
      · exact own.trans (State.keeps_raiseFinding _)
    · exact adopt
  all_goals exact adopt

/-- The epoch protocol's modes have traps. -/
theorem State.not_trapFree_of_replaying {m : Mode} (hm : s.rc.mode = m) (h : m.replaying = true) : ¬s.TrapFree := by
  rw [State.TrapFree, hm]
  rintro (rfl | rfl | rfl) <;> cases h

theorem State.keeps_closeEpoch (hm : s.rc.mode.replaying = true) (n : Nat) : s.Keeps P (s.closeEpoch n) := by
  have hmode : s.modeAfterClose.replaying = true := by
    unfold State.modeAfterClose
    split
    · rfl
    · exact hm
  rw [State.closeEpoch_eq]
  refine State.Keeps.trans (t := s.epochClosed n) (.of_eq (fun hf => ?_) rfl rfl) State.keeps_retestLanes
  exact absurd hf (State.not_trapFree_of_replaying rfl hmode)

/-- RUN, PAUSE and STEP change between PAUSED and RUNNING alone (R113, R114). -/
theorem State.keeps_modeCommands (n : Nat) : s.Keeps P s.doRun ∧ s.Keeps P s.doPause ∧ s.Keeps P (s.doStep n) := by
  have modes : ∀ {m : Mode} {pu : Pu}, m.replaying = true → s.Keeps P { s with rc.mode := m, pu := pu } := fun hm =>
    .of_eq (fun hf => absurd hf (State.not_trapFree_of_replaying rfl hm)) rfl rfl
  refine ⟨?_, ?_, ?_⟩
  · unfold State.doRun
    split
    next => exact .of_same rfl rfl rfl
    next => exact modes rfl
    all_goals exact .of_same rfl rfl rfl
  · unfold State.doPause
    split
    next => exact .of_same rfl rfl rfl
    next =>
      split
      · exact modes (pu := s.pu) rfl
      all_goals exact .of_same rfl rfl rfl
    all_goals exact .of_same rfl rfl rfl
  · unfold State.doStep
    split
    next => exact .of_same rfl rfl rfl
    next => exact modes rfl
    all_goals exact .of_same rfl rfl rfl

/-- HALT leaves no lane TRAPPED (R41). -/
theorem Lane.halted_state_ne (x : Lane) : x.halted.state ≠ .trapped := by
  unfold Lane.halted
  dsimp only
  split
  iterate 3 nofun
  · split <;> nofun
  all_goals
    rename_i h
    rw [h]
    nofun

theorem State.keeps_haltBlocks : s.Keeps P s.haltBlocks := by
  refine .of_clear (fun _ => .of_nil (by simp)) fun _ _ l => ?_
  rw [State.lane_haltBlocks]
  exact ⟨Lane.halted_state_ne _, rfl, rfl⟩

end

/-! The frames heard. -/

section
variable {P : Prop} {s : State}

theorem State.keeps_countVeto (drove : Bool) : s.Keeps P (s.countVeto drove) := by
  have raised : s.Keeps P s.raiseVeto := .of_same rfl rfl rfl
  unfold State.countVeto
  split
  · split
    · split
      · exact raised.trans State.keeps_withdraw
      · exact raised
    · exact .of_same rfl rfl rfl
  · exact .refl s

theorem State.keeps_busIdle : s.Keeps P s.busIdle :=
  .of_same rfl rfl rfl

theorem State.keeps_heardVetoed (h : HeardFrame) : s.Keeps P (s.heardVetoed h) := by
  unfold State.heardVetoed
  split
  · exact State.keeps_busIdle
  · exact State.keeps_busIdle.trans (State.keeps_countVeto _)

theorem State.keeps_queueAccepted (f : Frame) : s.Keeps P (s.queueAccepted f) := by
  have push : s.Keeps P (s.pushInbound f) := .of_same (by simp) (by simp) (by simp)
  unfold State.queueAccepted
  split
  iterate 5 exact push
  · split
    · exact State.Keeps.trans (t := { s with biu.vetoCount := 0, biu.failureCount := 0 }) (.of_same rfl rfl rfl)
        (State.keeps_beginSeek _)
    · exact .refl s
  all_goals exact .refl s

theorem State.keeps_heardAccepted (h : HeardFrame) : s.Keeps P (s.heardAccepted h) := by
  unfold State.heardAccepted
  split
  · exact State.keeps_busIdle
  · split
    · exact State.keeps_busIdle.trans (State.keeps_countVeto _)
    · refine (State.keeps_busIdle.trans (State.keeps_countVeto false)).trans ?_
      unfold State.receiveAccepted
      split
      · exact .refl _
      · split
        · exact State.keeps_enterFaulted _
        · exact State.keeps_queueAccepted _

theorem State.keeps_failAttempt : s.Keeps P s.failAttempt := by
  have count : s.Keeps P s.countFailure := .of_same rfl rfl rfl
  unfold State.failAttempt
  split
  · exact count
  · split
    iterate 5 exact count.trans State.keeps_withdraw
    all_goals exact .of_same rfl rfl rfl

theorem State.keeps_readAtOpen {line : Level} : s.Keeps P (s.readAtOpen line) := by
  unfold State.readAtOpen
  split
  · split <;> exact .of_same rfl rfl rfl
  · exact .refl s

theorem State.keeps_beginAttempt : s.Keeps P s.beginAttempt := by
  obtain ⟨b, o, x, h, -⟩ := s.beginAttempt_eq
  rw [h]
  exact .of_same rfl rfl rfl

theorem State.keeps_placeStatus : s.Keeps P s.placeStatus :=
  .of_same (by simp) (by simp) (by simp)

/-- Every effect keeps the queue's order; and the lanes' traps, where port and traps are sound. -/
theorem State.Effect.keeps {t : State} (e : s.Effect t) : s.Keeps (s.PortSound ∧ s.TrapsSound) t := by
  have pop : ∀ {Q}, s.Keeps Q s.popInbound := .of_same (by simp) (by simp) (by simp)
  cases e with
  | words => exact .of_same rfl rfl rfl
  | loadAnswer n r p d _ _ => exact (State.keeps_loadAnswer p d).refreshDrive
  | retry => exact .of_same rfl rfl rfl
  | readFailed r hq =>
    exact (State.keeps_readFailed (fun l ho hp => (hp.1.forLane r l hq ho).1)
      fun ho hp => hp.1.seeking (hp.1.forCheckpoint r hq ho)).settle
  | visit l _ _ hl =>
    exact State.Keeps.trans (t := { s with afu.visitCount := 0, afu.visitEnding := false }) (.of_same rfl rfl rfl)
      (State.keeps_readLane hl)
  | laneAnswer l n r d hq =>
    refine (State.keeps_laneAnswer l d (fun hp => (hp.1.forLane _ l hq rfl).1) fun hp hf => ?_).settle
    rcases (hp.1.forLane _ l hq rfl).2 with hm | hm | hm | hm
    · exact hm
    all_goals exact absurd hf (by simp [State.TrapFree, hm])
  | checkpointAnswer n r c d _ hc =>
    exact (State.keeps_checkpointAnswer c d fun hp => hp.1.seeking (by simp [hc])).settle
  | bus => exact .of_same rfl rfl rfl
  | opened line =>
    exact (State.keeps_readAtOpen.trans State.keeps_beginAttempt).refreshDrive
  | stretchEnds o line _ => exact (State.keeps_endStretch o line).refreshDrive
  | attemptFails => exact (State.keeps_busIdle.trans State.keeps_failAttempt).refreshDrive
  | ownAccepted o _ => exact (State.keeps_ownAccepted o).settle
  | heardAccepted h => exact (State.keeps_heardAccepted h).settle
  | heardVetoed h => exact (State.keeps_heardVetoed h).refreshDrive
  | dropped => exact pop
  | cut f _ _ => exact (pop.trans (State.keeps_takeCut f)).settle
  | event => exact .of_same rfl rfl rfl
  | historyEnds =>
    refine State.Keeps.settle (.of_eq (fun hf => ?_) rfl rfl)
    exact absurd hf (by simp [State.TrapFree, State.endHistory])
  | epochCloses f _ _ he =>
    have hm : s.popInbound.rc.mode.replaying = true := (State.inEmit_iff.1 he).1
    exact (pop.trans (State.keeps_closeEpoch hm _)).settle
  | nextIgnored => exact pop.refreshDrive
  | closePulseEnds => exact .of_same rfl rfl rfl
  | timerSet => exact .of_same rfl rfl rfl
  | rises =>
    refine State.Keeps.refreshDrive ?_
    unfold State.rise
    split <;> exact .of_same rfl rfl rfl
  | suspends => exact State.keeps_suspendOn.refreshDrive
  | timebase b =>
    exact State.Keeps.trans (t := { s with pu.timebase := b }) (.of_same rfl rfl rfl) State.keeps_placeStatus
  | run => exact (pop.trans (State.keeps_modeCommands 0).1).refreshDrive
  | pause => exact (pop.trans (State.keeps_modeCommands 0).2.1).refreshDrive
  | step f a _ => exact (pop.trans (State.keeps_modeCommands (stepArg a)).2.2).refreshDrive
  | seek => exact (pop.trans (State.keeps_beginSeek _)).settle
  | halt => exact (pop.trans State.keeps_haltBlocks).refreshDrive
  | epoch => exact .of_same rfl rfl rfl
  | rate => exact .of_same rfl rfl rfl
  | release f l action _ hl =>
    refine (pop.trans (State.keeps_releaseLane (s := s.popInbound) hl action fun hp hf => ?_)).settle
    have hc := hp.2.clear hf l
    have ht := (hp.2.each l).trapped.1 hl
    simp [hc.2] at ht
  | query => exact .of_same rfl rfl rfl
  | poll => exact pop.trans State.keeps_placeStatus

end

/-- Settles O56: every effect keeps the queue's order, and a reset empties the queue. -/
theorem stepKeepsTheMergeQueueOrdered : Obligations.StepKeepsTheMergeQueueOrdered := by
  intro s t hs hst
  exact step_keeps (Q := State.QueueOrdered) (P := fun _ t => t.QueueOrdered) hst hs
    (queue := fun _ h => { h with }) (back := fun _ h => h) (same := fun _ h => h)
    (effect := fun _ _ h _ e => e.keeps.queue h) (reset := fun _ _ _ => .of_nil rfl)
    (resetEnd := fun _ _ _ h _ => { h with })

theorem State.lane_resetWith (s : State) (cause : StartCause) (l : Fin 16) :
    (s.resetWith cause).lane l = Lane.disabled := by
  simp [State.lane, State.resetWith, State.reset]

/-- Settles O58: every effect keeps the lanes' traps sound, and a reset disables every lane. -/
theorem stepKeepsTheTrapsSound : Obligations.StepKeepsTheTrapsSound := by
  intro s t hport hs hst
  refine step_keeps (Q := fun s => s.PortSound ∧ s.TrapsSound) (P := fun _ t => t.TrapsSound) hst ⟨hport, hs⟩
    (queue := fun _ ⟨h1, h2⟩ => ⟨{ h1 with }, { h2 with }⟩) (back := fun _ h => h) (same := fun _ h => h.2)
    (effect := fun _ _ h _ e => e.keeps.traps h h.2) (reset := fun s cause _ => ?_)
    (resetEnd := fun _ _ _ h _ => { h.2 with })
  have hclear : ∀ l, ((s.resetWith cause).lane l).Clear := fun l => by
    rw [State.lane_resetWith]
    exact ⟨rfl, rfl⟩
  exact ⟨fun l => (hclear l).trapSound (by rw [State.lane_resetWith]; nofun), fun _ => hclear⟩

end Sys2Proof.Machine
end

section
/-! PROOFS. The port's retries and short answers, the recorder sequence, and the GAP record (R27, R28, R33, R34, R171). -/

namespace Sys2Proof.Machine

/-! Retries and late words (R27, R28, R171). -/

/-- A first attempt that times out is read again (R27). -/
theorem State.exec_firstTimeout {s : State} {owner : ReadOwner} {n : Nat} (hr : s.inReset = false)
    (hq : s.afu.request = some { owner := owner, slot := n, retry := false }) :
    exec .archiveReadTimeout s = .next (s.issueRead owner n true) := by
  simp [exec, execArchiveReadTimeout, State.whenLive_live hr, hq]

/-- Words of which fewer than eight are kept change the words alone, whichever block reads (R171). -/
theorem State.exec_answer_of_short {s : State} {words : List PortWord} {r : Request} {c : Instr}
    (hr : s.inReset = false) (hq : s.afu.request = some r) (hs : (s.wordsTaken words).length < 8)
    (hc : c = .loadSlotAnswer words ∧ r.owner = .load ∧ s.rc.load.isSome = true ∨
      c = .laneSlotAnswer words ∧ (∃ l, r.owner = .lane l) ∨
      c = .checkpointSlotAnswer words ∧ r.owner = .checkpoint ∧ s.afu.checkpoint.isSome = true) :
    exec c s = .next { s with afu.words := s.wordsTaken words } := by
  obtain ⟨owner, n, retry⟩ := r
  rcases hc with ⟨rfl, rfl, hload⟩ | ⟨rfl, l, rfl⟩ | ⟨rfl, rfl, hck⟩
  · obtain ⟨p, hp⟩ := Option.isSome_iff_exists.1 hload
    simp only [exec, execLoadSlotAnswer, State.whenLive_live hr, hq, hp, State.takeWords_of_short hs]
  · simp only [exec, execLaneSlotAnswer, State.whenLive_live hr, hq, State.takeWords_of_short hs]
  · obtain ⟨c, hc⟩ := Option.isSome_iff_exists.1 hck
    simp only [exec, execCheckpointSlotAnswer, State.whenLive_live hr, hq, hc, State.takeWords_of_short hs]

/-- An answer that adds no word to fewer than eight changes nothing (R171). -/
theorem State.takeWords_of_stale {s : State} {words : List PortWord} (hl : s.afu.words.length < 8)
    (h : ∀ w ∈ words, w.echo ≠ s.afu.atag) (handOn : Slot → State) : s.takeWords words handOn = s := by
  have hs := State.wordsTaken_of_stale h
  rw [State.takeWords_of_short (by rwa [hs]), hs]

theorem State.whenLive_of_eq {s : State} {f : State → State} (h : f s = s) : s.whenLive f = .next s := by
  unfold State.whenLive
  split
  · rfl
  · rw [h]

/-- Settles O12: a retry is issued, and words that leave fewer than eight are kept. -/
theorem firstTimeoutRetriesAndLateAnswersChangeNothing :
    Obligations.FirstTimeoutRetriesAndLateAnswersChangeNothing := by
  refine ⟨fun s owner n hr hq => State.exec_firstTimeout hr hq, fun s words r taken c hr hq htaken hlen hc => ?_,
    fun s words hlen h => ?_, fun s => rfl⟩
  · subst htaken
    exact State.exec_answer_of_short hr hq hlen hc
  · simp only [exec, execLoadSlotAnswer, execLaneSlotAnswer, execCheckpointSlotAnswer]
    refine ⟨State.whenLive_of_eq ?_, State.whenLive_of_eq ?_, State.whenLive_of_eq ?_⟩
    all_goals
      rcases h with h | h
      · simp only [State.takeWords_of_stale hlen h]
        split <;> rfl
      · rw [h]

/-! The recorder sequence (R34). -/

/-- The successor of a sequence wraps from 2^32 − 1 to 0. -/
theorem eq_add_one_iff_toNat {seq last : BitVec 32} : seq = last + 1 ↔ seq.toNat = (last.toNat + 1) % 2 ^ 32 := by
  rw [← BitVec.toNat_inj, BitVec.toNat_add]
  rfl

/-- The records lost between two sequences, modulo 2^32. -/
theorem toNat_sub_sub_one (seq last : BitVec 32) :
    (seq - last - 1).toNat = (seq.toNat + 2 ^ 32 - last.toNat - 1) % 2 ^ 32 := by
  bv_omega

/-- Settles O20: the last sequence is absent, precedes the record's, or leaves a gap. -/
theorem sequenceJumpsAreCounted : Obligations.SequenceJumpsAreCounted := by
  intro x seq
  refine ⟨fun h => ?_, fun last h hs => ?_, fun last h hs => ?_⟩
  · simp only [Lane.noteSequence, h]
  · simp only [Lane.noteSequence, h, if_pos (eq_add_one_iff_toNat.2 hs)]
  · simp only [Lane.noteSequence, h, if_neg (mt eq_add_one_iff_toNat.1 hs), toNat_sub_sub_one, Config.maxLostCount]

/-! The GAP record (R33). -/

/-- A lane past a GAP record: its lost count and sequence noted, and the slot passed like a skipped one. -/
def Lane.gapTaken (x : Lane) (lost : Nat) (seq : BitVec 32) : Lane :=
  { x with lastSeq := some seq, gap := some (min 65535 (x.gap.getD 0 + lost)) }.skipped

theorem Lane.takeGap_eq (x : Lane) (lost : Nat) (seq : BitVec 32) :
    { x with state := .ready }.takeGap lost seq = x.gapTaken lost seq :=
  rfl

/-- Settles O16: the record only sets its lane, which passes the slot. -/
theorem gapRecordAddsToGapPending : Obligations.GapRecordAddsToGapPending := by
  intro words d s l lost seq ha hb hd
  have ht : (s.answerTaken l).takeSlot l d = (s.answerTaken l).setLane l ((s.lane l).gapTaken lost seq) := by
    simp only [State.takeSlot, hd, State.lane_answerTaken, Lane.takeGap_eq]
  refine ⟨_, ha.exec_eq hb, ?_⟩
  rw [ht]
  exact ha.setsLane (x := (s.lane l).gapTaken lost seq)
    (u := (s.answerTaken l).setLane l ((s.lane l).gapTaken lost seq)) ha.silent rfl rfl rfl

end Sys2Proof.Machine
end

section
/-! PROOFS. HALT, and the inputs of the hold line (R24, R41, R103, R105, R107, R108, R116, R120, R164). -/

namespace Sys2Proof.Machine

/-! HALT (R41, R120, R164). -/

/-- The console command at the front of the inbound queue of an engine that takes frames (R95, R156). -/
theorem State.Takes.frontCommand {s : State} {f : Frame} {rest : List Frame} (h : s.Takes f rest) {code : Nat}
    {a : CommandBody} (hf : Frame.Commands f code a) : s.frontCommand code = some a :=
  State.frontCommand_eq_some.2 ⟨f, State.frontFrame_eq_some.2 ⟨h.live, h.mode, by rw [h.front]; rfl⟩, hf.body, hf.code⟩

theorem State.Takes.popInbound_eq {s : State} {f : Frame} {rest : List Frame} (h : s.Takes f rest) :
    s.popInbound = { s with biu.inbound := rest } := by
  rw [State.popInbound, h.front]
  rfl

/-- In STANDBY the engine releases the line (R103). -/
theorem State.driveFor_of_standby {s : State} (h : s.rc.mode = .standby) : s.driveFor = .released := by
  simp [State.driveFor, h]

/-- The lanes as HALT leaves them (R41). -/
theorem Lane.halted_eq (x : Lane) : x.halted = { x with
    held := none, trap := none, silent := none
    state := match x.state with
      | .disabled => .disabled
      | .ended => .ended
      | .lost => .lost
      | .trapped => (match x.trap with
        | some (.winning _ .ended) => .ended
        | some (.winning _ .lost) => .lost
        | _ => .ready)
      | _ => .ready } := by
  unfold Lane.halted
  cases x.state with
  | trapped =>
    rcases x.trap with _ | (g | ⟨k, b⟩)
    · rfl
    · rfl
    · cases b <;> rfl
  | _ => rfl

/-- The state as HALT leaves it, the line released (R41, R164). -/
theorem State.refreshDrive_haltBlocks (s : State) : s.haltBlocks.refreshDrive = { s with
    afu := { s.afu with
      lanes := s.haltBlocks.afu.lanes, request := none, words := [], checkpoint := none, visitEnding := false }
    mq := { entries := [], cut := .absent }
    pu := { s.pu with phase := .gather, pausePending := false, budget := .unlimited, drive := .released }
    rc := { s.rc with mode := .standby, modeAfterSeek := .paused } } := by
  have hd : s.haltBlocks.driveFor = .released := State.driveFor_of_standby (by simp)
  rw [State.refreshDrive, hd]
  unfold State.haltBlocks State.flushQueue State.mapLanes
  rfl

theorem State.lane_refreshDrive_haltBlocks (s : State) (l : Fin 16) :
    s.haltBlocks.refreshDrive.lane l = (s.lane l).halted := by
  simp

/-- Settles O46: in STANDBY the frame is taken alone; elsewhere HALT sets the blocks and releases the line. -/
theorem haltStopsTheReplay : Obligations.HaltStopsTheReplay := by
  intro s f rest a ht hf
  refine ⟨fun hm => ?_, fun hm => ?_⟩
  · simp only [exec, execHalt, State.whenLive_live ht.live, ht.frontCommand hf, hm, ht.popInbound_eq]
  · have hexec : exec .halt s = .next s.popInbound.haltBlocks.refreshDrive := by
      simp only [exec, execHalt, State.whenLive_live ht.live, ht.frontCommand hf]
      split
      next h => exact absurd h hm
      all_goals rfl
    refine ⟨_, hexec, ?_⟩
    rw [ht.popInbound_eq]
    have hl := State.lane_refreshDrive_haltBlocks { s with biu.inbound := rest }
    rw [State.refreshDrive_haltBlocks] at hl ⊢
    exact ⟨rfl, rfl, rfl, rfl, rfl, rfl, rfl, rfl, fun l => (hl l).trans (s.lane l).halted_eq⟩

/-! The inputs of the hold line (R103, R105, R107, R108, R116). -/

/-- The drive that a command leaves is the one that mode, phase and release conditions call for (R103). -/
theorem State.refreshDrive_holdsLine (s : State) :
    s.refreshDrive.pu.drive = .dominant ↔ s.refreshDrive.HoldsLine :=
  s.driveFor_iff

/-- BHL rises for a PAUSED or RUNNING engine that releases it (R107). -/
theorem State.rises_iff (s : State) : (s.rc.mode.replaying && s.pu.drive == .released) = true ↔
    (s.rc.mode = .paused ∨ s.rc.mode = .running) ∧ s.pu.drive = .released := by
  rw [Bool.and_eq_true, Mode.replaying_iff, beq_iff_eq]

theorem State.rise_eq (s : State) : s.rise = { s with
    pu.phase := if (s.rc.mode = .paused ∨ s.rc.mode = .running) ∧ s.pu.drive = .released then .emit else s.pu.phase
    afu.visitEnding := s.rise.afu.visitEnding } := by
  unfold State.rise
  by_cases h : (s.rc.mode = .paused ∨ s.rc.mode = .running) ∧ s.pu.drive = .released
  · rw [if_pos (s.rises_iff.2 h), if_pos h]
    rfl
  · rw [if_neg (mt s.rises_iff.1 h), if_neg h]

/-- A visit whose read is outstanding ends with it once the gather is over (R24). -/
theorem State.visitEnding_rise (s : State) : s.rise.afu.visitEnding = true ↔ s.afu.visitEnding = true ∨
    (s.rc.mode = .paused ∨ s.rc.mode = .running) ∧ s.pu.drive = .released ∧ s.LaneReadOutstanding := by
  unfold State.rise
  by_cases h : (s.rc.mode = .paused ∨ s.rc.mode = .running) ∧ s.pu.drive = .released
  · rw [if_pos (s.rises_iff.2 h)]
    have hread : s.enterEmit.afu.visitEnding = (s.afu.visitEnding || s.readsForLane) := rfl
    rw [hread, Bool.or_eq_true, State.readsForLane_iff]
    obtain ⟨hm, hd⟩ := h
    simp [hm, hd]
  · rw [if_neg (mt s.rises_iff.1 h)]
    exact ⟨.inl, fun hv => hv.resolve_right fun ⟨hm, hd, _⟩ => h ⟨hm, hd⟩⟩

/-- A dominant line suspends an engine in EMIT (R108). -/
theorem State.suspendOn_dominant_eq (s : State) : s.suspendOn .dominant = { s with
    pu.phase := if (s.rc.mode = .paused ∨ s.rc.mode = .running) ∧ s.pu.phase = .emit then .suspended
      else s.pu.phase } := by
  have hiff : (s.rc.mode.replaying && s.pu.phase == .emit) = true ↔
      (s.rc.mode = .paused ∨ s.rc.mode = .running) ∧ s.pu.phase = .emit := by
    rw [Bool.and_eq_true, Mode.replaying_iff, beq_iff_eq]
  unfold State.suspendOn
  dsimp only
  by_cases h : (s.rc.mode = .paused ∨ s.rc.mode = .running) ∧ s.pu.phase = .emit
  · rw [if_pos (hiff.2 h), if_pos h]
  · rw [if_neg (mt hiff.1 h), if_neg h]

/-- Once the pace time is met, the pace test is; and a timer that already met it stays (R115, R116). -/
theorem State.paceTest_of_met {s : State}
    (h : (s.pu.windowEnd - s.pu.windowStart) * s.pu.pace ≤ 16 * 16777215) :
    let timer := max s.pu.paceTimer (min s.paceTime Config.maxPaceTimer)
    s.pu.paceTimer ≤ timer ∧ (s.PaceTestMet → timer = s.pu.paceTimer) ∧
      (s.pu.windowEnd - s.pu.windowStart) * s.pu.pace ≤ 16 * timer := by
  unfold State.PaceTestMet State.paceTime Config.maxPaceTimer
  generalize (s.pu.windowEnd - s.pu.windowStart) * s.pu.pace = width at h ⊢
  dsimp only
  omega

/-- Settles O25: each input sets its part of the Pace Unit, and the drive follows. -/
theorem holdLineAndPhaseFollowTheirInputs : Obligations.HoldLineAndPhaseFollowTheirInputs := by
  intro s hr
  simp only [exec, execClosePulseEnd, execPaceTimeMet, execBhlRise, execBhlDominantRead, State.whenLive_live hr]
  refine ⟨⟨_, rfl, rfl, State.refreshDrive_holdsLine _⟩, fun hpace => ?_, ?_, ?_⟩
  · obtain ⟨hle, hkept, hmet⟩ := State.paceTest_of_met hpace
    exact ⟨_, rfl, rfl, hle, hkept, hmet, State.refreshDrive_holdsLine _⟩
  · refine ⟨_, rfl, ?_, ?_, s.visitEnding_rise, State.refreshDrive_holdsLine _⟩
    · have h := s.rise_eq
      have hphase : s.rise.pu = { s.pu with phase := s.rise.pu.phase } := by rw [h]
      rw [State.refreshDrive, h]
    · exact congrArg (fun u => u.pu.phase) s.rise_eq
  · refine ⟨_, rfl, ?_, ?_, State.refreshDrive_holdsLine _⟩
    · rw [State.refreshDrive, s.suspendOn_dominant_eq]
    · exact congrArg (fun u => u.pu.phase) s.suspendOn_dominant_eq

end Sys2Proof.Machine
end

section
/-! PROOFS. Open conditions in EMIT, and failed attempts (R24, R68, R86, R87, R97, R98, R107, R108, R109). -/

namespace Sys2Proof.Machine

/-! Failed attempts (R86, R97, R98). -/

/-- The state as a withdrawal leaves it, the line released (R98). -/
theorem State.refreshDrive_withdraw (s : State) : s.withdraw.refreshDrive = { s with
    afu := { s.afu with
      lanes := s.withdraw.afu.lanes, request := none, words := [], checkpoint := none, visitEnding := false }
    mq.cut := .absent
    biu := { s.biu with inbound := [], vetoCount := 0, failureCount := 0 }
    pu := { s.pu with phase := .gather, pausePending := false, drive := .released }
    dst.replies := []
    rc := { s.rc with mode := .withdrawn, statusPending := true } } := by
  have hd : s.withdraw.driveFor = .released := by simp [State.driveFor]
  rw [State.refreshDrive, hd]
  unfold State.withdraw State.mapLanes
  rfl

theorem State.lane_refreshDrive_withdraw (s : State) (l : Fin 16) :
    s.withdraw.refreshDrive.lane l = { s.lane l with silent := none } := by
  rw [State.lane_refreshDrive, State.lane_withdraw]

/-- A withdrawal at the end of a failed attempt. -/
theorem State.withdraws_refreshDrive (s : State) : s.Withdraws s.busIdle.countFailure.withdraw.refreshDrive := by
  have hl := s.busIdle.countFailure.lane_refreshDrive_withdraw
  rw [State.refreshDrive_withdraw] at hl ⊢
  exact ⟨rfl, rfl, rfl, rfl, hl, rfl, rfl, rfl⟩

/-- The commands that end an attempt in failure. -/
theorem State.exec_failsAttempt {s : State} {c : Instr} (hr : s.inReset = false)
    (hc : c = .bitError ∧ s.biu.state = .sending ∨ c = .abortConditionHeard ∧ s.biu.state = .sending ∨
      c = .busAbandonTimeout ∧ (s.biu.state = .sending ∨ s.biu.state = .contending)) :
    exec c s = .next s.busIdle.failAttempt.refreshDrive := by
  rcases hc with ⟨rfl, hs⟩ | ⟨rfl, hs⟩ | ⟨rfl, hs | hs⟩
  · simp only [exec, execBitError, State.whenLive_live hr, hs]
  · simp only [exec, execAbortConditionHeard, State.whenLive_live hr, hs]
  · simp only [exec, execBusAbandonTimeout, State.whenLive_live hr, hs]
  · simp only [exec, execBusAbandonTimeout, State.whenLive_live hr, hs]

/-- Below the limit, and in LOADING and FAULTED, a failed attempt only counts (R97, R98). -/
theorem State.failAttempt_counts {s : State}
    (h : s.biu.failureCount + 1 < 16 ∨ s.rc.mode = .loading ∨ s.rc.mode = .faulted) :
    s.failAttempt = s.countFailure := by
  unfold State.failAttempt
  split
  · rfl
  next hlimit =>
    have hlimit : ¬s.biu.failureCount + 1 < 16 := hlimit
    rcases h with h | h | h
    · exact absurd h hlimit
    · rw [h]
    · rw [h]

/-- At the limit the engine withdraws from the modes that take frames (R98). -/
theorem State.failAttempt_withdraws {s : State} (h : 16 ≤ s.biu.failureCount + 1)
    (hm : s.rc.mode.takesFrames = true) : s.failAttempt = s.countFailure.withdraw := by
  unfold State.failAttempt
  rw [if_neg (not_lt.2 h)]
  cases hmode : s.rc.mode with
  | loading | faulted | withdrawn => rw [hmode] at hm; cases hm
  | standby | seeking | paused | running | ended => rfl

/-- At the limit a WITHDRAWN engine gives its STATUS up (R98). -/
theorem State.failAttempt_givesUp {s : State} (h : 16 ≤ s.biu.failureCount + 1) (hm : s.rc.mode = .withdrawn) :
    s.failAttempt = { s.countFailure with rc.statusPending := false } := by
  unfold State.failAttempt
  rw [if_neg (not_lt.2 h), hm]

/-- Settles O33: the attempt counts, withdraws, or gives the STATUS up. -/
theorem failedAttemptsAreCountedAndTheSixteenthWithdraws :
    Obligations.FailedAttemptsAreCountedAndTheSixteenthWithdraws := by
  intro s c hr hc
  refine ⟨_, State.exec_failsAttempt hr hc, fun h => ?_, fun h hm => ?_, fun h hm => ?_⟩
  · rw [State.failAttempt_counts (s := s.busIdle) h]
    rfl
  · rw [State.failAttempt_withdraws (s := s.busIdle) h hm]
    exact s.withdraws_refreshDrive
  · have hcount : min 16 (s.biu.failureCount + 1) = 16 := min_eq_left h
    have e := State.failAttempt_givesUp (s := s.busIdle) h hm
    rw [State.countFailure, State.busIdle, Config.failureLimit, hcount] at e
    rw [State.busIdle, e]
    rfl

/-! Open conditions (R24, R87, R107, R108, R109). -/

theorem State.exec_openCondition {s : State} (hr : s.inReset = false) (hs : s.biu.state = .idle) (line : Level) :
    exec (.openCondition line) s = .next (s.readAtOpen line).beginAttempt.refreshDrive := by
  simp only [exec, execOpenCondition, State.whenLive_live hr, hs]

/-- BHL as read at an open condition changes the phase, and may end a visit with its read (R24, R107, R108). -/
theorem State.readAtOpen_eq (s : State) (line : Level) : s.readAtOpen line = { s with
    pu.phase := (s.readAtOpen line).pu.phase, afu.visitEnding := (s.readAtOpen line).afu.visitEnding } := by
  unfold State.readAtOpen
  split
  · split <;> rfl
  · rfl

/-- A released line read recessive brings the engine into EMIT (R87, R107). -/
theorem State.readAtOpen_recessive {s : State} (hm : s.rc.mode.replaying = true) (hd : s.pu.drive = .released) :
    s.readAtOpen .recessive = s.enterEmit := by
  simp [State.readAtOpen, hm, State.readBhl, hd, phaseAtOpen]

/-- A line read dominant suspends an engine in EMIT (R108). -/
theorem State.readAtOpen_dominant {s : State} {line : Level} (hm : s.rc.mode.replaying = true)
    (hl : line = .dominant ∨ s.pu.drive = .dominant) (hp : s.pu.phase = .emit) :
    s.readAtOpen line = { s with pu.phase := .suspended } := by
  have hread : s.readBhl line = .dominant := by
    unfold State.readBhl
    cases hd : s.pu.drive with
    | dominant => rfl
    | released => exact hl.resolve_right (by rw [hd]; nofun)
  simp only [State.readAtOpen, hm, if_true, hread, hp, phaseAtOpen]

/-- With room in its inbound queue the engine contends with its offer, or receives (R84, R87, R91). -/
theorem State.beginAttempt_of_room {s : State} (h : s.biu.inbound.length < 16) : s.beginAttempt = { s with
    biu.state := if s.offer.isSome then .contending else .receiving
    biu.outbound := s.offer, biu.fullAtOpen := false, biu.discarding := false } := by
  have hfull : s.inboundFull = false := decide_eq_false (not_le.2 h)
  unfold State.beginAttempt
  rw [hfull, if_neg nofun]
  cases ho : s.offer <;> rfl

theorem State.lanesEnded_iff (s : State) : s.lanesEnded = true ↔
    ∀ l, (s.lane l).state = .disabled ∨ (s.lane l).state = .ended ∨ (s.lane l).state = .lost := by
  unfold State.lanesEnded
  rw [State.allLanes_iff]
  refine forall_congr' fun l => ?_
  simp only [Lane.configured]
  cases (s.lane l).state <;> simp

/-- A window entry at the head of the queue is offered as its EVENT (R68). -/
theorem State.emitOffer_event {s : State} {e : Entry} {q : List Entry} (h : s.mq.entries = e :: q)
    (hw : e.time < s.pu.windowEnd) :
    s.emitOffer = { frame := e.frame s.straps.station false {}, entry := some e.key } := by
  have hhead : s.windowHead = some e := by
    rw [State.windowHead, h]
    exact if_pos hw
  rw [State.emitOffer, hhead]

/-- Without a window entry the engine offers the NEXT of its earliest pending time (R109). -/
theorem State.emitOffer_next {s : State} (h : s.windowHead = none) : s.emitOffer =
    { frame := { key := BitVec.ofNat 40 s.nextKey, station := s.straps.station, body := .next }, entry := none } := by
  rw [State.emitOffer, h]

/-- What the engine reports is a FINDING, a STATE or a STATUS (R84). -/
theorem State.reportOffer_classCode {s : State} {o : Outbound} (h : s.reportOffer = some o) :
    o.frame.body.classCode = 4#3 ∨ o.frame.body.classCode = 5#3 ∨ o.frame.body.classCode = 6#3 := by
  have finding : s.findingOffer = some o → o.frame.body.classCode = 4#3 := fun h => by
    unfold State.findingOffer at h
    split at h
    · cases h
    · rw [← Option.some.inj h]
      rfl
  have state : s.stateOffer = some o → o.frame.body.classCode = 5#3 := fun h => by
    unfold State.stateOffer at h
    split at h
    · cases h
    · split at h
      · cases h
      · rw [← Option.some.inj h]
        rfl
  have status : s.statusOffer = some o → o.frame.body.classCode = 6#3 := fun h => by
    unfold State.statusOffer at h
    split at h
    · rw [← Option.some.inj h]
      rfl
    · cases h
  simp only [State.reportOffer, Option.orElse_eq_orElse, Option.orElse_eq_or, Option.or_eq_some_iff] at h
  obtain h | ⟨-, h | ⟨-, h⟩⟩ := h
  · exact .inl (finding h)
  · exact .inr (.inl (state h))
  · exact .inr (.inr (status h))

/-- Settles O28: the line as read sets the phase, and the phase the offer. -/
theorem openConditionInEmitOffersTheEarliestPendingTime :
    Obligations.OpenConditionInEmitOffersTheEarliestPendingTime := by
  intro line s hr hidle hmode hroom
  have hm : s.rc.mode.replaying = true := Mode.replaying_iff.2 hmode
  have hread := s.readAtOpen_eq line
  have hattempt : (s.readAtOpen line).beginAttempt = _ :=
    State.beginAttempt_of_room (by rw [hread]; exact hroom)
  refine ⟨_, State.exec_openCondition hr hidle line, ?_, ?_, ?_, ?_, ?_, ?_, ?_⟩
  iterate 5
    rw [hattempt, hread]
    rfl
  · rintro rfl hd
    have hemit := State.readAtOpen_recessive hm hd
    have hoffer : s.enterEmit.offer = some s.emitOffer := by
      rcases hmode with h | h <;> simp [State.offer, State.enterEmit, State.ceaseVisits, h] <;> rfl
    rw [hattempt, hemit, hoffer]
    refine ⟨rfl, ?_, s.emitOffer, rfl, fun e q hq hw => State.emitOffer_event hq hw, fun e q hq hw => ?_,
      fun hq hl => ?_, fun hq hl => ?_⟩
    · have hv : s.enterEmit.afu.visitEnding = (s.afu.visitEnding || s.readsForLane) := rfl
      rw [← State.readsForLane_iff, ← Bool.or_eq_true, ← hv]
      rfl
    · rw [State.emitOffer_next (by simp [State.windowHead, hq, hw]), State.nextKey, hq]
    · have hended : s.lanesEnded = false := by
        rw [Bool.eq_false_iff, ne_eq, State.lanesEnded_iff]
        obtain ⟨l, hdis, hend, hlost⟩ := hl
        exact fun h => (h l).elim hdis fun h => h.elim hend hlost
      rw [State.emitOffer_next (by simp [State.windowHead, hq]), State.nextKey, hq]
      simp only [hended, Bool.false_eq_true, if_false, Config.noneTime, Config.maxTime]
      split <;> rfl
    · rw [State.emitOffer_next (by simp [State.windowHead, hq]), State.nextKey, hq]
      simp only [s.lanesEnded_iff.2 hl]
      rfl
  · intro hl hp
    have hoffer : State.offer { s with pu.phase := .suspended } = s.reportOffer := by
      rcases hmode with h | h <;> simp [State.offer, h] <;> rfl
    rw [hattempt, State.readAtOpen_dominant hm hl hp, hoffer]
    exact ⟨rfl, rfl, fun o ho => State.reportOffer_classCode ho⟩

end Sys2Proof.Machine
end

section
/-! PROOFS. An EVENT on its way to insertion (R31, R34, R36, R47 to R53, R63, R140 to R143). -/

namespace Sys2Proof.Machine

/-! One lane, the queue and the findings set together. -/

/-- Lane l stands as `x`, the queue as `q` and the findings as `k`; the rest is as in `s`. -/
def State.atLane (s : State) (l : Fin 16) (x : Lane) (q : List Entry) (k : Cku) : State :=
  { s.setLane l x with mq.entries := q, cku := k }

section
variable {s : State} {l : Fin 16} {x y : Lane} {q : List Entry} {k : Cku}

theorem State.lane_atLane : (s.atLane l y q k).lane l = y :=
  State.lane_setLane_same _ _ _

theorem State.lane_atLane_other {m : Fin 16} (h : m ≠ l) : (s.atLane l y q k).lane m = s.lane m :=
  State.lane_setLane_other (s := s) h y

/-- The lane is set again. -/
theorem State.setLane_atLane : (s.atLane l y q k).setLane l x = s.atLane l x q k := by
  rw [State.atLane, State.atLane, ← State.setLane_setLane s l y x]
  rfl

theorem State.raiseFinding_atLane (f : Finding) :
    ∃ k', k.Raises k' f ∧ (s.atLane l y q k).raiseFinding f = s.atLane l y q k' := by
  refine ⟨_, State.raises_raiseFinding (s.atLane l y q k) f, ?_⟩
  rw [State.raiseFinding_eq]
  rfl

theorem State.insertEvent_atLane (e : HeldEvent) : (s.atLane l y q k).insertEvent l e =
    s.atLane l (y.afterInsert e (y.clock.holdTime s.holdFloor e) s.pu.windowEnd)
      (insertEntry (y.entryFor l e (y.clock.holdTime s.holdFloor e)) q) k := by
  rw [State.insertEvent, State.lane_atLane]
  dsimp only
  rw [State.setLane_atLane]
  rfl

end

/-! What a slot leaves behind. -/

/-- Lane l's slot has been taken from `s` and has left the lane as `x`, the queue as `q` and the findings as `k`; the
visit has not yet gone on or ended. -/
structure State.LeavesSlot (s u : State) (l : Fin 16) (x : Lane) (q : List Entry) (k : Cku) : Prop where
  taken : s.SlotTaken u l x
  entries : u.mq.entries = q
  cku : u.cku = k
  kept : u = { s with afu := u.afu, mq := u.mq, cku := u.cku }

/-- A state in which lane l's slot is being taken: its answer has come, the lane stands as `y`, the findings as `k`. -/
abbrev State.slotAt (s : State) (l : Fin 16) (y : Lane) (k : Cku) : State :=
  (s.answerTaken l).atLane l y s.mq.entries k

section
variable {s u : State} {l : Fin 16} {x y : Lane} {k : Cku} {q : List Entry}

theorem State.leaves_slotAt : s.LeavesSlot (s.slotAt l x k) l x s.mq.entries k :=
  ⟨(State.slotTaken_setLane x).withCku k, rfl, rfl, rfl⟩

theorem State.leaves_inserted : s.LeavesSlot ((s.answerTaken l).atLane l x q k) l x q k :=
  ⟨(State.slotTaken_insert x q).withCku k, rfl, rfl, rfl⟩

/-- What a finding leaves is determined. -/
theorem Cku.Raises.unique {a b c : Cku} {f : Finding} (hb : a.Raises b f) (hc : a.Raises c f) : b = c := by
  unfold Cku.Raises at hb hc
  split at hb
  next h => rw [hb]; rw [if_pos h] at hc; exact hc.symm
  next h => rw [hb]; rw [if_neg h] at hc; exact hc.symm

/-- The end of the visit on what the slot leaves. -/
theorem State.AnswersLane.leaves (ha : s.AnswersLane l) (h : s.LeavesSlot u l x q k) (hx : x.silent = none)
    (hw : x.fetchWidth = (s.lane l).fetchWidth) :
    s.TakesSlot (u.continueVisit l).settle l x ∧ (u.continueVisit l).settle.mq.entries = q ∧
      (u.continueVisit l).settle.cku = k ∧ s.OnlyLanesAndQueues (u.continueVisit l).settle := by
  obtain ⟨hentries, hcku⟩ := State.settle_continueVisit u l
  exact ⟨h.taken.takes ha hx hw, hentries.trans h.entries, hcku.trans h.cku, h.taken.onlyLanes ha h.kept⟩

end

/-! The recorder sequence and the reference checks. -/

/-- A lane whose record's sequence has been compared (R34), READY. -/
def Lane.noted (x : Lane) (seq : BitVec 32) : Lane :=
  { x.noteSequence seq with state := .ready }

/-- The recorder sequence changes the last sequence and gap pending alone (R34). -/
theorem Lane.noteSequence_gap (x : Lane) (seq : BitVec 32) :
    x.noteSequence seq = { x with lastSeq := some seq, gap := (x.noteSequence seq).gap } := by
  unfold Lane.noteSequence
  split
  · rfl
  · split <;> rfl

theorem Lane.noteSequence_ready (x : Lane) (seq : BitVec 32) :
    { x with state := .ready }.noteSequence seq = x.noted seq := by
  unfold Lane.noted Lane.noteSequence
  dsimp only
  split
  · rfl
  · split <;> rfl

theorem Lane.noted_eq (x : Lane) (seq : BitVec 32) :
    x.noted seq = { x with state := .ready, lastSeq := some seq, gap := (x.noteSequence seq).gap } := by
  rw [Lane.noted, Lane.noteSequence_gap]

/-- A skipped event's slot is passed with its sequence noted. -/
theorem Lane.passSlot_noted (x : Lane) (seq : BitVec 32) : (x.noted seq).passSlot = { x.noteSequence seq with
    readPos := x.readPos + 1, held := none, trap := none
    state := if x.slotCount ≤ x.readPos + 1 then .ended else .ready } := by
  rw [Lane.noted_eq, Lane.noteSequence_gap]
  rfl

/-- The lane past an event that it has inserted (R36, R50). -/
theorem Lane.afterInsert_noted (x : Lane) (seq : BitVec 32) (e : HeldEvent) (time stop : Nat) :
    (x.noted seq).advance.afterInsert e time stop = { x with
      lastSeq := some seq, gap := none, insertions := x.insertions + 1
      clock := { x.clock with lastRaw := e.raw, lastCorrected := time }
      readPos := x.readPos + 1, held := none, trap := none
      state := if x.slotCount ≤ x.readPos + 1 then .ended else if stop ≤ time then .passed else .ready } := by
  rw [Lane.noted_eq]
  rfl

/-- The entry of an event that its lane has corrected (R35, R63). -/
theorem Lane.entryFor_noted (x : Lane) (l : Fin 16) (seq : BitVec 32) (device : BitVec 16) (kind : EventKind)
    (stamp : BitVec 48) (time : Nat) {e : HeldEvent} (he : e = x.clock.correct device kind stamp x.readPos) :
    (x.noted seq).advance.entryFor l e time =
      { time := time, lane := l, laneSeq := x.insertions, recorder := x.recorder, slot := x.readPos,
        device := device, kind := kind, rawStamp := stamp, tick := x.clock.tick, quality := e.quality
        held := decide (e.unheld < time) || e.clamped, gapBefore := (x.noteSequence seq).gap
        released := false } := by
  rw [Lane.noted_eq, he]
  rfl

/-- The reference checks, spelled out (R10, R140). -/
theorem Dst.referenceCheck_eq (t : Dst) (l : Fin 16) (device : BitVec 16) : t.referenceCheck l device =
    { unknownDevice := decide (∀ dev ∈ t.devices, dev.number ≠ device),
      outOfRange := decide (t.ranges ≠ [] ∧
        ∀ r ∈ t.ranges, r.low ≤ device.toNat → device.toNat ≤ r.high → r.mask.getLsbD l.val = false) } := by
  have hunknown : (!t.holds device) = decide (∀ dev ∈ t.devices, dev.number ≠ device) := by
    rw [Bool.eq_iff_iff]
    simp [Dst.holds, Dst.find]
  have hrange : (!t.ranges.isEmpty && !t.ranges.any fun r => r.covers device && r.mask.getLsbD l.val) =
      decide (t.ranges ≠ [] ∧
        ∀ r ∈ t.ranges, r.low ≤ device.toNat → device.toNat ≤ r.high → r.mask.getLsbD l.val = false) := by
    rw [Bool.eq_iff_iff]
    simp [DeviceRange.covers]
  rw [Dst.referenceCheck, hunknown, hrange]

theorem Dst.referenceCheck_any (t : Dst) (l : Fin 16) (device : BitVec 16) :
    (t.referenceCheck l device).any = true ↔
      (t.referenceCheck l device).unknownDevice = true ∨ (t.referenceCheck l device).outOfRange = true := by
  unfold Dst.referenceCheck
  generalize (!t.holds device) = unknown
  generalize (!t.ranges.isEmpty && !t.ranges.any fun r => r.covers device && r.mask.getLsbD l.val) = out
  revert unknown out
  decide

/-- A device that the table holds and a configured range allows the lane to report passes the checks. -/
theorem Dst.referenceCheck_passes {t : Dst} {l : Fin 16} {device : BitVec 16}
    (hdev : ∃ dev ∈ t.devices, dev.number = device)
    (hrange : t.ranges = [] ∨
      ∃ r ∈ t.ranges, r.low ≤ device.toNat ∧ device.toNat ≤ r.high ∧ r.mask.getLsbD l.val = true) :
    (t.referenceCheck l device).unknownDevice = false ∧ (t.referenceCheck l device).outOfRange = false := by
  rw [Dst.referenceCheck_eq]
  refine ⟨by simpa using hdev, decide_eq_false fun ⟨hne, hall⟩ => ?_⟩
  obtain ⟨r, hr, hlow, hhigh, hbit⟩ := hrange.resolve_left hne
  rw [hall r hr hlow hhigh] at hbit
  cases hbit

section
variable {s : State} {l : Fin 16} {y : Lane} {q : List Entry} {k : Cku} {e : HeldEvent}

/-- An anomaly of the reference checks is skipped in SEEKING and under PASS (R141, R142). -/
theorem State.referenceStage_skips (ha : (s.dst.referenceCheck l e.device).any = true)
    (hm : s.rc.mode = .seeking ∨ y.mask.group3 = .pass) :
    ∃ k', k.Raises k' (laneFinding l 3 (s.dst.referenceCheck l e.device) .skipped (some e.device) e.slot e.unheld) ∧
      (s.atLane l y q k).referenceStage l e = s.atLane l y.passSlot q k' := by
  obtain ⟨k', hk, hf⟩ := State.raiseFinding_atLane (s := s) (l := l) (y := y.passSlot) (q := q) (k := k)
    (laneFinding l 3 (s.dst.referenceCheck l e.device) .skipped (some e.device) e.slot e.unheld)
  refine ⟨k', hk, ?_⟩
  have hcheck : ((s.atLane l y q k).dst.referenceCheck l e.device).any = true := ha
  have hskip : ((s.atLane l y q k).rc.mode == .seeking || y.mask.group3 == .pass) = true := by
    rw [Bool.or_eq_true, beq_iff_eq, beq_iff_eq]
    exact hm
  rw [State.referenceStage, State.lane_atLane, if_pos hcheck, if_pos hskip, State.setLane_atLane]
  exact hf

/-- Otherwise an anomaly of the reference checks traps the lane with the event (R141, R143). -/
theorem State.referenceStage_holds (ha : (s.dst.referenceCheck l e.device).any = true) (hm : s.rc.mode ≠ .seeking)
    (hmask : y.mask.group3 = .hold) :
    ∃ k', k.Raises k'
        (laneFinding l 3 (s.dst.referenceCheck l e.device) .heldForRelease (some e.device) e.slot e.unheld) ∧
      (s.atLane l y q k).referenceStage l e =
        s.atLane l { y with state := .trapped, held := some (.event e), trap := some (.fetch 3) } q k' := by
  obtain ⟨k', hk, hf⟩ := State.raiseFinding_atLane (s := s) (l := l)
    (y := { y with state := .trapped, held := some (.event e), trap := some (.fetch 3) }) (q := q) (k := k)
    (laneFinding l 3 (s.dst.referenceCheck l e.device) .heldForRelease (some e.device) e.slot e.unheld)
  refine ⟨k', hk, ?_⟩
  have hcheck : ((s.atLane l y q k).dst.referenceCheck l e.device).any = true := ha
  have hhold : ¬((s.atLane l y q k).rc.mode == .seeking || y.mask.group3 == .pass) = true := by
    rw [Bool.or_eq_true, beq_iff_eq, beq_iff_eq, hmask]
    exact not_or.2 ⟨hm, nofun⟩
  rw [State.referenceStage, State.trapAtFetch, State.lane_atLane, if_pos hcheck, if_neg hhold, State.setLane_atLane]
  exact hf

/-- Without an anomaly the event goes on to its insertion. -/
theorem State.referenceStage_of_regular (ha : (s.dst.referenceCheck l e.device).any = false) :
    s.referenceStage l e = s.insertOrStall l e := by
  rw [State.referenceStage, if_neg (ha ▸ nofun)]

/-- With an entry free it is inserted (R36, R50, R51). -/
theorem State.referenceStage_inserts (ha : (s.dst.referenceCheck l e.device).any = false) (hq : q.length < 256) :
    (s.atLane l y q k).referenceStage l e =
      s.atLane l (y.advance.afterInsert e (y.clock.holdTime s.holdFloor e) s.pu.windowEnd)
        (insertEntry (y.advance.entryFor l e (y.clock.holdTime s.holdFloor e)) q) k := by
  have hfull : (s.atLane l y q k).queueFull = false := decide_eq_false (not_le.2 hq)
  rw [State.referenceStage_of_regular (s := s.atLane l y q k) ha, State.insertOrStall, hfull, if_neg nofun,
    State.lane_atLane, State.setLane_atLane, State.insertEvent_atLane]
  rfl

end

/-! The event by mode and by the lane's mask for group 2 (R51, R52). -/

/-- An event with an entry free is corrected once its sequence has been compared (R31, R34). -/
theorem State.takeSlot_event {s : State} {d : Slot} {device : BitVec 16} {kind : EventKind} {stamp : BitVec 48}
    {seq : BitVec 32} (hd : classify d = .event device kind stamp seq) (hq : s.mq.entries.length < 256) (l : Fin 16) :
    (s.answerTaken l).takeSlot l d = (s.slotAt l ((s.lane l).noted seq) s.cku).takeEvent l device kind stamp := by
  have hfull : (s.answerTaken l).queueFull = false := decide_eq_false (not_le.2 hq)
  simp only [State.takeSlot, hd, hfull, Bool.false_eq_true, if_false, State.lane_answerTaken, Lane.noteSequence_ready]
  rfl

/-- The correction does not depend on the sequence (R47, R48, R49). -/
theorem Lane.correct_noted (x : Lane) (seq : BitVec 32) (device : BitVec 16) (kind : EventKind) (stamp : BitVec 48) :
    (x.noted seq).clock.correct device kind stamp (x.noted seq).readPos = x.clock.correct device kind stamp x.readPos := by
  rw [Lane.noted_eq]

section
variable {s : State} {l : Fin 16} {x : Lane} {seq : BitVec 32} {k : Cku} {device : BitVec 16} {kind : EventKind}
  {stamp : BitVec 48} {e : HeldEvent}

/-- In SEEKING an event at or above the seek time goes to the reference checks (R51). -/
theorem State.takeEvent_seeking (hm : s.rc.mode = .seeking) (he : e = x.clock.correct device kind stamp x.readPos)
    (ht : s.rc.seekTime ≤ max e.unheld x.clock.lastCorrected) :
    (s.slotAt l (x.noted seq) k).takeEvent l device kind stamp = (s.slotAt l (x.noted seq) k).referenceStage l e := by
  have hmode : (s.slotAt l (x.noted seq) k).rc.mode = .seeking := hm
  have hlate : ¬(x.noted seq).clock.holdTime 0 e < (s.slotAt l (x.noted seq) k).rc.seekTime := by
    rw [Lane.noted_eq]
    refine not_lt.2 (ht.trans ?_)
    simp [ClockModel.holdTime]
  simp only [State.takeEvent, hmode, State.lane_atLane, Lane.correct_noted, ← he, State.takeEventSeeking, if_neg hlate]

/-- Outside SEEKING a REGRESSION is looked for first (R52). -/
theorem State.takeEvent_live (hm : s.rc.mode ≠ .seeking) (he : e = x.clock.correct device kind stamp x.readPos) :
    (s.slotAt l (x.noted seq) k).takeEvent l device kind stamp = (s.slotAt l (x.noted seq) k).takeEventLive l e := by
  unfold State.takeEvent
  rw [State.lane_atLane, Lane.correct_noted, ← he]
  dsimp only
  split
  next h => exact absurd h hm
  all_goals rfl

theorem Lane.regression_noted (x : Lane) (seq : BitVec 32) (raw : Nat) :
    (x.noted seq).clock.regression raw = true ↔ raw < x.clock.lastRaw := by
  rw [Lane.noted_eq]
  exact decide_eq_true_iff

/-- Without a REGRESSION the event goes to the reference checks. -/
theorem State.takeEventLive_of_regular (h : x.clock.lastRaw ≤ e.raw) :
    (s.slotAt l (x.noted seq) k).takeEventLive l e = (s.slotAt l (x.noted seq) k).referenceStage l e := by
  rw [State.takeEventLive, State.lane_atLane, if_neg (mt (x.regression_noted seq e.raw).1 (not_lt.2 h))]

/-- Under PASS a REGRESSION raises its finding before the reference checks (R52). -/
theorem State.takeEventLive_of_pass (h : e.raw < x.clock.lastRaw) (hmask : x.mask.group2 = .pass) :
    ∃ k', k.Raises k' (laneFinding l 2 { regression := true } .applied (some e.device) e.slot e.unheld) ∧
      (s.slotAt l (x.noted seq) k).takeEventLive l e = (s.slotAt l (x.noted seq) k').referenceStage l e := by
  obtain ⟨k', hk, hf⟩ := State.raiseFinding_atLane (s := s.answerTaken l) (l := l) (y := x.noted seq)
    (q := s.mq.entries) (k := k) (laneFinding l 2 { regression := true } .applied (some e.device) e.slot e.unheld)
  refine ⟨k', hk, ?_⟩
  have hgroup : (x.noted seq).mask.group2 = .pass := by rw [Lane.noted_eq]; exact hmask
  rw [State.takeEventLive, State.lane_atLane, if_pos ((x.regression_noted seq e.raw).2 h), hgroup, hf]

/-- Under HOLD a REGRESSION traps the lane with the event (R52). -/
theorem State.takeEventLive_of_hold (h : e.raw < x.clock.lastRaw) (hmask : x.mask.group2 = .hold) :
    ∃ k', k.Raises k' (laneFinding l 2 { regression := true } .heldForRelease (some e.device) e.slot e.unheld) ∧
      (s.slotAt l (x.noted seq) k).takeEventLive l e = s.slotAt l
        { x.noteSequence seq with state := .trapped, held := some (.event e), trap := some (.fetch 2) } k' := by
  obtain ⟨k', hk, hf⟩ := State.raiseFinding_atLane (s := s.answerTaken l) (l := l)
    (y := { x.noteSequence seq with state := .trapped, held := some (.event e), trap := some (.fetch 2) })
    (q := s.mq.entries) (k := k)
    (laneFinding l 2 { regression := true } .heldForRelease (some e.device) e.slot e.unheld)
  refine ⟨k', hk, ?_⟩
  have hgroup : (x.noted seq).mask.group2 = .hold := by rw [Lane.noted_eq]; exact hmask
  rw [State.takeEventLive, State.lane_atLane, if_pos ((x.regression_noted seq e.raw).2 h), hgroup]
  dsimp only
  rw [State.trapAtFetch, State.lane_atLane, State.setLane_atLane]
  exact hf

end

/-- The floor of the hold by mode (R50, R51). -/
theorem State.holdFloor_eq (s : State) : s.holdFloor = if s.rc.mode = .seeking then 0 else s.pu.windowStart := by
  unfold State.holdFloor
  cases s.rc.mode <;> simp

/-- What the reference checks of a corrected event leave, from the findings `k` (R36, R50, R51, R140 to R143). -/
structure State.StageLeaves (s t : State) (l : Fin 16) (x : Lane) (seq : BitVec 32) (device : BitVec 16)
    (kind : EventKind) (stamp : BitVec 48) (e : HeldEvent) (a : AnomalySet) (k : Cku) : Prop where
  only : s.OnlyLanesAndQueues t
  skips : (a.unknownDevice = true ∨ a.outOfRange = true) → (s.rc.mode = .seeking ∨ x.mask.group3 = .pass) →
    s.TakesSlot t l { x.noteSequence seq with
      readPos := x.readPos + 1, held := none, trap := none
      state := if x.slotCount ≤ x.readPos + 1 then .ended else .ready } ∧
    k.Raises t.cku
      { lane := l, group := 3, anomalies := a, disposition := .skipped, device := some device,
        slot := x.readPos, key := e.unheld } ∧
    t.mq.entries = s.mq.entries
  holds : (a.unknownDevice = true ∨ a.outOfRange = true) → s.rc.mode ≠ .seeking → x.mask.group3 = .hold →
    s.TakesSlot t l { x.noteSequence seq with
      state := .trapped, held := some (.event e), trap := some (.fetch 3) } ∧
    k.Raises t.cku
      { lane := l, group := 3, anomalies := a, disposition := .heldForRelease, device := some device,
        slot := x.readPos, key := e.unheld } ∧
    t.mq.entries = s.mq.entries
  inserts : a.unknownDevice = false → a.outOfRange = false → ∀ time,
    time = max e.unheld (max x.clock.lastCorrected (if s.rc.mode = .seeking then 0 else s.pu.windowStart)) →
    s.TakesSlot t l { x with
      lastSeq := some seq, gap := none, insertions := x.insertions + 1
      clock := { x.clock with lastRaw := e.raw, lastCorrected := time }
      readPos := x.readPos + 1, held := none, trap := none
      state :=
        if x.slotCount ≤ x.readPos + 1 then .ended else if s.pu.windowEnd ≤ time then .passed else .ready } ∧
    t.cku = k ∧
    t.mq.entries = insertEntry
      { time := time, lane := l, laneSeq := x.insertions, recorder := x.recorder, slot := x.readPos,
        device := device, kind := kind, rawStamp := stamp, tick := x.clock.tick, quality := e.quality
        held := decide (e.unheld < time) || e.clamped, gapBefore := (x.noteSequence seq).gap
        released := false } s.mq.entries

/-- The reference checks and the end of the visit behind them. -/
theorem State.AnswersLane.stageLeaves {s : State} {l : Fin 16} (ha : s.AnswersLane l) {x : Lane} (hx : x = s.lane l)
    {device : BitVec 16} {kind : EventKind} {stamp : BitVec 48} (seq : BitVec 32) {e : HeldEvent}
    (he : e = x.clock.correct device kind stamp x.readPos) (hq : s.mq.entries.length < 256) (k : Cku) :
    s.StageLeaves (((s.slotAt l (x.noted seq) k).referenceStage l e).continueVisit l).settle l x seq device kind stamp e
      (s.dst.referenceCheck l device) k := by
  have hdevice : e.device = device := by rw [he]; rfl
  have hslot : e.slot = x.readPos := by rw [he]; rfl
  have hsilent : x.silent = none := hx ▸ ha.silent
  have hwidth : x.fetchWidth = (s.lane l).fetchWidth := by rw [hx]
  have hmask : (x.noted seq).mask = x.mask := by rw [Lane.noted_eq]
  have hnote := x.noteSequence_gap seq
  have hany := s.dst.referenceCheck_any l device
  by_cases hbad : (s.dst.referenceCheck l device).any = true
  · by_cases hskip : s.rc.mode = .seeking ∨ x.mask.group3 = .pass
    · obtain ⟨k', hk, hu⟩ := State.referenceStage_skips (s := s.answerTaken l) (y := x.noted seq)
        (q := s.mq.entries) (k := k) (by rwa [hdevice])
        (by rwa [hmask])
      rw [hdevice, hslot] at hk
      rw [hu, Lane.passSlot_noted]
      obtain ⟨htakes, hentries, hcku, honly⟩ := ha.leaves (State.leaves_slotAt (k := k')
        (x := { x.noteSequence seq with
          readPos := x.readPos + 1, held := none, trap := none
          state := if x.slotCount ≤ x.readPos + 1 then .ended else .ready }))
        (by rw [hnote]; exact hsilent) (by rw [hnote]; exact hwidth)
      exact ⟨honly, fun _ _ => ⟨htakes, hcku.symm ▸ hk, hentries⟩, fun _ hm h =>
        absurd (hskip.resolve_left hm) (by rw [h]; nofun), fun h1 h2 => absurd (hany.1 hbad) (by simp [h1, h2])⟩
    · obtain ⟨hm, hg⟩ := not_or.1 hskip
      have hhold : x.mask.group3 = .hold := by
        cases h : x.mask.group3 with
        | pass => exact absurd h hg
        | hold => rfl
      obtain ⟨k', hk, hu⟩ := State.referenceStage_holds (s := s.answerTaken l) (y := x.noted seq)
        (q := s.mq.entries) (k := k) (by rwa [hdevice]) hm (by rwa [hmask])
      rw [hdevice, hslot] at hk
      rw [hu]
      obtain ⟨htakes, hentries, hcku, honly⟩ := ha.leaves (State.leaves_slotAt (k := k')
        (x := { x.noteSequence seq with state := .trapped, held := some (.event e), trap := some (.fetch 3) }))
        (by rw [hnote]; exact hsilent) (by rw [hnote]; exact hwidth)
      exact ⟨honly, fun _ h => absurd h hskip, fun _ _ _ => ⟨htakes, hcku.symm ▸ hk, hentries⟩,
        fun h1 h2 => absurd (hany.1 hbad) (by simp [h1, h2])⟩
  · have hclock : (x.noted seq).clock = x.clock := by rw [Lane.noted_eq]
    have hgood : ¬((s.dst.referenceCheck l device).unknownDevice = true ∨
      (s.dst.referenceCheck l device).outOfRange = true) := mt hany.2 hbad
    have hfloor : x.clock.holdTime (s.answerTaken l).holdFloor e =
        max e.unheld (max x.clock.lastCorrected (if s.rc.mode = .seeking then 0 else s.pu.windowStart)) := by
      rw [State.holdFloor_eq]
      rfl
    have hz := x.afterInsert_noted seq e (x.clock.holdTime (s.answerTaken l).holdFloor e) s.pu.windowEnd
    rw [State.referenceStage_inserts (s := s.answerTaken l) (by rwa [hdevice, ← Bool.not_eq_true]) hq, hclock,
      Lane.entryFor_noted x l seq device kind stamp _ he]
    change s.StageLeaves (((s.answerTaken l).atLane l ((x.noted seq).advance.afterInsert e
      (x.clock.holdTime (s.answerTaken l).holdFloor e) s.pu.windowEnd) _ k).continueVisit l).settle _ _ _ _ _ _ _ _ _
    generalize (x.noted seq).advance.afterInsert e _ s.pu.windowEnd = z at hz ⊢
    rw [hfloor] at hz ⊢
    generalize hinsert : insertEntry _ s.mq.entries = q
    obtain ⟨htakes, hentries, hcku, honly⟩ := ha.leaves (State.leaves_inserted (x := z) (q := q) (k := k))
      (by rw [hz]; exact hsilent) (by rw [hz]; exact hwidth)
    refine ⟨honly, fun h => absurd h hgood, fun h => absurd h hgood, fun _ _ time htime => ?_⟩
    subst htime hz hinsert
    exact ⟨htakes, hcku, hentries⟩

/-- Settles O21: a REGRESSION by the lane's mask for group 2, then the reference checks. -/
theorem eventWithAnomalyIsHeldOrSkipped : Obligations.EventWithAnomalyIsHeldOrSkipped := by
  intro words d s l device kind stamp seq x e a ha hb hd hq hx he haset hseek
  have hcheck : s.dst.referenceCheck l device = a := (s.dst.referenceCheck_eq l device).trans haset.symm
  have hstage := ha.stageLeaves hx seq he hq
  have hdevice : e.device = device := by rw [he]; rfl
  have hslot : e.slot = x.readPos := by rw [he]; rfl
  rw [hcheck] at hstage
  refine ⟨_, ha.exec_eq hb, ?_⟩
  rw [State.takeSlot_event hd hq, ← hx]
  by_cases hm : s.rc.mode = .seeking
  · rw [State.takeEvent_seeking hm he (hseek hm)]
    refine ⟨(hstage s.cku).only, fun h => absurd hm h, fun k hk => ?_⟩
    obtain rfl : k = s.cku := (hk.resolve_left fun h => h.1 hm).2
    exact ⟨(hstage s.cku).skips, (hstage s.cku).holds, (hstage s.cku).inserts⟩
  rw [State.takeEvent_live hm he]
  by_cases hr : e.raw < x.clock.lastRaw
  · cases hmask : x.mask.group2 with
    | pass =>
      obtain ⟨k', hk', hu⟩ := State.takeEventLive_of_pass (s := s) (l := l) (seq := seq) (k := s.cku) hr hmask
      rw [hdevice, hslot] at hk'
      rw [hu]
      refine ⟨(hstage k').only, fun _ _ h => absurd h nofun, fun k hk => ?_⟩
      obtain rfl : k = k' := by
        rcases hk with ⟨-, -, -, hk⟩ | ⟨h, -⟩
        · exact hk.unique hk'
        · exact absurd h (not_or.2 ⟨hm, not_le.2 hr⟩)
      exact ⟨(hstage k).skips, (hstage k).holds, (hstage k).inserts⟩
    | hold =>
      obtain ⟨k', hk', hu⟩ := State.takeEventLive_of_hold (s := s) (l := l) (seq := seq) (k := s.cku) hr hmask
      rw [hdevice, hslot] at hk'
      rw [hu]
      have hnote := x.noteSequence_gap seq
      obtain ⟨htakes, hentries, hcku, honly⟩ := ha.leaves (State.leaves_slotAt (k := k')
        (x := { x.noteSequence seq with state := .trapped, held := some (.event e), trap := some (.fetch 2) }))
        (by rw [hnote, hx]; exact ha.silent) (by rw [hnote, hx])
      refine ⟨honly, fun _ _ _ => ⟨htakes, hcku.symm ▸ hk', hentries⟩, fun k hk => ?_⟩
      rcases hk with ⟨-, -, h, -⟩ | ⟨h, -⟩
      · exact absurd h nofun
      · exact absurd h (not_or.2 ⟨hm, not_le.2 hr⟩)
  · rw [State.takeEventLive_of_regular (not_lt.1 hr)]
    refine ⟨(hstage s.cku).only, fun _ h => absurd h hr, fun k hk => ?_⟩
    obtain rfl : k = s.cku := (hk.resolve_left fun h => hr h.2.1).2
    exact ⟨(hstage s.cku).skips, (hstage s.cku).holds, (hstage s.cku).inserts⟩

/-! The correction in figures (R44, R46 to R49). -/

/-- The corrected time before the hold, and whether it was clamped (R49). -/
theorem ClockModel.unheld_eq {c : ClockModel} {raw unheld : Nat} {exact' : Int}
    (hexact : exact' = raw + c.offset + divNearest (c.drift * ((raw : Int) - c.referenceRaw)) 1000000000 - c.lambda)
    (hunheld : (unheld : Int) = max 0 (min 1099511627774 exact')) :
    c.unheld raw = unheld ∧ c.clamped raw = decide ((unheld : Int) ≠ exact') := by
  have hc : clampInt 0 Config.maxTime (c.exactUnheld raw) = unheld := by
    rw [clampInt_eq (by decide), hunheld, hexact]
    rfl
  have he : c.exactUnheld raw = exact' := hexact.symm
  rw [ClockModel.unheld, ClockModel.clamped, hc, he]
  exact ⟨rfl, by simp [bne, beq_eq_decide]⟩

theorem Quality.ofMarks_eq (n : Nat) :
    Quality.ofMarks n = if n = 0 then .nominal else if n = 1 then .offsetOnly else .tracking := by
  unfold Quality.ofMarks
  split <;> simp_all

/-- Settles O19: without an anomaly the reference checks insert the event. -/
theorem eventIsCorrectedHeldAndInserted : Obligations.EventIsCorrectedHeldAndInserted := by
  intro words d s l device kind stamp seq x raw unheld time exact' ha hb hd hq hx hraw hregular hdev hrange hexact
    hunheld htime hseek
  obtain ⟨e, he⟩ : ∃ e, e = x.clock.correct device kind stamp x.readPos := ⟨_, rfl⟩
  obtain ⟨hclamp, hmarker⟩ := ClockModel.unheld_eq hexact hunheld
  have heraw : e.raw = raw := by rw [he, hraw]; rfl
  have heunheld : e.unheld = unheld := by rw [he, ← hclamp, hraw]; rfl
  have heclamped : e.clamped = decide ((unheld : Int) ≠ exact') := by rw [he, ← hmarker, hraw]; rfl
  have hequality : e.quality =
      if x.clock.markCount = 0 then .nominal else if x.clock.markCount = 1 then .offsetOnly else .tracking := by
    rw [he, ← Quality.ofMarks_eq]
    rfl
  have hstage := ha.stageLeaves hx seq he hq s.cku
  obtain ⟨hknown, hallowed⟩ := Dst.referenceCheck_passes hdev hrange
  have hevent : (s.answerTaken l).takeSlot l d = (s.slotAt l (x.noted seq) s.cku).referenceStage l e := by
    rw [State.takeSlot_event hd hq, ← hx]
    by_cases hm : s.rc.mode = .seeking
    · refine State.takeEvent_seeking hm he ((hseek hm).trans ?_)
      rw [htime, if_pos hm, heunheld, max_eq_left (Nat.zero_le x.clock.lastCorrected)]
    · rw [State.takeEvent_live hm he,
        State.takeEventLive_of_regular (heraw ▸ hregular.resolve_left hm)]
  refine ⟨_, ha.exec_eq hb, ?_⟩
  rw [hevent]
  obtain ⟨htakes, hcku, hentries⟩ := hstage.inserts hknown hallowed time (by rw [heunheld, htime])
  rw [heraw] at htakes
  rw [heunheld, heclamped, hequality] at hentries
  exact ⟨htakes, hentries, hcku, hstage.only⟩

end Sys2Proof.Machine
end

section
/-! PROOFS. The end of the last lane of a silent replay (R30, R31, R33, R36, R51, R62, R125, R135, R142, R160, R161,
R162). -/

namespace Sys2Proof.Machine

/-- A front holds at most one event of each lane. -/
theorem front_length_le {front : Fin 16 → Option SilentEvent} {events : List (Fin 16 × SilentEvent)}
    (hmem : ∀ k e, (k, e) ∈ events → front k = some e)
    (hp : events.Pairwise fun a b => a.2.time < b.2.time ∨ a.2.time = b.2.time ∧ a.1 < b.1) : events.length ≤ 16 := by
  have hnodup : (events.map Prod.fst).Nodup := by
    rw [List.Nodup, List.pairwise_map]
    refine hp.imp_of_mem fun {a b} ha hb hab heq => ?_
    have h1 := hmem a.1 a.2 ha
    have h2 := hmem b.1 b.2 hb
    rw [heq, h2] at h1
    rw [Option.some.inj h1, heq] at hab
    omega
  simpa using hnodup.length_le_card

/-- The state behind the end of the last lane's visit: the lane stands as `x`, the port is idle. -/
structure State.LastVisitEnds (s v : State) (l : Fin 16) (x : Lane) (q : List Entry) (k : Cku) : Prop where
  kept : v = { s with afu := v.afu, mq := v.mq, cku := v.cku }
  lane : v.lane l = x
  others : ∀ m, m ≠ l → v.lane m = s.lane m
  checkpoint : v.afu.checkpoint = none
  port : v.afu.request = none ∧ v.afu.words = [] ∧ v.afu.rotation = l + 1 ∧ v.afu.visitEnding = false
  entries : v.mq.entries = q
  cku : v.cku = k

/-- A silent replay in which lane l alone is still read. -/
structure State.ReadsLast (s : State) (l : Fin 16) : Prop where
  live : s.inReset = false
  mode : s.rc.mode = .seeking
  checkpoint : s.afu.checkpoint = none
  others : ∀ k, k ≠ l → (s.lane k).state ≠ .ready ∧ (s.lane k).state ≠ .waiting ∧ (s.lane k).state ≠ .trapped

section
variable {s u v : State} {l : Fin 16} {x : Lane} {q : List Entry} {k : Cku} {events : List (Fin 16 × SilentEvent)}

/-- With no lane left to read, the front drains and the seek completes at the end of the command (R161, R162). -/
theorem State.LastVisitEnds.completes (h : s.LastVisitEnds v l x q k) (hl : s.ReadsLast l)
    (hx : x.state ≠ .ready ∧ x.state ≠ .waiting ∧ x.state ≠ .trapped)
    (hev : ∀ m e, (m, e) ∈ events ↔ (if m = l then x.silent else (s.lane m).silent) = some e)
    (hp : events.Pairwise fun a b => a.2.time < b.2.time ∨ a.2.time = b.2.time ∧ a.1 < b.1) :
    s.DrainsAndCompletes v.settle l events ∧ v.settle.lane l = { x with silent := none } ∧
      v.settle.mq.entries = q ∧ v.settle.cku = k := by
  have hlane : ∀ m, v.lane m = if m = l then x else s.lane m := fun m => by
    split
    next hm => rw [hm, h.lane]
    next hm => exact h.others m hm
  have hmode : v.rc.mode = .seeking := by
    rw [h.kept]
    exact hl.mode
  have hfront : ∀ m e, (m, e) ∈ events ↔ (v.lane m).silent = some e := fun m e => by
    rw [hev, hlane m]
    split <;> rfl
  have hrest : ∀ m, (v.lane m).state ≠ .ready ∧ (v.lane m).state ≠ .waiting ∧ (v.lane m).state ≠ .trapped := fun m => by
    rw [hlane m]
    split
    next => exact hx
    next hm => exact hl.others m hm
  obtain ⟨⟨lanes, hdrain⟩, hdrained⟩ := State.drainFront_all events 16 v
    (front_length_le (fun m e => (hfront m e).1) hp) hfront hp hrest
  have hseek : v.settleSeek = (State.drainFront 16 v).completeSeek := by
    have hread : (State.drainFront 16 v).anyReading = false := by
      rw [Bool.eq_false_iff, ne_eq, State.anyReading_iff]
      rintro ⟨m, hm⟩
      rw [hdrained] at hm
      exact hm.elim (hrest m).1 (hrest m).2.1
    have hempty : (State.drainFront 16 v).frontEmpty = true := by
      rw [State.frontEmpty, State.allLanes_iff]
      exact fun m => by rw [hdrained]; rfl
    simp [State.settleSeek, State.replaysSilently, hmode, h.checkpoint, State.finishReplay, hread, hempty]
  generalize State.drainFront 16 v = w at hdrain hdrained hseek
  have hrc : w.rc = s.rc := by rw [hdrain]; dsimp only; rw [h.kept]
  have hpu : w.pu = s.pu := by rw [hdrain]; dsimp only; rw [h.kept]
  have hdst : w.dst = { s.dst with
      devices := events.foldl (fun devices x => x.2.appliedTo x.1 devices) s.dst.devices } := by
    rw [hdrain]
    dsimp only
    rw [h.kept]
  have hbiu : w.biu = s.biu ∧ w.ccu = s.ccu := by rw [hdrain]; dsimp only; rw [h.kept]; exact ⟨rfl, rfl⟩
  have hport : w.afu.request = none ∧ w.afu.words = [] ∧ w.afu.rotation = l + 1 ∧ w.afu.visitEnding = false := by
    rw [hdrain]
    exact h.port
  have hqueues : w.mq.entries = q ∧ w.cku = k := by rw [hdrain]; exact ⟨h.entries, h.cku⟩
  have hd := w.driveFor_completeSeek w.completeSeek.settleCut.mq.cut
  rw [← State.settleCut_eq] at hd
  have hsettle : v.settle =
      { w.completeSeek with mq.cut := w.completeSeek.settleCut.mq.cut, pu.drive := .dominant } := by
    rw [State.settle, hseek, State.refreshDrive, hd, State.settleCut_eq]
  have hwl : ∀ m, v.settle.lane m = { (if m = l then x else s.lane m) with silent := none } := fun m => by
    rw [hsettle, ← hlane m]
    exact hdrained m
  rw [hsettle] at hwl ⊢
  refine ⟨⟨⟨?_, ?_⟩, hdst, fun m hm => (hwl m).trans (by rw [if_neg hm]), hport, hbiu⟩,
    (hwl l).trans (by rw [if_pos rfl]), hqueues.1, hqueues.2⟩
  · dsimp only [State.completeSeek]
    rw [hrc]
    cases s.rc.modeAfterSeek <;> rfl
  · dsimp only [State.completeSeek]
    rw [hpu]

/-- The visit of a lane that is not READY ends behind its slot. -/
theorem State.LeavesSlot.lastVisitEnds (h : s.LeavesSlot u l x q k) (hc : s.afu.checkpoint = none) (hx : x.state ≠ .ready) :
    s.LastVisitEnds (u.continueVisit l) l x q k := by
  have hend : u.continueVisit l = u.endVisit l := by
    have hc : u.mayContinue l = false := by simp [State.mayContinue, h.taken.lane, hx]
    rw [State.continueVisit, hc, if_neg nofun]
  rw [hend]
  refine ⟨?_, h.taken.lane, h.taken.others, h.taken.checkpoint.trans hc,
    ⟨h.taken.request, h.taken.words, rfl, rfl⟩, h.entries, h.cku⟩
  have hkept := h.kept
  unfold State.endVisit
  rw [hkept]

/-- The retry of the last lane's slot has timed out (R30). -/
theorem State.lastVisitEnds_loseLane (hc : s.afu.checkpoint = none) :
    s.LastVisitEnds (s.loseLane l) l { s.lane l with state := .lost } s.mq.entries (s.loseLane l).cku := by
  have hlane := s.lane_loseLane l
  rw [State.loseLane_eq] at hlane ⊢
  exact ⟨rfl, (hlane l).trans (if_pos rfl), fun m hm => (hlane m).trans (if_neg hm), hc, ⟨rfl, rfl, rfl, rfl⟩, rfl, rfl⟩

/-- The answer's command, whatever holds in the other lanes. -/
theorem State.exec_laneSlotAnswer {n : Nat} {retry : Bool} {words : List PortWord} {d : Slot} (hr : s.inReset = false)
    (hq : s.afu.request = some { owner := .lane l, slot := n, retry := retry }) (hb : s.Brings words d) :
    exec (.laneSlotAnswer words) s = .next (((s.answerTaken l).takeSlot l d).continueVisit l).settle := by
  simp only [exec, execLaneSlotAnswer, State.whenLive_live hr, hq, hb.takeWords_eq]

/-- The answer that ends the last lane, by what its slot leaves. -/
theorem State.ReadsLast.answer (hl : s.ReadsLast l) {n : Nat} {retry : Bool} {words : List PortWord} {d : Slot}
    (hq : s.afu.request = some { owner := .lane l, slot := n, retry := retry }) (hb : s.Brings words d)
    (hu : s.LeavesSlot ((s.answerTaken l).takeSlot l d) l x q k) (hx : x.state = .ended ∨ x.state = .passed)
    (hev : ∀ m e, (m, e) ∈ events ↔ (if m = l then x.silent else (s.lane m).silent) = some e)
    (hp : events.Pairwise fun a b => a.2.time < b.2.time ∨ a.2.time = b.2.time ∧ a.1 < b.1) :
    ∃ t, exec (.laneSlotAnswer words) s = .next t ∧ s.DrainsAndCompletes t l events ∧
      t.lane l = { x with silent := none } ∧ t.mq.entries = q ∧ t.cku = k := by
  have hstate : x.state ≠ .ready ∧ x.state ≠ .waiting ∧ x.state ≠ .trapped := by
    rcases hx with h | h <;> rw [h] <;> exact ⟨nofun, nofun, nofun⟩
  exact ⟨_, State.exec_laneSlotAnswer hl.live hq hb,
    (hu.lastVisitEnds hl.checkpoint hstate.1).completes hl hstate hev hp⟩

/-- A lane that keeps its silent event leaves the front as it was. -/
theorem front_of_kept (hx : x.silent = (s.lane l).silent)
    (hev : ∀ m e, (m, e) ∈ events ↔ (s.lane m).silent = some e) (m : Fin 16) (e : SilentEvent) :
    (m, e) ∈ events ↔ (if m = l then x.silent else (s.lane m).silent) = some e := by
  rw [hev, hx]
  split
  next hm => rw [hm]
  next => rfl

end

/-! The slots that end the last lane. -/

/-- A lane past its region's last slot is ENDED. -/
theorem Lane.skipped_of_last {x : Lane} (h : x.slotCount ≤ x.readPos + 1) : x.skipped = { x with
    readPos := x.readPos + 1, held := none, trap := none, state := .ended } := by
  rw [Lane.skipped, if_pos h]

/-- A mark in SEEKING is applied, as a step when it bears an anomaly, and leaves no finding (R62). -/
theorem State.takeSlot_mark {s : State} {d : Slot} {stamp : BitVec 48} {reference : Nat} {seq : BitVec 32}
    (hm : s.rc.mode = .seeking) (hd : classify d = .mark stamp reference seq) (l : Fin 16) {raw : Nat}
    (hraw : raw = (s.lane l).clock.rawTime stamp) :
    (s.answerTaken l).takeSlot l d = s.slotAt l { (s.lane l).noteSequence seq with
      clock := if ((s.lane l).clock.markAnomalies s.ccu.stepLimit raw reference).any
        then (s.lane l).clock.applyStep raw reference
        else (s.lane l).clock.applyMark s.ccu.driftShift raw reference }.skipped s.cku := by
  have hset : (s.answerTaken l).takeSlot l d = (s.slotAt l ((s.lane l).noted seq) s.cku).takeMark l stamp reference := by
    simp only [State.takeSlot, hd, State.lane_answerTaken, Lane.noteSequence_ready]
    rfl
  have hmode : (s.slotAt l ((s.lane l).noted seq) s.cku).rc.mode = .seeking := hm
  have hclock : ((s.lane l).noted seq).clock = (s.lane l).clock := by rw [Lane.noted_eq]
  rw [hset, State.takeMark]
  dsimp only
  rw [hmode, State.lane_atLane, hclock, ← hraw]
  dsimp only
  rw [State.setLane_atLane, State.setLane_atLane]
  have hany : (s.slotAt l ((s.lane l).noted seq) s.cku).ccu = s.ccu := rfl
  rw [hany]
  split <;> rfl

/-- An event below the seek time joins the silent front (R51, R160). -/
theorem State.takeEvent_handsOver {s : State} {l : Fin 16} {x : Lane} {seq : BitVec 32} {k : Cku} {device : BitVec 16}
    {kind : EventKind} {stamp : BitVec 48} {e : HeldEvent} {time : Nat} (hm : s.rc.mode = .seeking)
    (he : e = x.clock.correct device kind stamp x.readPos) (htime : time = max e.unheld x.clock.lastCorrected)
    (ht : time < s.rc.seekTime) :
    (s.slotAt l (x.noted seq) k).takeEvent l device kind stamp = s.slotAt l { x.noteSequence seq with
      clock := { x.clock with lastRaw := e.raw, lastCorrected := time }
      silent := some { time := time, device := device, kind := kind } }.skipped k := by
  have hmode : (s.slotAt l (x.noted seq) k).rc.mode = .seeking := hm
  have hhold : (x.noted seq).clock.holdTime 0 e = time := by
    rw [Lane.noted_eq, htime]
    simp [ClockModel.holdTime]
  have hearly : time < (s.slotAt l (x.noted seq) k).rc.seekTime := ht
  have hdevice : e.device = device ∧ e.kind = kind := by rw [he]; exact ⟨rfl, rfl⟩
  simp only [State.takeEvent, hmode, State.lane_atLane, Lane.correct_noted, ← he, State.takeEventSeeking, hhold,
    if_pos hearly, State.handOver, hdevice, State.setLane_atLane]
  rw [Lane.noted_eq, Lane.noteSequence_gap]
  rfl

section
variable {s : State} {l : Fin 16} {n : Nat} {retry : Bool} {events : List (Fin 16 × SilentEvent)}
  {words : List PortWord} {d : Slot} {device : BitVec 16} {kind : EventKind} {stamp : BitVec 48} {seq : BitVec 32}
  {e : HeldEvent} {time : Nat}

/-- The insertion that passes the region's last slot or reaches the window end (R36, R37). -/
theorem State.ReadsLast.inserts (hl : s.ReadsLast l)
    (hq : s.afu.request = some { owner := .lane l, slot := n, retry := retry })
    (hev : ∀ k e, (k, e) ∈ events ↔ (s.lane k).silent = some e)
    (hp : events.Pairwise fun a b => a.2.time < b.2.time ∨ a.2.time = b.2.time ∧ a.1 < b.1) (hb : s.Brings words d)
    (hd : classify d = .event device kind stamp seq) (hroom : s.mq.entries.length < 256)
    (he : e = (s.lane l).clock.correct device kind stamp (s.lane l).readPos)
    (htime : time = max e.unheld (s.lane l).clock.lastCorrected) (hseek : s.rc.seekTime ≤ time)
    (hdev : ∃ dev ∈ s.dst.devices, dev.number = device)
    (hrange : s.dst.ranges = [] ∨
      ∃ r ∈ s.dst.ranges, r.low ≤ device.toNat ∧ device.toNat ≤ r.high ∧ r.mask.getLsbD l.val = true)
    (hends : (s.lane l).slotCount ≤ (s.lane l).readPos + 1 ∨ s.pu.windowEnd ≤ time) :
    ∃ t, exec (.laneSlotAnswer words) s = .next t ∧ s.DrainsAndCompletes t l events ∧
      t.lane l = { s.lane l with
        lastSeq := some seq, gap := none, insertions := (s.lane l).insertions + 1
        clock := { (s.lane l).clock with lastRaw := e.raw, lastCorrected := time }
        readPos := (s.lane l).readPos + 1, held := none, trap := none, silent := none
        state := if (s.lane l).slotCount ≤ (s.lane l).readPos + 1 then .ended else .passed } ∧
      t.mq.entries = insertEntry (((s.lane l).noted seq).advance.entryFor l e time) s.mq.entries ∧ t.cku = s.cku := by
  have hdevice : e.device = device := by rw [he]; rfl
  have hnone : (s.dst.referenceCheck l e.device).any = false := by
    rw [hdevice, ← Bool.not_eq_true, Dst.referenceCheck_any]
    obtain ⟨h1, h2⟩ := Dst.referenceCheck_passes hdev hrange
    simp [h1, h2]
  have hhold : ((s.lane l).noted seq).clock.holdTime (s.answerTaken l).holdFloor e = time := by
    rw [Lane.noted_eq, State.holdFloor_eq, if_pos (show (s.answerTaken l).rc.mode = .seeking from hl.mode), htime]
    simp [ClockModel.holdTime]
  have hset : (s.answerTaken l).takeSlot l d = _ :=
    (State.takeSlot_event hd hroom l).trans ((State.takeEvent_seeking hl.mode he (htime ▸ hseek)).trans
      (State.referenceStage_inserts hnone hroom))
  rw [hhold] at hset
  have hz := (s.lane l).afterInsert_noted seq e time s.pu.windowEnd
  change _ = (s.answerTaken l).atLane l (((s.lane l).noted seq).advance.afterInsert e time s.pu.windowEnd) _ _ at hset
  generalize ((s.lane l).noted seq).advance.afterInsert e time s.pu.windowEnd = z at hset hz
  have hstate : (if (s.lane l).slotCount ≤ (s.lane l).readPos + 1 then LaneState.ended
      else if s.pu.windowEnd ≤ time then .passed else .ready) =
      if (s.lane l).slotCount ≤ (s.lane l).readPos + 1 then .ended else .passed := by
    split
    next => rfl
    next h => rw [if_pos (hends.resolve_left h)]
  rw [hstate] at hz
  have hsilent : z.silent = (s.lane l).silent := by rw [hz]
  obtain ⟨t, hexec, hdrains, hlane, hentries, hcku⟩ := hl.answer hq hb (hset ▸ State.leaves_inserted)
    (by rw [hz]; dsimp only; split <;> simp) (front_of_kept hsilent hev) hp
  exact ⟨t, hexec, hdrains, by rw [hlane, hz], hentries, hcku⟩

/-- The last slot, when the lane skips it or only notes what it says (R31, R33, R36, R62). -/
theorem State.ReadsLast.passesLast (hl : s.ReadsLast l)
    (hq : s.afu.request = some { owner := .lane l, slot := n, retry := retry })
    (hev : ∀ k e, (k, e) ∈ events ↔ (s.lane k).silent = some e)
    (hp : events.Pairwise fun a b => a.2.time < b.2.time ∨ a.2.time = b.2.time ∧ a.1 < b.1) (hb : s.Brings words d)
    {y : Lane} {k : Cku} (hu : (s.answerTaken l).takeSlot l d = s.slotAt l y.skipped k)
    (hy : y.readPos = (s.lane l).readPos ∧ y.slotCount = (s.lane l).slotCount ∧ y.silent = (s.lane l).silent)
    (hlast : (s.lane l).slotCount ≤ (s.lane l).readPos + 1) :
    ∃ t, exec (.laneSlotAnswer words) s = .next t ∧ s.DrainsAndCompletes t l events ∧
      t.lane l = { y with
        readPos := (s.lane l).readPos + 1, held := none, trap := none, silent := none, state := .ended } ∧
      t.mq.entries = s.mq.entries ∧ t.cku = k := by
  obtain ⟨hpos, hcount, hsilent⟩ := hy
  rw [Lane.skipped_of_last (by rwa [hpos, hcount]), hpos] at hu
  have hleaves : s.LeavesSlot ((s.answerTaken l).takeSlot l d) l { y with
      readPos := (s.lane l).readPos + 1, held := none, trap := none, state := .ended } s.mq.entries k :=
    hu ▸ State.leaves_slotAt
  exact hl.answer hq hb hleaves (.inl rfl) (front_of_kept hsilent hev) hp

end

/-- Settles O26: whatever ends the last lane, the front drains and the seek completes behind it. -/
theorem lastLaneEndingDrainsTheFrontAndCompletesTheSeek :
    Obligations.LastLaneEndingDrainsTheFrontAndCompletesTheSeek := by
  intro s l n retry events x hr hm hc hq hx hothers hev hp
  have hl : s.ReadsLast l := ⟨hr, hm, hc, hothers⟩
  subst hx
  refine ⟨fun words hb => ?_, fun words d device kind stamp seq e time hb hd hroom he htime hseek hdev hrange hends => ?_,
    ?_, fun words d hb hlast => ⟨fun y hy => ?_,
      fun device kind stamp seq e time a hd hroom he htime ha => ⟨fun hseek hbad => ?_,
        fun hearly front hfront hpf => ?_⟩⟩⟩
  · have hu : s.LeavesSlot ((s.answerTaken l).takeSlot l (BitVec.allOnes 256)) l { s.lane l with state := .ended }
        s.mq.entries s.cku := by
      rw [State.takeSlot_erased]
      exact State.leaves_slotAt
    exact hl.answer hq hb hu (.inl rfl) (front_of_kept rfl hev) hp
  · have h := hl.inserts hq hev hp hb hd hroom he htime hseek hdev hrange hends
    rwa [Lane.entryFor_noted _ l seq device kind stamp time he] at h
  · rintro rfl
    obtain ⟨hd, hlane, hentries, hcku⟩ := (State.lastVisitEnds_loseLane (l := l) hc).completes hl
      ⟨nofun, nofun, nofun⟩ (front_of_kept rfl hev) hp
    refine ⟨_, State.exec_retryTimeout hr hq, hd, hlane, hentries, ?_⟩
    exact hcku.symm ▸ State.raises_raiseFinding ((s.setLane l { s.lane l with state := .lost }).dropRead) _
  · rcases hy with ⟨hbad, rfl⟩ | ⟨lost, seq, hd, rfl⟩ | ⟨stamp, reference, seq, raw, hd, hraw, rfl⟩
    · refine hl.passesLast hq hev hp hb (k := s.cku) ?_ ⟨rfl, rfl, rfl⟩ hlast
      rcases hbad with hd | hd
      · rw [State.takeSlot_damaged hd, State.takeBadSlot_of_seeking hm]
        rfl
      · rw [State.takeSlot_undecodable hd, State.takeBadSlot_of_seeking hm]
        rfl
    · refine hl.passesLast hq hev hp hb (k := s.cku) ?_ ⟨rfl, rfl, rfl⟩ hlast
      simp only [State.takeSlot, hd, State.lane_answerTaken, Lane.takeGap_eq]
      rfl
    · refine hl.passesLast hq hev hp hb (k := s.cku) (State.takeSlot_mark hm hd l hraw) ?_ hlast
      rw [Lane.noteSequence_gap]
      exact ⟨rfl, rfl, rfl⟩
  · have hdevice : e.device = device := by rw [he]; rfl
    have hslot : e.slot = (s.lane l).readPos := by rw [he]; rfl
    have hcheck : s.dst.referenceCheck l device = a := (s.dst.referenceCheck_eq l device).trans ha.symm
    have hany : (s.dst.referenceCheck l e.device).any = true := by
      rw [hdevice, Dst.referenceCheck_any, hcheck]
      exact hbad
    obtain ⟨k, hk, hstage⟩ := State.referenceStage_skips (s := s.answerTaken l) (y := (s.lane l).noted seq)
      (q := s.mq.entries) (k := s.cku) hany (.inl hm)
    rw [hdevice, hslot, show (s.answerTaken l).dst.referenceCheck l device = a from hcheck] at hk
    have hu : (s.answerTaken l).takeSlot l d = s.slotAt l ((s.lane l).noteSequence seq).skipped k := by
      rw [State.takeSlot_event hd hroom l, State.takeEvent_seeking hm he (htime ▸ hseek), hstage]
      rfl
    obtain ⟨t, hexec, hdrains, hlane, hentries, hcku⟩ := hl.passesLast hq hev hp hb hu
      (by rw [Lane.noteSequence_gap]; exact ⟨rfl, rfl, rfl⟩) hlast
    exact ⟨t, hexec, hdrains, hlane, hentries, hcku.symm ▸ hk⟩
  · have hu := (State.takeSlot_event hd hroom l).trans (State.takeEvent_handsOver hm he htime hearly)
    rw [Lane.skipped_of_last (by rw [Lane.noteSequence_gap]; exact hlast)] at hu
    have hpos : ((s.lane l).noteSequence seq).readPos = (s.lane l).readPos := by rw [Lane.noteSequence_gap]
    rw [hpos] at hu
    refine hl.answer hq hb (hu ▸ State.leaves_slotAt) (.inl rfl) (fun m g => ?_) hpf
    rw [hfront]
    split
    · exact ⟨fun h => congrArg some h.symm, fun h => (Option.some.inj h).symm⟩
    · exact Iff.rfl

end Sys2Proof.Machine
end

section
/-! PROOFS. The start of a visit, and the reads that no other command issues (R24, R25, R26, R171). -/

namespace Sys2Proof.Machine

/-! The search for a lane (R25). -/

/-- A lane that a visit may begin on: READY without a silent event (R25, R160). -/
def Lane.Visitable (x : Lane) : Prop :=
  x.state = .ready ∧ x.silent = none

theorem Lane.visitable_iff (x : Lane) : (x.state == .ready && x.silent.isNone) = true ↔ x.Visitable := by
  simp [Lane.Visitable]

/-- The search takes the first lane from the rotation pointer upward, wrapping. -/
theorem State.chooseLane_eq_some {s : State} {i : Fin 16} (hi : (s.lane (s.afu.rotation + i)).Visitable)
    (hfirst : ∀ k, k < i → ¬(s.lane (s.afu.rotation + k)).Visitable) :
    s.chooseLane = some (s.afu.rotation + i) := by
  have hfind : (List.finRange 16).find? (fun k =>
      (s.lane (s.afu.rotation + k)).state == .ready && (s.lane (s.afu.rotation + k)).silent.isNone) = some i := by
    obtain ⟨before, after, hsplit⟩ := List.append_of_mem (List.mem_finRange i)
    have hlt : ∀ k ∈ before, k < i := by
      have := List.pairwise_lt_finRange 16
      rw [hsplit, List.pairwise_append] at this
      exact fun k hk => this.2.2 k hk i (by simp)
    rw [List.find?_eq_some_iff_append]
    refine ⟨(Lane.visitable_iff _).2 hi, before, after, hsplit, fun k hk => ?_⟩
    rw [Bool.not_eq_true', Bool.eq_false_iff, ne_eq, Lane.visitable_iff]
    exact hfirst k (hlt k hk)
  rw [State.chooseLane, State.searchOrder, List.find?_map]
  exact congrArg (Option.map _) hfind

/-- With no lane to visit the search finds none. -/
theorem State.chooseLane_eq_none {s : State} (h : ∀ l, ¬(s.lane l).Visitable) : s.chooseLane = none := by
  rw [State.chooseLane, List.find?_eq_none]
  exact fun l _ => by
    rw [Lane.visitable_iff]
    exact h l

/-! What keeps the outstanding read, and what issues none for a lane. -/

/-- The outstanding read and its tag stay. -/
structure State.SamePort (s t : State) : Prop where
  request : t.afu.request = s.afu.request
  atag : t.afu.atag = s.afu.atag

/-- No first read of a lane's slot has been issued: the outstanding read is as it was, or it is none of a lane or a
retry. -/
def State.NoFirstRead (s t : State) : Prop :=
  s.SamePort t ∨ ∀ l n, t.afu.request ≠ some { owner := .lane l, slot := n, retry := false }

section
variable {s t u : State}

theorem State.SamePort.refl (s : State) : s.SamePort s :=
  ⟨rfl, rfl⟩

theorem State.SamePort.trans (h : s.SamePort t) (g : t.SamePort u) : s.SamePort u :=
  ⟨g.request.trans h.request, g.atag.trans h.atag⟩

theorem State.Works.samePort (h : s.Works t) : s.SamePort t := by
  have hp := h.port
  constructor <;> rw [hp]

theorem State.NoFirstRead.refl (s : State) : s.NoFirstRead s :=
  .inl (.refl s)

theorem State.SamePort.issues (h : s.SamePort t) : s.NoFirstRead t :=
  .inl h

/-- An idle port reads for no lane. -/
theorem State.NoFirstRead.of_none (h : t.afu.request = none) : s.NoFirstRead t :=
  .inr fun l n => by rw [h]; nofun

theorem State.NoFirstRead.then (h : s.NoFirstRead t) (g : t.SamePort u) : s.NoFirstRead u := by
  rcases h with h | h
  · exact .inl (h.trans g)
  · exact .inr fun l n => by rw [g.request]; exact h l n

theorem State.SamePort.then (h : s.SamePort t) (g : t.NoFirstRead u) : s.NoFirstRead u :=
  g.imp h.trans id

/-- The end of a command leaves the port. -/
theorem State.NoFirstRead.settle (h : s.NoFirstRead t) : s.NoFirstRead t.settle :=
  h.then ⟨by simp, by simp⟩

theorem State.NoFirstRead.refreshDrive (h : s.NoFirstRead t) : s.NoFirstRead t.refreshDrive :=
  h.then ⟨rfl, rfl⟩

theorem State.NoFirstRead.of_whenLive {f : State → State} (h : s.whenLive f = .next t) (hf : s.NoFirstRead (f s)) :
    s.NoFirstRead t := by
  rcases State.whenLive_next h with ⟨-, rfl⟩ | ⟨-, rfl⟩
  · exact .refl _
  · exact hf

theorem State.NoFirstRead.of_frontCommand {code : Nat} {g : CommandBody → State → State}
    (h : (s.whenLive fun s => match s.frontCommand code with | some a => g a s | none => s) = .next t)
    (hg : ∀ a, s.NoFirstRead (g a s)) : s.NoFirstRead t := by
  refine .of_whenLive h ?_
  split
  · exact hg _
  · exact .refl s

/-- Words that do not make a slot whole leave the port's read. -/
theorem State.NoFirstRead.takeWords {words : List PortWord} {handOn : Slot → State} (h : ∀ d, s.NoFirstRead (handOn d)) :
    s.NoFirstRead (s.takeWords words handOn) := by
  unfold State.takeWords
  split
  · exact .inl ⟨rfl, rfl⟩
  · exact h _

theorem State.samePort_popInbound : s.SamePort s.popInbound :=
  ⟨rfl, rfl⟩

/-! The commands' parts. -/

/-- The start-up load reads for itself (R4). -/
theorem State.noFirstRead_loadAnswer (p : LoadProgress) (d : Slot) : s.NoFirstRead (s.loadAnswer p d) := by
  obtain ⟨b, ⟨c, e⟩ | ⟨q, stage, slot, e⟩ | ⟨q, e⟩⟩ := s.loadAnswer_cases p d <;> rw [e]
  · exact .of_none (by simp)
  · exact .inr fun l n => by simp
  · exact .of_none (by simp)

theorem State.noFirstRead_replayFromNominal (h : s.afu.request = none) : s.replayFromNominal.afu.request = none := by
  simp [State.replayFromNominal, h]

theorem State.noFirstRead_readFailed (owner : ReadOwner) : s.NoFirstRead (s.readFailed owner) := by
  refine .of_none ?_
  unfold State.readFailed
  split
  · simp
  · simp [State.loseLane]
  · exact State.noFirstRead_replayFromNominal rfl

/-- A seek reads for its checkpoint's load alone (R19, R159). -/
theorem State.noFirstRead_beginSeek (time : Nat) : s.NoFirstRead (s.beginSeek time) := by
  unfold State.beginSeek State.beginLoad
  split
  · exact .of_none (State.noFirstRead_replayFromNominal (by simp))
  · exact .inr fun l n => by simp

theorem State.noFirstRead_checkpointAnswer (c : CheckpointLoad) (d : Slot) : s.NoFirstRead (s.checkpointAnswer c d) := by
  unfold State.checkpointAnswer State.nextCheckpoint State.replayFromCheckpoint State.decideSeek
  split
  · exact .of_none (State.noFirstRead_replayFromNominal rfl)
  · split
    · exact .inr fun l n => by simp
    · refine .of_none ?_
      split
      · simp [State.completeSeek]
      · simp

theorem State.noFirstRead_endStretch (o : Outbound) (line : Level) : s.NoFirstRead (s.endStretch o line) := by
  rcases s.endStretch_cases o line with hw | ⟨e, a, -, -, h⟩ | h
  · exact hw.samePort.issues
  · rw [h]
    unfold State.trapAtWinning State.abandonVisit
    split
    · exact .of_none (by simp [State.busIdle])
    · exact .inl ⟨by simp [State.busIdle, State.trapLane], by simp [State.busIdle, State.trapLane]⟩
  · rw [h]
    have hs := s.sameReads_suspendOn (s.readBhl line)
    refine .inl ⟨hs.request, ?_⟩
    unfold State.suspendOn
    split
    · rfl
    · split <;> rfl

theorem State.noFirstRead_failAttempt : s.NoFirstRead s.failAttempt := by
  rcases s.failAttempt_cases with hw | ⟨-, u, -, h⟩
  · exact hw.samePort.issues
  · rw [h]
    exact .of_none (by simp)

theorem State.noFirstRead_heardAccepted (h : HeardFrame) : s.NoFirstRead (s.heardAccepted h) := by
  rcases s.heardAccepted_cases h with hw | ⟨-, u, -, e⟩ | ⟨-, u, -, e⟩ | ⟨-, u, time, hu, -, e⟩
  · exact hw.samePort.issues
  · rw [e]
    exact .of_none (by simp)
  · rw [e]
    exact .of_none (by simp)
  · rw [e]
    exact hu.samePort.then (State.noFirstRead_beginSeek time)

theorem State.noFirstRead_heardVetoed (h : HeardFrame) : s.NoFirstRead (s.heardVetoed h) := by
  rcases s.heardVetoed_cases h with hw | ⟨-, u, -, e⟩
  · exact hw.samePort.issues
  · rw [e]
    exact .of_none (by simp)

theorem State.samePort_readAtOpen (line : Level) : s.SamePort (s.readAtOpen line) := by
  have h := s.readAtOpen_eq line
  constructor <;> rw [h]

theorem State.samePort_takeCut (f : Frame) : s.SamePort (s.takeCut f) := by
  have adopt : s.SamePort (s.adoptCut f.key.toNat) := by
    unfold State.adoptCut
    split
    · exact ⟨by simp, by simp⟩
    · exact .refl s
  have own : s.SamePort (s.adoptOwnCut f.key.toNat) := adopt.trans ⟨rfl, rfl⟩
  unfold State.takeCut
  split
  · split
    · unfold State.takeOwnCut
      split
      · exact own
      · exact own.trans ⟨by simp, by simp⟩
    · exact adopt
  all_goals exact adopt

theorem State.samePort_modeCommands (n : Nat) :
    s.SamePort s.doRun ∧ s.SamePort s.doPause ∧ s.SamePort (s.doStep n) := by
  refine ⟨?_, ?_, ?_⟩
  · unfold State.doRun
    split <;> exact ⟨rfl, rfl⟩
  · unfold State.doPause
    split
    case h_2 => split <;> exact ⟨rfl, rfl⟩
    all_goals exact ⟨rfl, rfl⟩
  · unfold State.doStep
    split <;> exact ⟨rfl, rfl⟩

theorem State.samePort_endJoin : s.SamePort s.endJoin := by
  unfold State.endJoin
  split <;> exact ⟨rfl, rfl⟩

end

/-- No command but the start of a visit and the answer to a lane's read issues a lane's first read (R24, R26). -/
theorem exec_noFirstRead {c : Instr} {s t : State} (h : exec c s = .next t) (hv : c ≠ .laneVisitStart)
    (ha : ∀ words, c ≠ .laneSlotAnswer words) : s.NoFirstRead t := by
  have pop : s.NoFirstRead s.popInbound := State.samePort_popInbound.issues
  have idle : s.NoFirstRead s.busIdle := .inl ⟨rfl, rfl⟩
  have joined : s.NoFirstRead s.endJoin := State.samePort_endJoin.issues
  have fails : s.NoFirstRead s.busIdle.failAttempt.refreshDrive :=
    State.NoFirstRead.refreshDrive (State.SamePort.then (t := s.busIdle) ⟨rfl, rfl⟩ State.noFirstRead_failAttempt)
  have accepted : ∀ o, s.NoFirstRead (s.ownAccepted o).settle := fun o =>
    (s.works_ownAccepted o).samePort.issues.settle
  have status : s.popInbound.SamePort s.popInbound.placeStatus := ⟨by simp, by simp⟩
  unfold exec at h
  cases c with
  | laneVisitStart => exact absurd rfl hv
  | laneSlotAnswer words => exact absurd rfl (ha words)
  | powerOnReset => exact .of_none (by rw [← Host.Outcome.next.inj h]; rfl)
  | pinReset => exact .of_none (by rw [← Host.Outcome.next.inj h]; rfl)
  | resetEnd straps edge =>
    rw [← Host.Outcome.next.inj h]
    split
    · exact .inr fun l n => by simp [State.beginStartUp]
    · exact .refl s
  | loadSlotAnswer words =>
    refine .of_whenLive h ?_
    split
    · exact .takeWords fun d => (State.noFirstRead_loadAnswer _ d).refreshDrive
    · exact .refl s
  | archiveReadTimeout =>
    refine .of_whenLive h ?_
    split
    · exact .refl s
    · split
      · exact (State.noFirstRead_readFailed _).settle
      · exact .inr fun l n => by simp
  | checkpointSlotAnswer words =>
    refine .of_whenLive h ?_
    split
    · exact .takeWords fun d => (State.noFirstRead_checkpointAnswer _ d).settle
    · exact .refl s
  | joinOnClose => exact .of_whenLive h joined
  | joinIdleExpiry => exact .of_whenLive h joined
  | openCondition line =>
    refine .of_whenLive h ?_
    split
    · have hw := (s.readAtOpen line).works_beginAttempt
      exact ((State.samePort_readAtOpen line).trans hw.samePort).issues.refreshDrive
    all_goals exact .refl s
  | arbitrationComplete others =>
    refine .of_whenLive h ?_
    split
    · split
      · exact .refl s
      · split <;> exact .inl ⟨rfl, rfl⟩
    all_goals exact .inl ⟨rfl, rfl⟩
  | stretchEnd line =>
    refine .of_whenLive h ?_
    split
    · exact (State.noFirstRead_endStretch _ line).refreshDrive
    · exact .refl s
  | bitError =>
    refine .of_whenLive h ?_
    split
    · exact fails
    all_goals exact .refl s
  | abortConditionHeard =>
    refine .of_whenLive h ?_
    split
    · exact fails
    iterate 3 exact idle
    · exact joined
    all_goals exact .refl s
  | busAbandonTimeout =>
    refine .of_whenLive h ?_
    split
    iterate 2 exact fails
    iterate 2 exact idle
    all_goals exact .refl s
  | frameAccepted heard =>
    refine .of_whenLive h ?_
    split
    iterate 2 exact accepted _
    iterate 2 exact (State.noFirstRead_heardAccepted heard).settle
    · exact joined
    all_goals exact .refl s
  | frameVetoed heard =>
    refine .of_whenLive h ?_
    split
    iterate 2 exact idle
    iterate 2 exact (State.noFirstRead_heardVetoed heard).refreshDrive
    · exact joined
    all_goals exact .refl s
  | unacceptedFrameClose =>
    refine .of_whenLive h ?_
    split
    iterate 3 exact idle
    · exact joined
    all_goals exact .refl s
  | cutTaken =>
    refine .of_whenLive h ?_
    split
    · exact .refl s
    · split
      · exact (State.samePort_popInbound.trans (State.samePort_takeCut _)).issues.settle
      all_goals exact .refl s
  | eventTaken =>
    refine .of_whenLive h ?_
    split
    · exact .refl s
    · split
      · split <;> exact .inl ⟨rfl, rfl⟩
      all_goals exact .refl s
  | nextTaken =>
    refine .of_whenLive h ?_
    split
    · exact .refl s
    · split
      · split
        · split
          · exact State.NoFirstRead.settle (.inl ⟨rfl, rfl⟩)
          · exact State.NoFirstRead.settle (.inl ⟨by simp [State.closeEpoch], by simp [State.closeEpoch]⟩)
        · exact pop.refreshDrive
      all_goals exact .refl s
  | reportFrameTaken =>
    refine .of_whenLive h ?_
    split
    · exact .refl s
    · split
      iterate 3 exact pop
      all_goals exact .refl s
  | run =>
    exact .of_frontCommand (g := fun _ s => s.popInbound.doRun.refreshDrive) h fun _ =>
      (State.samePort_popInbound.trans (s.popInbound.samePort_modeCommands 0).1).issues.refreshDrive
  | pause =>
    exact .of_frontCommand (g := fun _ s => s.popInbound.doPause.refreshDrive) h fun _ =>
      (State.samePort_popInbound.trans (s.popInbound.samePort_modeCommands 0).2.1).issues.refreshDrive
  | step =>
    exact .of_frontCommand (g := fun a s => (s.popInbound.doStep (stepArg a)).refreshDrive) h fun a =>
      (State.samePort_popInbound.trans (s.popInbound.samePort_modeCommands (stepArg a)).2.2).issues.refreshDrive
  | seek =>
    exact .of_frontCommand (g := fun a s => (s.popInbound.beginSeek (seekArg a)).settle) h fun a =>
      (State.samePort_popInbound.then (State.noFirstRead_beginSeek _)).settle
  | halt =>
    refine .of_whenLive h ?_
    split
    · split
      · exact pop
      all_goals exact State.NoFirstRead.refreshDrive (.of_none (by simp))
    · exact .refl s
  | epoch =>
    exact .of_frontCommand (g := fun a s => { s.popInbound with pu.span := epochArg a }) h fun _ => .inl ⟨rfl, rfl⟩
  | rate =>
    exact .of_frontCommand (g := fun a s => State.refreshDrive { s.popInbound with pu.pace := rateArg a }) h
      fun _ => .inl ⟨rfl, rfl⟩
  | release =>
    refine .of_whenLive h ?_
    split
    · exact .refl s
    · split
      · exact pop
      · split
        next hn =>
          simp only [Bool.and_eq_true, beq_iff_eq] at hn
          have hw := State.works_releaseLane (s := s.popInbound) (by simpa using hn.2) ‹_›
          exact (State.samePort_popInbound.trans hw.samePort).issues.settle
        next => exact pop
  | query =>
    exact .of_frontCommand (g := fun a s => { s.popInbound with dst := s.dst.query a.numeric.toNat }) h
      fun _ => .inl ⟨rfl, rfl⟩
  | poll =>
    refine .of_frontCommand (g := fun a s => if s.named a then s.popInbound.placeStatus else s.popInbound) h
      fun a => ?_
    split
    · exact pop.then status
    · exact pop
  | undefinedCommand =>
    refine .of_whenLive h ?_
    split
    · split
      · exact pop
      · exact .refl s
    · exact .refl s
  | closePulseEnd => exact .of_whenLive h (.inl ⟨rfl, rfl⟩)
  | paceTimeMet => exact .of_whenLive h (.inl ⟨rfl, rfl⟩)
  | bhlRise =>
    refine .of_whenLive h (State.NoFirstRead.refreshDrive ?_)
    unfold State.rise
    split <;> exact .inl ⟨rfl, rfl⟩
  | bhlDominantRead =>
    refine .of_whenLive h (State.NoFirstRead.refreshDrive ?_)
    rw [State.suspendOn_dominant_eq]
    exact .inl ⟨rfl, rfl⟩
  | referenceLost =>
    refine .of_whenLive h ?_
    split
    · exact .inl ⟨by simp, by simp⟩
    · exact .refl s
  | referenceRestored =>
    refine .of_whenLive h ?_
    split
    · exact .inl ⟨by simp, by simp⟩
    · exact .refl s
  | discardedAnswer => exact .inl (by rw [← Host.Outcome.next.inj h]; exact .refl s)

/-- The start of a visit reads where the AFU makes visits on an idle port (R24, R25). -/
theorem execLaneVisitStart_reads {s t : State} (h : exec .laneVisitStart s = .next t) :
    t = s ∨ s.MakesVisits ∧ s.afu.request = none := by
  rcases State.whenLive_next h with ⟨-, rfl⟩ | ⟨-, rfl⟩
  · exact .inl rfl
  · split
    next hv =>
      simp only [Bool.and_eq_true, Option.isNone_iff_eq_none] at hv
      exact .inr ⟨s.visitsAllowed_iff.1 hv.1, hv.2⟩
    next => exact .inl rfl

/-- The answer to a lane's read leads to the next read of the lane where the AFU makes visits and has not ceased to since
the answered one (R24, R26). -/
theorem State.continueVisit_reads {s : State} {l m : Fin 16} {d : Slot} {n : Nat}
    (h : (((s.answerTaken m).takeSlot m d).continueVisit m).settle.afu.request =
      some { owner := .lane l, slot := n, retry := false }) :
    l = m ∧ s.MakesVisits ∧ s.afu.visitEnding = false := by
  have hw := State.works_takeSlot (s := s.answerTaken m) (l := m) (by simp) d
  generalize (s.answerTaken m).takeSlot m d = u at hw h
  have hport := hw.port
  have hidle : u.afu.request = none := by rw [hport]; rfl
  rw [State.settle_afu_request] at h
  unfold State.continueVisit at h
  split at h
  next hc =>
    simp only [State.mayContinue, Bool.and_eq_true, Bool.not_eq_true'] at hc
    obtain ⟨⟨-, hv⟩, hending⟩ := hc
    have hlane : l = m := by
      simp [State.readLane] at h
      exact h.1.symm
    refine ⟨hlane, ?_, ?_⟩
    · have hmode : u.rc.mode = s.rc.mode := by rw [hw.rc]; rfl
      have hpu : u.pu = s.pu := hw.pu
      have hcut : u.mq.cut = s.mq.cut := hw.cut
      have hck : u.afu.checkpoint = s.afu.checkpoint := by rw [hport]; rfl
      have hm := u.visitsAllowed_iff.1 hv
      rwa [State.MakesVisits, hmode, hpu, hcut, hck] at hm
    · rw [hport] at hending
      exact hending
  next =>
    rw [State.endVisit_afu_request, hidle] at h
    cases h

/-- A lane's first read behind the answer to a lane's read is that lane's own next one (R26). -/
theorem execLaneSlotAnswer_reads {words : List PortWord} {s t : State} {l : Fin 16} {n : Nat}
    (h : execLaneSlotAnswer words s = .next t)
    (ht : t.afu.request = some { owner := .lane l, slot := n, retry := false }) :
    s.SamePort t ∨ s.MakesVisits ∧ (∃ k retry, s.afu.request = some { owner := .lane l, slot := k, retry := retry }) ∧
      s.afu.visitEnding = false := by
  rcases State.whenLive_next h with ⟨-, rfl⟩ | ⟨-, he⟩
  · exact .inl (.refl _)
  split at he
  next m k retry hq =>
    unfold State.takeWords at he
    split at he
    next =>
      rw [he]
      exact .inl ⟨rfl, rfl⟩
    next =>
      rw [he] at ht
      obtain ⟨rfl, hv, hending⟩ := State.continueVisit_reads ht
      exact .inr ⟨hv, ⟨k, retry, hq⟩, hending⟩
  next =>
    rw [he]
    exact .inl (.refl s)

/-- Settles O11: the search of `State.chooseLane`, the two conditions of `LANE_VISIT_START`, and the commands that read. -/
theorem visitBeginsOnTheFirstReadyLane : Obligations.VisitBeginsOnTheFirstReadyLane := by
  refine ⟨fun s hr hidle hv => ⟨fun i l hl hready hsilent hfirst => ?_, fun hnone => ?_⟩, fun s h => ?_,
    fun c s t l n h ht => ?_⟩
  · subst hl
    have hchoose := State.chooseLane_eq_some (s := s) ⟨hready, hsilent⟩ hfirst
    simp only [exec, execLaneVisitStart, State.whenLive_live hr, s.visitsAllowed_iff.2 hv, hidle, Option.isNone_none,
      Bool.and_self, if_true, hchoose]
    rfl
  · have hchoose := State.chooseLane_eq_none (s := s) hnone
    simp only [exec, execLaneVisitStart, State.whenLive_live hr, hchoose]
    split <;> rfl
  · have hno : ¬(s.visitsAllowed && s.afu.request.isNone) = true := by
      rw [Bool.and_eq_true, State.visitsAllowed_iff, Option.isNone_iff_eq_none]
      exact fun ⟨hv, hn⟩ => h.elim (absurd hv) (absurd hn)
    simp only [exec, execLaneVisitStart]
    exact State.whenLive_of_eq (by rw [if_neg hno])
  · by_cases hc : c = .laneVisitStart
    · subst hc
      rcases execLaneVisitStart_reads h with rfl | ⟨hv, hidle⟩
      · exact .inl ⟨rfl, rfl⟩
      · exact .inr ⟨hv, .inl ⟨rfl, hidle⟩⟩
    by_cases ha : ∃ words, c = .laneSlotAnswer words
    · obtain ⟨words, rfl⟩ := ha
      rcases execLaneSlotAnswer_reads h ht with hs | ⟨hv, ⟨k, retry, hq⟩, hending⟩
      · exact .inl ⟨hs.request, hs.atag⟩
      · exact .inr ⟨hv, .inr ⟨⟨words, k, retry, rfl, hq⟩, hending⟩⟩
    · rcases exec_noFirstRead h hc fun words hw => ha ⟨words, hw⟩ with hs | hn
      · exact .inl ⟨hs.request, hs.atag⟩
      · exact absurd ht (hn l n)

end Sys2Proof.Machine
end

section
/-! PROOFS. The RELEASE of a lane (R36 to R39, R71, R140 to R143, R149, R150). -/

namespace Sys2Proof.Machine

/-! One lane set, and the end of the command outside SEEKING. -/

/-- From `s` to `t` lane l is set to `x`, the queue's entries to `q` and the findings to `k`; beyond these only the cut
record and the drive follow. -/
structure State.SetsLane (s t : State) (l : Fin 16) (x : Lane) (q : List Entry) (k : Cku) : Prop where
  lane : t.lane l = x
  others : ∀ m, m ≠ l → t.lane m = s.lane m
  entries : t.mq.entries = q
  cku : t.cku = k
  biu : t.biu = s.biu
  rc : t.rc = s.rc
  dst : t.dst = s.dst
  pu : t.pu = { s.pu with drive := t.pu.drive }

section
variable {s : State} {l : Fin 16} {x y : Lane} {q : List Entry} {k : Cku} {e : HeldEvent}

theorem State.atLane_self (s : State) (l : Fin 16) : s.atLane l (s.lane l) s.mq.entries s.cku = s := by
  rw [State.atLane, State.setLane_self]

theorem State.setsLane_settle (hm : s.rc.mode ≠ .seeking) : s.SetsLane (s.atLane l x q k).settle l x q k := by
  have hs : (s.atLane l x q k).rc.mode ≠ .seeking := hm
  have hl := State.lane_settle_of_ne hs
  rw [State.settle_of_ne hs] at hl ⊢
  exact ⟨(hl l).trans State.lane_atLane, fun m h => (hl m).trans (State.lane_atLane_other h), rfl, rfl, rfl, rfl, rfl,
    rfl⟩

theorem State.testReleased_atLane :
    (s.atLane l y q k).testReleased l = s.atLane l (y.passTest s.pu.windowEnd) q k := by
  rw [State.testReleased, State.lane_atLane, State.setLane_atLane]
  rfl

/-- A slot that inserts nothing is passed, and the lane tested (R36, R37, R39). -/
theorem Lane.passTest_passSlot (x : Lane) (w : Nat) : x.passSlot.passTest w = { x with
    readPos := x.readPos + 1, held := none, trap := none
    state := if x.slotCount ≤ x.readPos + 1 then .ended else if w ≤ x.clock.lastCorrected then .passed
      else .ready } := by
  unfold Lane.passSlot Lane.stateAfterSlot Lane.advance Lane.passTest
  dsimp only
  split_ifs <;> rfl

/-- The state of a lane that has inserted an event is settled (R36). -/
theorem Lane.passTest_afterInsert (x : Lane) (e : HeldEvent) (time w : Nat) :
    (x.afterInsert e time w).passTest w = x.afterInsert e time w := by
  have hclock : (x.afterInsert e time w).clock.lastCorrected = time := rfl
  unfold Lane.passTest
  rw [hclock]
  split
  next h =>
    have : ¬w ≤ time := fun hw => by simp [Lane.afterInsert, hw] at h; split at h <;> cases h
    rw [if_neg this]
  next h => exact absurd h (by simp only [Lane.afterInsert]; split_ifs <;> nofun)
  next h =>
    have : w ≤ time := by_contra fun hw => by simp [Lane.afterInsert, hw] at h; split at h <;> cases h
    rw [if_pos this]
  all_goals rfl

/-- What an insertion leaves, from a lane whose slot, held item and trap alone have changed since `s` (R35, R36, R50,
R63). -/
theorem State.inserts_of_lane {s t : State} {l : Fin 16} {e : HeldEvent} {q : List Entry} {pos : Nat}
    {held : Option HeldItem} {trap : Option Trap} {y : Lane} (hm : s.rc.mode ≠ .seeking)
    (hy : y = { s.lane l with readPos := pos, held := held, trap := trap })
    (hl : t.lane l = y.afterInsert e (y.clock.holdTime s.holdFloor e) s.pu.windowEnd)
    (hq : t.mq.entries = insertEntry (y.entryFor l e (y.clock.holdTime s.holdFloor e)) q) :
    s.Inserts t l e pos s.pu.windowStart s.pu.windowEnd q := by
  have htime : y.clock.holdTime s.holdFloor e =
      max e.unheld (max (s.lane l).clock.lastCorrected s.pu.windowStart) := by
    rw [State.holdFloor_eq, if_neg hm, hy]
    rfl
  rw [htime, hy] at hl hq
  constructor
  · rintro time rfl
    exact hl
  · rintro time rfl
    exact hq

end

/-! A RELEASE that names a TRAPPED lane (R149, R150). -/

/-- The lane leaves its trap, and the command settles. -/
theorem State.Takes.exec_release {s : State} {f : Frame} {rest : List Frame} (ht : s.Takes f rest) {a : CommandBody}
    (hf : Frame.Commands f 8 a) (hname : a.station.toNat = s.straps.station.toNat)
    (hlane : (s.lane a.lane.toFin).state = .trapped) {action : ReleaseAction}
    (ha : ReleaseAction.ofCode a.action.toNat = some action) :
    exec .release s = .next ({ s with biu.inbound := rest }.releaseLane a.lane.toFin action).settle := by
  have hnamed : (s.namedAlone a && (s.lane a.lane.toFin).state == .trapped) = true := by
    rw [Bool.and_eq_true, State.namedAlone, beq_iff_eq, beq_iff_eq]
    exact ⟨hname, hlane⟩
  simp only [exec, execRelease, State.whenLive_live ht.live, ht.frontCommand hf, ha, if_pos hnamed, ht.popInbound_eq]

/-- Any other RELEASE is taken without effect (R149, R170). -/
theorem State.Takes.exec_release_ignored {s : State} {f : Frame} {rest : List Frame} (ht : s.Takes f rest)
    {a : CommandBody} (hf : Frame.Commands f 8 a)
    (h : a.station.toNat ≠ s.straps.station.toNat ∨ (s.lane a.lane.toFin).state ≠ .trapped ∨
      ReleaseAction.ofCode a.action.toNat = none) :
    exec .release s = .next { s with biu.inbound := rest } := by
  have hnamed : (s.namedAlone a && (s.lane a.lane.toFin).state == .trapped) = true ↔
      a.station.toNat = s.straps.station.toNat ∧ (s.lane a.lane.toFin).state = .trapped := by
    rw [Bool.and_eq_true, State.namedAlone, beq_iff_eq, beq_iff_eq]
  simp only [exec, execRelease, State.whenLive_live ht.live, ht.frontCommand hf, ht.popInbound_eq]
  split
  next => rfl
  next action ha =>
    rw [if_neg]
    rw [hnamed]
    rintro ⟨hname, hlane⟩
    rcases h with h | h | h
    · exact h hname
    · exact h hlane
    · rw [ha] at h
      cases h

theorem ReleaseAction.ofCode_eq_none {n : Nat} : ReleaseAction.ofCode n = none ↔ 1 < n := by
  match n with
  | 0 => simp [ReleaseAction.ofCode]
  | 1 => simp [ReleaseAction.ofCode]
  | n + 2 => simp [ReleaseAction.ofCode]

/-- The action of a RELEASE by its code (Table 11-6). -/
theorem ReleaseAction.code_cases (action : BitVec 2) :
    (action = 0#2 ∧ ReleaseAction.ofCode action.toNat = some .skip) ∨
      (action = 1#2 ∧ ReleaseAction.ofCode action.toNat = some .apply) ∨
      (action ≠ 0#2 ∧ action ≠ 1#2 ∧ ReleaseAction.ofCode action.toNat = none) := by
  revert action
  decide

/-! A trap at fetch (R39, R143). -/

section
variable {v : State} {l : Fin 16} {g : Nat} {e : HeldEvent} {action : ReleaseAction}

theorem State.skipHeld_eq (v : State) (l : Fin 16) :
    v.skipHeld l = v.atLane l ((v.lane l).passSlot.passTest v.pu.windowEnd) v.mq.entries v.cku := by
  rw [← State.testReleased_atLane]
  rfl

theorem State.applyHeldMark_eq (v : State) (l : Fin 16) (raw reference : Nat) :
    v.applyHeldMark l raw reference =
      v.atLane l (({ v.lane l with clock := (v.lane l).clock.applyStep raw reference }.passSlot).passTest
        v.pu.windowEnd) v.mq.entries v.cku := by
  rw [← State.testReleased_atLane]
  rfl

/-- The model after a mark applied as a step, in figures (R46, R60). -/
theorem ClockModel.applyStep_eq (c : ClockModel) (raw reference : Nat) : c.applyStep raw reference = { c with
    offset := max (-549755813887) (min 549755813887 ((reference : Int) - raw)), referenceRaw := raw
    lastMarkOffset := max (-549755813887) (min 549755813887 ((reference : Int) - raw))
    lastMarkRaw := raw, markCount := 1, lastRaw := raw } := by
  have h : clampOffset (measuredOffset raw reference) =
      max (-549755813887) (min 549755813887 ((reference : Int) - raw)) := clampInt_eq (by decide) _
  rw [← h]
  rfl

/-- The read position has passed the trapped slot, and the lane has been tested against the window end. -/
def Lane.releasedPast (x : Lane) (windowEnd : Nat) : Lane :=
  { x with
    readPos := x.readPos + 1, held := none, trap := none
    state := if x.slotCount ≤ x.readPos + 1 then .ended else if windowEnd ≤ x.clock.lastCorrected then .passed
      else .ready }

/-- SKIP passes the slot, and so does APPLY of anything but a mark or an event of group 2. -/
theorem State.releaseFetch_skips (hm : v.rc.mode ≠ .seeking)
    (h : action = .skip ∨ (v.lane l).held = some .slot ∨ ∃ e, (v.lane l).held = some (.event e) ∧ g ≠ 2) :
    v.SetsLane (v.releaseFetch l g action).settle l ((v.lane l).releasedPast v.pu.windowEnd) v.mq.entries v.cku := by
  have hskip : v.releaseFetch l g action = v.skipHeld l := by
    unfold State.releaseFetch
    cases action with
    | skip => rfl
    | apply =>
      rcases h with h | h | ⟨e, h, hg⟩
      · cases h
      · rw [h]
      · rw [h]
        exact if_neg hg
  rw [hskip, State.skipHeld_eq, Lane.passTest_passSlot]
  exact State.setsLane_settle hm

/-- APPLY of a mark applies it as a step and passes its slot. -/
theorem State.releaseFetch_appliesMark (hm : v.rc.mode ≠ .seeking) {raw reference : Nat}
    (h : (v.lane l).held = some (.mark raw reference)) :
    v.SetsLane (v.releaseFetch l g .apply).settle l
      ({ v.lane l with clock := (v.lane l).clock.applyStep raw reference }.releasedPast v.pu.windowEnd)
      v.mq.entries v.cku := by
  have happly : v.releaseFetch l g .apply = v.applyHeldMark l raw reference := by
    simp only [State.releaseFetch, h]
  rw [happly, State.applyHeldMark_eq, Lane.passTest_passSlot]
  exact State.setsLane_settle hm

theorem State.releaseFetch_event (h : (v.lane l).held = some (.event e)) :
    v.releaseFetch l 2 .apply = (v.referenceStage l e).testReleased l := by
  simp only [State.releaseFetch, h, if_pos]
  rfl

/-- APPLY of an event of group 2 without an anomaly inserts it when an entry is free. -/
theorem State.releaseFetch_inserts (hm : v.rc.mode ≠ .seeking) (h : (v.lane l).held = some (.event e))
    (ha : (v.dst.referenceCheck l e.device).any = false) (hq : v.mq.entries.length < 256) :
    v.SetsLane (v.releaseFetch l 2 .apply).settle l
      ((v.lane l).advance.afterInsert e ((v.lane l).clock.holdTime v.holdFloor e) v.pu.windowEnd)
      (insertEntry ((v.lane l).advance.entryFor l e ((v.lane l).clock.holdTime v.holdFloor e)) v.mq.entries)
      v.cku := by
  have hstage := State.referenceStage_inserts (s := v) (y := v.lane l) (k := v.cku) ha hq
  rw [State.atLane_self] at hstage
  rw [State.releaseFetch_event h, hstage, State.testReleased_atLane, Lane.passTest_afterInsert]
  exact State.setsLane_settle hm

/-- The record waits STALLED otherwise, and the lane is tested against the window end. -/
theorem State.releaseFetch_stalls (hm : v.rc.mode ≠ .seeking) (h : (v.lane l).held = some (.event e))
    (ha : (v.dst.referenceCheck l e.device).any = false) (hq : 256 ≤ v.mq.entries.length) :
    v.SetsLane (v.releaseFetch l 2 .apply).settle l { v.lane l with
      readPos := (v.lane l).readPos + 1, held := some (.released e), trap := none
      state := if v.pu.windowEnd ≤ (v.lane l).clock.lastCorrected then .passed else .stalled }
      v.mq.entries v.cku := by
  have hfull : v.queueFull = true := decide_eq_true hq
  have htest : ({ (v.lane l).advance with state := .stalled, held := some (.released e) } : Lane).passTest
      v.pu.windowEnd = { v.lane l with
        readPos := (v.lane l).readPos + 1, held := some (.released e), trap := none
        state := if v.pu.windowEnd ≤ (v.lane l).clock.lastCorrected then .passed else .stalled } := by
    unfold Lane.passTest Lane.advance
    dsimp only
    split <;> rfl
  rw [State.releaseFetch_event h, State.referenceStage_of_regular ha, State.insertOrStall, if_pos hfull, ← htest]
  exact State.testReleased_atLane (s := v) (q := v.mq.entries) (k := v.cku) ▸ State.setsLane_settle hm

/-- With an anomaly it is skipped under PASS. -/
theorem State.releaseFetch_skipsEvent (hm : v.rc.mode ≠ .seeking) (h : (v.lane l).held = some (.event e))
    (ha : (v.dst.referenceCheck l e.device).any = true) (hmask : (v.lane l).mask.group3 = .pass) :
    ∃ k, v.cku.Raises k (laneFinding l 3 (v.dst.referenceCheck l e.device) .skipped (some e.device) e.slot e.unheld) ∧
      v.SetsLane (v.releaseFetch l 2 .apply).settle l ((v.lane l).releasedPast v.pu.windowEnd) v.mq.entries k := by
  obtain ⟨k, hk, hstage⟩ := State.referenceStage_skips (s := v) (y := v.lane l) (q := v.mq.entries) (k := v.cku) ha
    (.inr hmask)
  rw [State.atLane_self] at hstage
  refine ⟨k, hk, ?_⟩
  rw [State.releaseFetch_event h, hstage, State.testReleased_atLane, Lane.passTest_passSlot]
  exact State.setsLane_settle hm

/-- With an anomaly it is trapped again under HOLD. -/
theorem State.releaseFetch_holdsEvent (hm : v.rc.mode ≠ .seeking) (h : (v.lane l).held = some (.event e))
    (ha : (v.dst.referenceCheck l e.device).any = true) (hmask : (v.lane l).mask.group3 = .hold) :
    ∃ k, v.cku.Raises k
        (laneFinding l 3 (v.dst.referenceCheck l e.device) .heldForRelease (some e.device) e.slot e.unheld) ∧
      v.SetsLane (v.releaseFetch l 2 .apply).settle l
        { v.lane l with state := .trapped, held := some (.event e), trap := some (.fetch 3) } v.mq.entries k := by
  obtain ⟨k, hk, hstage⟩ := State.referenceStage_holds (s := v) (y := v.lane l) (q := v.mq.entries) (k := v.cku) ha hm
    hmask
  rw [State.atLane_self] at hstage
  refine ⟨k, hk, ?_⟩
  rw [State.releaseFetch_event h, hstage, State.testReleased_atLane]
  exact State.setsLane_settle hm

/-- Whatever it does, a RELEASE of a trap at fetch sets no lane but its own. -/
theorem State.releaseFetch_setsLane (hm : v.rc.mode ≠ .seeking) :
    ∃ x q k, v.SetsLane (v.releaseFetch l g action).settle l x q k := by
  have skips : v.releaseFetch l g action = v.skipHeld l →
      ∃ x q k, v.SetsLane (v.releaseFetch l g action).settle l x q k :=
    fun h => ⟨_, _, _, by rw [h, State.skipHeld_eq]; exact State.setsLane_settle hm⟩
  cases action with
  | skip => exact skips rfl
  | apply =>
    rcases hheld : (v.lane l).held with _ | ⟨_⟩ | ⟨raw, reference⟩ | e | e
    case none => exact skips (by simp only [State.releaseFetch, hheld])
    case some.slot => exact skips (by simp only [State.releaseFetch, hheld])
    case some.released => exact skips (by simp only [State.releaseFetch, hheld])
    case some.mark => exact ⟨_, _, _, State.releaseFetch_appliesMark hm hheld⟩
    case some.event =>
      by_cases hg : g = 2
      · subst hg
        cases ha : (v.dst.referenceCheck l e.device).any with
        | false =>
          rcases lt_or_ge v.mq.entries.length 256 with hq | hq
          · exact ⟨_, _, _, State.releaseFetch_inserts hm hheld ha hq⟩
          · exact ⟨_, _, _, State.releaseFetch_stalls hm hheld ha hq⟩
        | true =>
          cases hmask : (v.lane l).mask.group3 with
          | pass => exact ⟨_, _, _, (State.releaseFetch_skipsEvent hm hheld ha hmask).choose_spec.2⟩
          | hold => exact ⟨_, _, _, (State.releaseFetch_holdsEvent hm hheld ha hmask).choose_spec.2⟩
      · exact ⟨_, _, _, State.releaseFetch_skips hm (.inr (.inr ⟨e, hheld, hg⟩))⟩

end

/-- Settles O48: the frame is taken, and the action decides; APPLY of an event of group 2 goes by its checks. -/
theorem releaseOfAFetchTrapPassesTheSlot : Obligations.ReleaseOfAFetchTrapPassesTheSlot := by
  intro s f rest a l g x ht hf hname hl hm hx hstate htrap
  subst hl hx
  generalize hlane : a.lane.toFin = l at *
  obtain ⟨v, hv⟩ : ∃ v : State, v = { s with biu.inbound := rest } := ⟨_, rfl⟩
  have hmode : v.rc.mode ≠ .seeking := by rw [hv]; exact hm
  have hexec : ∀ {action}, ReleaseAction.ofCode a.action.toNat = some action →
      exec .release s = .next (v.releaseFetch l g action).settle := by
    intro action hcode
    have h := ht.exec_release hf hname (hlane ▸ hstate) hcode
    have htrap' : (v.lane l).trap = some (.fetch g) := by rw [hv]; exact htrap
    rwa [hlane, ← hv, State.releaseLane, htrap'] at h
  have hvlane : ∀ m, v.lane m = s.lane m := fun m => by rw [hv]; rfl
  have hrc : v.rc = s.rc := by rw [hv]
  have hdst : v.dst = s.dst := by rw [hv]
  have hpu : v.pu = s.pu := by rw [hv]
  have hmq : v.mq = s.mq := by rw [hv]
  have hcku : v.cku = s.cku := by rw [hv]
  have hbiu : v.biu = { s.biu with inbound := rest } := by rw [hv]
  have hfloor : v.holdFloor = s.holdFloor := by rw [hv]; rfl
  rcases ReleaseAction.code_cases a.action with ⟨hact, hcode⟩ | ⟨hact, hcode⟩ | ⟨hskip, happly, hcode⟩
  case inr.inr =>
    refine ⟨v, hv ▸ ht.exec_release_ignored hf (.inr (.inr hcode)), hbiu, fun m _ => hvlane m, hrc, hdst, by rw [hpu],
      ?_, ?_, ?_⟩
    · rintro (h | ⟨h, -⟩)
      · exact absurd h hskip
      · exact absurd h happly
    · exact fun _ _ h => absurd h happly
    · exact fun _ _ h => absurd h happly
  all_goals
    obtain ⟨x, q, k, hset⟩ := State.releaseFetch_setsLane (l := l) (g := g) hmode
    refine ⟨_, hexec hcode, hset.biu.trans hbiu, fun m h => (hset.others m h).trans (hvlane m), hset.rc.trans hrc,
      hset.dst.trans hdst, by rw [hset.pu, hpu], ?_⟩
    clear hset
  case inl =>
    refine ⟨fun _ => ?_, fun _ _ h => ?_, fun _ _ h => ?_⟩
    · have h := State.releaseFetch_skips (l := l) (g := g) hmode (.inl rfl)
      rw [hvlane, hpu, hmq, hcku] at h
      exact ⟨h.lane, h.cku, h.entries⟩
    · rw [hact] at h; cases h
    · rw [hact] at h; cases h
  case inr.inl =>
    refine ⟨fun hpass => ?_, fun raw reference _ hheld => ?_, fun e b _ hg hheld hb => ?_⟩
    · have h := State.releaseFetch_skips (action := .apply) (l := l) (g := g) hmode (.inr (by
        rw [hvlane]
        exact (hpass.resolve_left fun h => by rw [hact] at h; cases h).2))
      rw [hvlane, hpu, hmq, hcku] at h
      exact ⟨h.lane, h.cku, h.entries⟩
    · have h := State.releaseFetch_appliesMark (g := g) hmode ((hvlane l).symm ▸ hheld)
      rw [hvlane, hpu, hmq, hcku, ClockModel.applyStep_eq] at h
      exact ⟨h.lane, h.cku, h.entries⟩
    · subst hg
      have hcheck : v.dst.referenceCheck l e.device = b := by rw [hdst, Dst.referenceCheck_eq, hb]
      have hany := v.dst.referenceCheck_any l e.device
      rw [hcheck] at hany
      have hheld' : (v.lane l).held = some (.event e) := (hvlane l).symm ▸ hheld
      refine ⟨fun h1 h2 => ?_, fun hbad => ?_⟩
      · have ha : (v.dst.referenceCheck l e.device).any = false := by
          rw [hcheck, ← Bool.not_eq_true, hany, h1, h2]
          simp
        rcases lt_or_ge s.mq.entries.length 256 with hq | hq
        · have h := State.releaseFetch_inserts hmode hheld' ha (hmq ▸ hq)
          rw [hvlane, hpu, hmq, hcku, hfloor] at h
          exact ⟨h.cku, fun _ => State.inserts_of_lane hm rfl h.lane h.entries, fun h' => absurd hq (not_lt.2 h')⟩
        · have h := State.releaseFetch_stalls hmode hheld' ha (hmq ▸ hq)
          rw [hvlane, hpu, hmq, hcku] at h
          exact ⟨h.cku, fun h' => absurd hq (not_le.2 h'), fun _ => ⟨h.entries, h.lane⟩⟩
      · have ha : (v.dst.referenceCheck l e.device).any = true := by rwa [hcheck, hany]
        cases hmask : (s.lane l).mask.group3 with
        | pass =>
          obtain ⟨k, hk, h⟩ := State.releaseFetch_skipsEvent hmode hheld' ha (by rwa [hvlane])
          rw [hvlane, hpu, hmq] at h
          rw [hcheck, hcku] at hk
          exact ⟨h.entries, fun _ => ⟨h.lane, h.cku.symm ▸ hk⟩, nofun⟩
        | hold =>
          obtain ⟨k, hk, h⟩ := State.releaseFetch_holdsEvent hmode hheld' ha (by rwa [hvlane])
          rw [hvlane, hmq] at h
          rw [hcheck, hcku] at hk
          exact ⟨h.entries, nofun, fun _ => ⟨h.lane, h.cku.symm ▸ hk⟩⟩

end Sys2Proof.Machine
end

section
/-! PROOFS. An entry that leaves the merge queue: the RELEASE of a trap at winning, and the engine's own accepted frame
(R36 to R38, R69, R71, R92, R93, R97, R131, R149, R150, R153, R167). -/

namespace Sys2Proof.Machine

/-! A freed entry (R38). -/

theorem Lane.releasedRecord_eq_some {x : Lane} {e : HeldEvent} :
    x.releasedRecord = some e ↔ x.held = some (.released e) := by
  unfold Lane.releasedRecord
  split <;> simp_all

theorem Lane.releasedRecord_eq_none {x : Lane} : x.releasedRecord = none ↔ ∀ e, x.held ≠ some (.released e) := by
  rw [Option.eq_none_iff_forall_ne_some]
  exact forall_congr' fun e => not_congr Lane.releasedRecord_eq_some

/-- The first lane with a property has it, and no lower-numbered lane has. -/
theorem State.firstLane_eq_some {s : State} {p : Lane → Bool} {w : Fin 16} (h : s.firstLane p = some w) :
    p (s.lane w) = true ∧ ∀ m, m < w → p (s.lane m) = false := by
  obtain ⟨hw, before, after, hlist, hnone⟩ := List.find?_eq_some_iff_append.1 h
  refine ⟨hw, fun m hm => ?_⟩
  have hsorted : (before ++ w :: after).Pairwise (· < ·) := hlist ▸ List.pairwise_lt_finRange 16
  have hmem : m ∈ before ++ w :: after := hlist ▸ List.mem_finRange m
  obtain ⟨-, hafter, -⟩ := List.pairwise_append.1 hsorted
  rw [List.pairwise_cons] at hafter
  rcases List.mem_append.1 hmem with h | h
  · simpa using hnone m h
  · rcases List.mem_cons.1 h with rfl | h
    · exact absurd hm (lt_irrefl _)
    · exact absurd hm (hafter.1 m h).not_gt

section
variable {u : State}

/-- The freed entry is unclaimed, and the STALLED lanes become READY, or the lowest-numbered of those with a released
record inserts it. -/
theorem State.entryFreed_cases (u : State) :
    ((256 ≤ u.mq.entries.length ∨ ∀ l e, (u.lane l).state = .stalled → (u.lane l).held ≠ some (.released e)) ∧
        u.entryFreed = u.mapLanes Lane.resume) ∨
      ∃ w e, u.mq.entries.length < 256 ∧ (u.lane w).state = .stalled ∧ (u.lane w).held = some (.released e) ∧
        (∀ l g, l < w → (u.lane l).state = .stalled → (u.lane l).held ≠ some (.released g)) ∧
        u.entryFreed = (u.mapLanes Lane.resume).atLane w
          ((u.lane w).afterInsert e ((u.lane w).clock.holdTime u.holdFloor e) u.pu.windowEnd)
          (insertEntry ((u.lane w).entryFor w e ((u.lane w).clock.holdTime u.holdFloor e)) u.mq.entries) u.cku := by
  have hclaims : ∀ l, (((u.mapLanes Lane.resume).lane l).state == .stalled &&
      ((u.mapLanes Lane.resume).lane l).releasedRecord.isSome) = true ↔
        (u.lane l).state = .stalled ∧ (u.lane l).releasedRecord.isSome = true := by
    intro l
    rw [State.lane_mapLanes]
    rcases (u.lane l).resume_eq with he | ⟨hs, hr, he⟩
    · rw [he, Bool.and_eq_true, beq_iff_eq]
    · rw [he, hr]
      simp
  have hfull : (u.mapLanes Lane.resume).queueFull = decide (256 ≤ u.mq.entries.length) := rfl
  unfold State.entryFreed State.insertReleased
  cases hw : (u.mapLanes Lane.resume).firstLane fun x => x.state == .stalled && x.releasedRecord.isSome with
  | none =>
    refine .inl ⟨.inr fun l e hs he => ?_, rfl⟩
    have := List.find?_eq_none.1 hw l (List.mem_finRange l)
    exact this ((hclaims l).2 ⟨hs, by rw [Lane.releasedRecord_eq_some.2 he]; rfl⟩)
  | some w =>
    obtain ⟨hp, hlower⟩ := State.firstLane_eq_some hw
    obtain ⟨hs, hr⟩ := (hclaims w).1 hp
    obtain ⟨e, he⟩ := Option.isSome_iff_exists.1 hr
    have hlane : (u.mapLanes Lane.resume).lane w = u.lane w := by
      rw [State.lane_mapLanes, Lane.resume, he]
      simp
    dsimp only
    rw [hlane, he]
    dsimp only
    by_cases hq : 256 ≤ u.mq.entries.length
    · rw [hfull, if_pos (decide_eq_true hq)]
      exact .inl ⟨.inl hq, rfl⟩
    · rw [hfull, if_neg (by simpa using hq)]
      refine .inr ⟨w, e, not_le.1 hq, hs, Lane.releasedRecord_eq_some.1 he, fun l g hl hsl hgl => ?_, ?_⟩
      · have := (hclaims l).2 ⟨hsl, by rw [Lane.releasedRecord_eq_some.2 hgl]; rfl⟩
        rw [hlower l hl] at this
        cases this
      · have hinsert := State.insertEvent_atLane (s := u.mapLanes Lane.resume) (l := w)
          (y := (u.mapLanes Lane.resume).lane w) (q := u.mq.entries) (k := u.cku) e
        rw [hlane] at hinsert
        refine Eq.trans ?_ hinsert
        rw [← hlane]
        exact congrArg (fun s => State.insertEvent s w e) (State.atLane_self _ w).symm

theorem Lane.resume_of_ne {x : Lane} (h : x.state ≠ .stalled) : x.resume = x := by
  rw [Lane.resume, if_neg (by simp [h])]

theorem Lane.resume_of_record {x : Lane} {e : HeldEvent} (h : x.held = some (.released e)) : x.resume = x := by
  rw [Lane.resume, Lane.releasedRecord_eq_some.2 h]
  simp

theorem Lane.resume_of_stalled {x : Lane} (h : x.state = .stalled) (hr : ∀ e, x.held ≠ some (.released e)) :
    x.resume = { x with state := .ready } := by
  rw [Lane.resume, Lane.releasedRecord_eq_none.2 hr]
  simp [h]

end

/-- What a freed entry does, whatever follows on lanes that are not STALLED (R38). -/
theorem State.freesEntry {s u t : State} {apart : Fin 16 → Prop} (hm : s.rc.mode ≠ .seeking)
    (hlane : ∀ l, u.lane l = s.lane l) (hpu : u.pu = s.pu) (hrc : u.rc = s.rc)
    (hapart : ∀ l, apart l → (s.lane l).state ≠ .stalled)
    (ht : ∀ l, ¬apart l → t.lane l = u.entryFreed.lane l) (hq : t.mq.entries = u.entryFreed.mq.entries) :
    s.FreesEntry t u.mq.entries apart := by
  have hstalled : ∀ l, (s.lane l).state = .stalled → t.lane l = u.entryFreed.lane l :=
    fun l h => ht l fun ha => hapart l ha h
  rcases u.entryFreed_cases with ⟨hnone, hu⟩ | ⟨w, e, hroom, hw, hr, hlower, hu⟩
  · rw [hu] at ht hq hstalled
    simp only [State.lane_mapLanes, hlane] at ht hstalled hnone
    refine ⟨fun l ha hs hr => (ht l ha).trans (Lane.resume_of_stalled hs hr),
      fun l ha hs => (ht l ha).trans (Lane.resume_of_ne hs),
      fun _ => ⟨hq, fun l e hs hr => (hstalled l hs).trans (Lane.resume_of_record hr)⟩, fun w e hroom hs hr _ => ?_⟩
    rcases hnone with h | h
    · exact absurd hroom (not_lt.2 h)
    · exact absurd hr (h w e hs)
  · have hother : ∀ l, l ≠ w → u.entryFreed.lane l = (s.lane l).resume := fun l h => by
      rw [hu, State.lane_atLane_other h, State.lane_mapLanes, hlane]
    rw [hlane] at hw hr
    simp only [hlane] at hlower
    have hne : ∀ l, ((s.lane l).state ≠ .stalled ∨ ∀ e, (s.lane l).held ≠ some (.released e)) → l ≠ w := by
      rintro l h rfl
      rcases h with h | h
      · exact h hw
      · exact h e hr
    have hinserts : s.Inserts t w e (s.lane w).readPos s.pu.windowStart s.pu.windowEnd u.mq.entries := by
      have hfloor : u.holdFloor = s.holdFloor := by rw [State.holdFloor, State.holdFloor, hrc, hpu]
      have hwlane := hstalled w hw
      rw [hu, State.lane_atLane, hlane, hfloor, hpu] at hwlane
      rw [hu, hlane, hfloor] at hq
      exact State.inserts_of_lane (held := (s.lane w).held) (trap := (s.lane w).trap) hm rfl hwlane hq
    refine ⟨fun l ha hs hr => ?_, fun l ha hs => ?_, fun h => ?_, fun w' e' _ hs' hr' hlower' => ?_⟩
    · rw [ht l ha, hother l (hne l (.inr hr)), Lane.resume_of_stalled hs hr]
    · rw [ht l ha, hother l (hne l (.inl hs)), Lane.resume_of_ne hs]
    · rcases h with h | h
      · exact absurd hroom (not_lt.2 h)
      · exact absurd hr (h w e hw)
    · obtain rfl : w' = w := by
        rcases lt_trichotomy w' w with h | h | h
        · exact absurd hr' (hlower w' e' h hs')
        · exact h
        · exact absurd hr (hlower' w e h hw)
      obtain rfl : e' = e := by
        rw [hr] at hr'
        simpa using hr'.symm
      exact ⟨hinserts, fun l g hl hs hg => by
        rw [hstalled l hs, hother l hl.ne', Lane.resume_of_record hg]⟩

/-! A trap at winning (R71, R150). -/

theorem Lane.leaveWinning_eq (x : Lane) (before : LaneState) (w : Nat) : x.leaveWinning before w = { x with
    trap := none
    state := if before = .ended then .ended else if before = .lost then .lost
      else if w ≤ x.clock.lastCorrected then .passed else .ready } := by
  have hready : ({ x with state := .ready, trap := none } : Lane).passTest w =
      { x with trap := none, state := if w ≤ x.clock.lastCorrected then .passed else .ready } := by
    unfold Lane.passTest
    dsimp only
    split <;> rfl
  unfold Lane.leaveWinning
  split
  · rfl
  · rfl
  all_goals exact hready

theorem State.markReleased_eq (s : State) (k : EntryKey) : s.markReleased k = { s with
    mq.entries := s.mq.entries.map fun e => if e.key = k then { e with released := true } else e } := by
  simp only [State.markReleased, beq_iff_eq]

theorem State.removeEntry_eq (s : State) (k : EntryKey) : s.removeEntry k = { s with
    mq.entries := s.mq.entries.filter fun e => e.key ≠ k } := by
  have h : (fun e : Entry => !(e.key == k)) = fun e => decide (e.key ≠ k) := by
    funext e
    simp [beq_eq_decide]
  rw [State.removeEntry, h]

theorem State.hasEntry_iff (s : State) (k : EntryKey) : s.hasEntry k = true ↔ ∃ e ∈ s.mq.entries, e.key = k := by
  simp [State.hasEntry]

/-- APPLY marks the entry released where it stands, and the lane leaves its trap. -/
theorem State.releaseWinning_applies {v : State} {l : Fin 16} (hm : v.rc.mode ≠ .seeking) (k : EntryKey)
    (before : LaneState) :
    v.SetsLane (v.releaseWinning l k before .apply).settle l ((v.lane l).leaveWinning before v.pu.windowEnd)
      (v.mq.entries.map fun e => if e.key = k then { e with released := true } else e) v.cku := by
  have h : v.releaseWinning l k before .apply = v.atLane l ((v.lane l).leaveWinning before v.pu.windowEnd)
      (v.mq.entries.map fun e => if e.key = k then { e with released := true } else e) v.cku := by
    rw [State.releaseWinning, State.releaseEntry, State.markReleased_eq]
    rfl
  rw [h]
  exact State.setsLane_settle hm

/-- SKIP removes the entry, which frees it, and the lane leaves its trap. -/
theorem State.releaseWinning_skips {v u : State} {l : Fin 16} (hm : v.rc.mode ≠ .seeking) {k : EntryKey}
    (before : LaneState) (hk : ∃ e ∈ v.mq.entries, e.key = k) (hl : (v.lane l).state = .trapped)
    (hu : u = (v.removeEntry k).entryFreed) :
    u.SetsLane (v.releaseWinning l k before .skip).settle l ((v.lane l).leaveWinning before v.pu.windowEnd)
      u.mq.entries u.cku := by
  have hfreed : v.releaseEntry k .skip = u := by
    rw [hu, State.releaseEntry, if_pos ((v.hasEntry_iff k).2 hk)]
  have hlane : u.lane l = v.lane l := by
    rw [hu, State.lane_entryFreed_of_ne (by rw [State.lane_removeEntry, hl]; nofun), State.lane_removeEntry]
  have hpu : u.pu = v.pu := by rw [hu, State.entryFreed_pu]; rfl
  have hrc : u.rc = v.rc := by rw [hu, State.entryFreed_rc]; rfl
  rw [State.releaseWinning, hfreed, State.leaveWinning, hlane, hpu]
  exact State.setsLane_settle (k := u.cku) (q := u.mq.entries) (hrc ▸ hm)

/-- Settles O49: by the action; a RELEASE that does not end a trap is taken alone. -/
theorem releaseOfAWinningTrapFreesTheLane : Obligations.ReleaseOfAWinningTrapFreesTheLane := by
  intro s f rest a l k before ht hf hl
  subst hl
  generalize hlane : a.lane.toFin = l at *
  refine ⟨fun hname hm hstate htrap hk hcode => ?_, fun h => ?_⟩
  case refine_2 =>
    rw [← hlane, ← ReleaseAction.ofCode_eq_none] at h
    exact ht.exec_release_ignored hf h
  obtain ⟨v, hv⟩ : ∃ v : State, v = { s with biu.inbound := rest } := ⟨_, rfl⟩
  have hexec : ∀ {action}, ReleaseAction.ofCode a.action.toNat = some action →
      exec .release s = .next (v.releaseWinning l k before action).settle := by
    intro action hcode
    have h := ht.exec_release hf hname (hlane ▸ hstate) hcode
    have htrap' : (v.lane l).trap = some (.winning k before) := by rw [hv]; exact htrap
    rwa [hlane, ← hv, State.releaseLane, htrap'] at h
  have hmode : v.rc.mode ≠ .seeking := by rw [hv]; exact hm
  have hvlane : ∀ m, v.lane m = s.lane m := fun m => by rw [hv]; rfl
  have hrc : v.rc = s.rc := by rw [hv]
  have hdst : v.dst = s.dst := by rw [hv]
  have hpu : v.pu = s.pu := by rw [hv]
  have hmq : v.mq = s.mq := by rw [hv]
  have hcku : v.cku = s.cku := by rw [hv]
  have hbiu : v.biu = { s.biu with inbound := rest } := by rw [hv]
  have hleaves := (s.lane l).leaveWinning_eq before s.pu.windowEnd
  rcases ReleaseAction.code_cases a.action with ⟨hact, hof⟩ | ⟨hact, hof⟩ | ⟨-, -, hof⟩
  · obtain ⟨u, hu⟩ : ∃ u, u = (v.removeEntry k).entryFreed := ⟨_, rfl⟩
    have h := State.releaseWinning_skips hmode before (hmq ▸ hk) ((hvlane l).symm ▸ hstate) hu
    have hfrees := State.freesEntry (t := (v.releaseWinning l k before .skip).settle) (u := v.removeEntry k)
      (apart := fun m => m = l) hm hvlane hpu hrc (fun m hm => by rw [hm, hstate]; nofun)
      (fun m hm => hu ▸ h.others m hm) (hu ▸ h.entries)
    rw [State.removeEntry_eq, hmq] at hfrees
    rw [hvlane, hpu] at h
    have hupu : u.pu = s.pu := by rw [hu, State.entryFreed_pu]; exact hpu
    refine ⟨_, hexec hof, h.biu.trans ?_, h.cku.trans ?_, h.rc.trans ?_, h.dst.trans ?_, ?_, h.lane.trans hleaves,
      fun h1 => absurd (hact.symm.trans h1) (by decide), fun _ => hfrees⟩
    · rw [hu, State.entryFreed_biu]; exact hbiu
    · rw [hu, State.entryFreed_cku]; exact hcku
    · rw [hu, State.entryFreed_rc]; exact hrc
    · rw [hu, State.entryFreed_dst]; exact hdst
    · rw [h.pu, hupu]
  · have h := State.releaseWinning_applies (l := l) hmode k before
    rw [hvlane, hpu, hmq, hcku] at h
    exact ⟨_, hexec hof, h.biu.trans hbiu, h.cku, h.rc.trans hrc, h.dst.trans hdst, by rw [h.pu, hpu],
      h.lane.trans hleaves, fun _ => ⟨h.entries, fun m hm => (h.others m hm).trans (hvlane m)⟩,
      fun h0 => by rw [hact] at h0; cases h0⟩
  · exact absurd (ReleaseAction.ofCode_eq_none.1 hof) (not_lt.2 hcode)

/-! The engine's own accepted frame (R69, R92, R131, R153, R167). -/

section
variable {s : State} {o : Outbound}

/-- A freed entry takes no silent event from a lane and gives it none. -/
theorem State.silent_entryFreed (l : Fin 16) : (s.entryFreed.lane l).silent = (s.lane l).silent := by
  have hresume : ((s.mapLanes Lane.resume).lane l).silent = (s.lane l).silent := by
    rw [State.lane_mapLanes]
    rcases (s.lane l).resume_eq with h | ⟨-, -, h⟩ <;> rw [h]
  rcases s.entryFreed_cases with ⟨-, h⟩ | ⟨w, e, -, -, -, -, h⟩
  · rw [h, hresume]
  · rw [h]
    by_cases hl : l = w
    · rw [hl, State.lane_atLane]
      rfl
    · rw [State.lane_atLane_other hl, hresume]

/-- A seek that waits still waits after a freed entry: the lane it waits for is not STALLED. -/
theorem State.SeekWaits.entryFreed (h : s.SeekWaits) : s.entryFreed.SeekWaits := by
  rcases h with h | ⟨m, hread, hfront⟩
  · exact .inl (by rwa [State.entryFreed_afu_checkpoint])
  · have hm : s.entryFreed.lane m = s.lane m :=
      State.lane_entryFreed_of_ne (by rcases hread with h | h <;> rw [h] <;> nofun)
    refine .inr ⟨m, hm.symm ▸ hread, hfront.imp (fun h k => (State.silent_entryFreed k).trans (h k)) fun h => ?_⟩
    rwa [hm, State.entryFreed_rc]

theorem State.SeekWaits.settleOffer (h : s.SeekWaits) (o : Outbound) : (s.settleOffer o).SeekWaits := by
  unfold State.settleOffer
  split
  · split
    · exact h
    · split
      · exact State.SeekWaits.entryFreed h
      · exact h
  all_goals exact h

/-- An EVENT's entry leaves the queue. -/
theorem State.settleOffer_event {b : EventBody} {k : EntryKey} (hb : o.frame.body = .event b) (he : o.entry = some k)
    (hk : ∃ e ∈ s.mq.entries, e.key = k) : s.settleOffer o = (s.removeEntry k).entryFreed := by
  simp only [State.settleOffer, hb, he]
  exact if_pos ((s.hasEntry_iff k).2 hk)

theorem State.biu_settleOffer : (s.settleOffer o).biu = s.biu := by
  unfold State.settleOffer
  split
  · split
    · rfl
    · split
      · rw [State.entryFreed_biu]
        rfl
      · rfl
  all_goals rfl

/-- Whatever its frame, the engine's offer is settled in its place: the bus unit takes the frame, and neither the
Pace Unit, the clock settings nor the straps change (R92, R93, R97). -/
theorem State.ownAccepted_kept (hm : s.rc.mode.takesFrames = true) (hq : s.biu.inbound.length < 16) :
    s.ownAccepted o = { s.ownSettled o with biu := { s.biu with
      state := .idle, outbound := none, failureCount := 0, inbound := s.biu.inbound ++ [o.frame] } } := by
  have hbiu : (s.ownSettled o).biu = { s.biu with state := .idle, outbound := none, failureCount := 0 } := by
    rw [State.ownSettled, State.biu_settleOffer]
    rfl
  have hroom : (s.ownSettled o).inboundFull = false := by
    rw [State.inboundFull, hbiu]
    exact decide_eq_false (not_le.2 hq)
  rw [State.ownAccepted, if_pos hm, State.pushInbound, hroom, if_neg nofun, hbiu]

theorem State.exec_ownAccepted (h : HeardFrame) (hr : s.inReset = false) (hs : s.biu.state = .sending)
    (ho : s.biu.outbound = some o) : exec (.frameAccepted h) s = .next (s.ownAccepted o).settle := by
  simp only [exec, execFrameAccepted, State.whenLive_live hr, hs, ho]

/-- A seek that waits still waits after the offer is settled. -/
theorem State.SeekWaits.ownSettled (h : s.SeekWaits) (o : Outbound) : (s.ownSettled o).SeekWaits :=
  State.SeekWaits.settleOffer (s := { s.busIdle with biu.failureCount := 0 }) h o

theorem State.Works.ccu {s t : State} (h : s.Works t) : t.ccu = s.ccu := by
  obtain ⟨_, _, _, _, _, _, rfl, -⟩ := h.frame
  rfl

/-- The command's end leaves the settled offer as it is, but for the cut record and the drive. -/
theorem State.settle_ownAccepted (hm : s.rc.mode.takesFrames = true) (hq : s.biu.inbound.length < 16)
    (hseek : s.rc.mode = .seeking → s.SeekWaits) {t : State} (ht : t = (s.ownAccepted o).settle) :
    t.biu = { s.biu with
        state := .idle, outbound := none, failureCount := 0, inbound := s.biu.inbound ++ [o.frame] } ∧
      t.pu = { s.pu with drive := t.pu.drive } ∧ t.ccu = s.ccu ∧ t.straps = s.straps ∧
      t.afu = (s.ownSettled o).afu ∧ t.mq.entries = (s.ownSettled o).mq.entries ∧ t.dst = (s.ownSettled o).dst ∧
      t.cku = (s.ownSettled o).cku ∧ t.rc = (s.ownSettled o).rc := by
  have hworks := s.works_ownAccepted o
  have hkept := State.ownAccepted_kept (o := o) hm hq
  have hwaits : (s.ownAccepted o).rc.mode = .seeking → (s.ownAccepted o).SeekWaits := by
    rw [hworks.rc, hkept]
    exact fun h => (hseek h).ownSettled o
  have hpu := hworks.pu
  have hccu := hworks.ccu
  have hstraps := hworks.straps
  rw [State.settle_of_still hwaits] at ht
  generalize s.ownAccepted o = u at *
  generalize s.ownSettled o = w at *
  subst ht hkept
  exact ⟨rfl, by rw [hpu], hccu, hstraps, rfl, rfl, rfl, rfl, rfl⟩

/-- A freed entry changes, beside the queue, the lanes alone. -/
theorem State.afu_entryFreed (s : State) : s.entryFreed.afu = { s.afu with lanes := s.entryFreed.afu.lanes } :=
  s.works_entryFreed.port

/-- An EVENT's entry leaves the queue, and acts on the lanes. -/
theorem State.ownSettled_event {b : EventBody} {k : EntryKey} (hb : o.frame.body = .event b) (he : o.entry = some k)
    (hk : ∃ e ∈ s.mq.entries, e.key = k) :
    s.ownSettled o = ({ s.busIdle with biu.failureCount := 0 }.removeEntry k).entryFreed :=
  State.settleOffer_event hb he hk

/-- The reported finding leaves its queue (R153). -/
theorem State.ownSettled_finding {b : FindingBody} (hb : o.frame.body = .finding b) :
    s.ownSettled o = { s with
      biu := (s.ownSettled o).biu, cku := { s.cku with findings := s.cku.findings.tail } } := by
  simp only [State.ownSettled, State.settleOffer, hb]
  rfl

/-- The reply is no longer owed (R131). -/
theorem State.ownSettled_state {b : StateBody} (hb : o.frame.body = .state b) :
    s.ownSettled o = { s with
      biu := (s.ownSettled o).biu
      dst := { s.dst with replies := s.dst.replies.filter fun n => n ≠ o.frame.key.setWidth 16 } } := by
  simp only [State.ownSettled, State.settleOffer, hb, bne, beq_eq_decide, decide_not]
  rfl

/-- The pending STATUS is gone (R167). -/
theorem State.ownSettled_status {b : StatusBody} (hb : o.frame.body = .status b) :
    s.ownSettled o = { s with biu := (s.ownSettled o).biu, rc := { s.rc with statusPending := false } } := by
  simp only [State.ownSettled, State.settleOffer, hb]
  rfl

/-- In WITHDRAWN and FAULTED no frame is queued. -/
theorem State.ownAccepted_status {b : StatusBody} (hb : o.frame.body = .status b) (hm : s.rc.mode.takesFrames = false) :
    s.ownAccepted o = { s with
      biu := { s.biu with state := .idle, outbound := none, failureCount := 0 }
      rc := { s.rc with statusPending := false } } := by
  rw [State.ownAccepted, hm, if_neg nofun]
  simp only [State.ownSettled, State.settleOffer, hb]
  rfl

end

/-- Settles O34: the end of the command leaves what the settling of the offer left, by the frame's body. -/
theorem ownFrameAcceptedSettlesItsOffer : Obligations.OwnFrameAcceptedSettlesItsOffer := by
  intro h s o hr hs ho hseek
  have hexec := State.exec_ownAccepted h hr hs ho
  refine ⟨fun hm hq => ?_, fun hm b hb => ?_⟩
  · obtain ⟨t, ht⟩ : ∃ t, t = (s.ownAccepted o).settle := ⟨_, rfl⟩
    obtain ⟨hbiu, hpu, hccu, hstraps, hafu, hentries, hdst, hcku, hrc⟩ := State.settle_ownAccepted hm hq hseek ht
    refine ⟨t, ht ▸ hexec, hbiu, hpu, hccu, hstraps, fun b k hb he hm hk => ?_, fun b hb => ?_, fun b hb => ?_,
      fun b hb => ?_⟩
    · obtain ⟨u, hu⟩ : ∃ u, u = { s.busIdle with biu.failureCount := 0 }.removeEntry k := ⟨_, rfl⟩
      have hown : s.ownSettled o = u.entryFreed := hu ▸ State.ownSettled_event hb he hk
      rw [hown] at hafu hentries hdst hcku hrc
      have hfrees : s.FreesEntry t u.mq.entries fun _ => False :=
        State.freesEntry (by rcases hm with h | h <;> rw [h] <;> nofun) (fun l => by rw [hu]; rfl) (by rw [hu]; rfl)
          (by rw [hu]; rfl) (fun _ => False.elim) (fun l _ => by rw [State.lane, hafu]; rfl) hentries
      have hport : t.afu = { u.afu with lanes := t.afu.lanes } := by
        rw [hafu]
        exact u.afu_entryFreed
      rw [State.entryFreed_dst] at hdst
      rw [State.entryFreed_cku] at hcku
      rw [State.entryFreed_rc] at hrc
      rw [State.removeEntry_eq] at hu
      subst hu
      exact ⟨hdst, hcku, hrc, hport, hfrees⟩
    · rw [State.ownSettled_finding hb] at hafu hentries hdst hcku hrc
      exact ⟨hcku, hentries, hafu, hdst, hrc⟩
    · rw [State.ownSettled_state hb] at hafu hentries hdst hcku hrc
      exact ⟨hdst, hentries, hafu, hcku, hrc⟩
    · rw [State.ownSettled_status hb] at hafu hentries hdst hcku hrc
      exact ⟨hrc, hentries, hafu, hdst, hcku⟩
  · have hquiet : s.rc.mode.takesFrames = false := by rcases hm with h | h <;> rw [h] <;> rfl
    have hmode : (s.ownAccepted o).rc.mode ≠ .seeking := by
      rw [(s.works_ownAccepted o).rc]
      rcases hm with h | h <;> rw [h] <;> nofun
    have hsettle := State.settle_of_ne hmode
    exact ⟨_, hexec, by rw [hsettle, State.ownAccepted_status hb hquiet],
      by rw [hsettle, State.ownAccepted_status hb hquiet]⟩

end Sys2Proof.Machine
end

section
/-! PROOFS. A CUT taken from the inbound queue (R24, R37, R74 to R77). -/

namespace Sys2Proof.Machine

/-! The test against the window end (R37). -/

/-- The test of R37 changes the lanes and the queue's entries alone. -/
theorem State.retestLanes_frame (s : State) :
    s.retestLanes = { s with afu.lanes := s.retestLanes.afu.lanes, mq.entries := s.retestLanes.mq.entries } := by
  refine State.retestLanes_induct
    (P := fun u => u = { s with afu.lanes := u.afu.lanes, mq.entries := u.mq.entries }) (fun u l h => ?_) rfl
  rcases u.retestLane_cases l with ⟨e, -, -, hl⟩ | ⟨e, -, -, hl⟩ | ⟨-, hl⟩ <;> rw [hl, h] <;> rfl

/-- A READY or STALLED lane whose last corrected time has reached the cut is PASSED by it (R37). -/
def Lane.cutAt (x : Lane) (c : Nat) : Lane :=
  if (x.state = .ready ∨ x.state = .stalled) ∧ c ≤ x.clock.lastCorrected then { x with state := .passed } else x

theorem Lane.passTest_eq_cutAt {x : Lane} {c : Nat} (h : x.state = .passed → c ≤ x.clock.lastCorrected) :
    x.passTest c = x.cutAt c := by
  unfold Lane.passTest Lane.cutAt
  cases hs : x.state with
  | passed => simp [h hs]
  | _ => simp

theorem Lane.readPos_cutAt (x : Lane) (c : Nat) : (x.cutAt c).readPos = x.readPos := by
  unfold Lane.cutAt
  split <;> rfl

/-! The adoption of a CUT (R76). -/

/-- The engine adopts a CUT of time `c`: in SEEKING, or in GATHER while PAUSED or RUNNING, and strictly inside the
window. -/
def State.AdoptsAt (s : State) (c : Nat) : Prop :=
  (s.rc.mode = .seeking ∨ (s.rc.mode = .paused ∨ s.rc.mode = .running) ∧ s.pu.phase = .gather) ∧
    s.pu.windowStart < c ∧ c < s.pu.windowEnd

section
variable {s : State} {c : Nat}

theorem State.adopts_iff : (s.adoptsCuts && decide (s.pu.windowStart < c) && decide (c < s.pu.windowEnd)) = true ↔
    s.AdoptsAt c := by
  simp only [State.adoptsCuts, State.AdoptsAt, Bool.and_eq_true, Bool.or_eq_true, beq_iff_eq, decide_eq_true_iff,
    Mode.replaying_iff, and_assoc]

theorem State.adoptCut_of_not (h : ¬s.AdoptsAt c) : s.adoptCut c = s := by
  rw [State.adoptCut, if_neg (mt State.adopts_iff.1 h)]

/-- An adopted CUT lowers the window end and passes the lanes that have reached it. -/
theorem State.adoptCut_of (h : s.AdoptsAt c)
    (hp : ∀ l, (s.lane l).state = .passed → s.pu.windowEnd ≤ (s.lane l).clock.lastCorrected) :
    s.adoptCut c = { s with pu.windowEnd := c, afu.lanes := (s.adoptCut c).afu.lanes } ∧
      ∀ l, (s.adoptCut c).lane l = (s.lane l).cutAt c := by
  have hpassed : ∀ l, (s.lane l).state = .passed → c ≤ (s.lane l).clock.lastCorrected :=
    fun l hl => h.2.2.le.trans (hp l hl)
  have hadopt : s.adoptCut c = { s with pu.windowEnd := c }.retestLanes := by
    rw [State.adoptCut, if_pos (State.adopts_iff.2 h)]
  obtain ⟨hlane, hmq⟩ := State.retestLanes_of_none (s := { s with pu.windowEnd := c }) fun l => by
    rw [Lane.resumesRecord, if_neg]
    rw [Bool.and_eq_true, beq_iff_eq, decide_eq_true_iff, not_and, not_lt]
    exact hpassed l
  rw [hadopt]
  refine ⟨?_, fun l => (hlane l).trans (Lane.passTest_eq_cutAt (hpassed l))⟩
  have hframe := State.retestLanes_frame { s with pu.windowEnd := c }
  rw [hmq] at hframe
  exact hframe

/-- Whatever it decides, an adoption changes the window end and the lanes alone. -/
theorem State.adoptCut_frame (hp : ∀ l, (s.lane l).state = .passed → s.pu.windowEnd ≤ (s.lane l).clock.lastCorrected) :
    s.adoptCut c = { s with
      pu.windowEnd := (s.adoptCut c).pu.windowEnd, afu.lanes := (s.adoptCut c).afu.lanes } := by
  by_cases h : s.AdoptsAt c
  · rw [(State.adoptCut_of h hp).1]
  · rw [State.adoptCut_of_not h]

theorem State.readPos_adoptCut
    (hp : ∀ l, (s.lane l).state = .passed → s.pu.windowEnd ≤ (s.lane l).clock.lastCorrected) (l : Fin 16) :
    ((s.adoptCut c).lane l).readPos = (s.lane l).readPos := by
  by_cases h : s.AdoptsAt c
  · rw [(State.adoptCut_of h hp).2, Lane.readPos_cutAt]
  · rw [State.adoptCut_of_not h]

/-- A seek that waits for a lane short of the window start still waits for it after the CUT. -/
theorem State.seekWaits_adoptCut
    (hp : ∀ l, (s.lane l).state = .passed → s.pu.windowEnd ≤ (s.lane l).clock.lastCorrected)
    (hw : s.afu.checkpoint ≠ none ∨
      s.rc.seekTime ≤ s.pu.windowStart ∧ ∃ m, ((s.lane m).state = .ready ∨ (s.lane m).state = .waiting) ∧
        (s.lane m).silent = none ∧ (s.lane m).clock.lastCorrected < s.rc.seekTime) :
    (s.adoptCut c).SeekWaits := by
  have hframe := State.adoptCut_frame (c := c) hp
  rcases hw with hw | ⟨hseek, m, hread, hsilent, hlast⟩
  · refine .inl ?_
    rw [hframe]
    exact hw
  · have hlane : (s.adoptCut c).lane m = s.lane m := by
      by_cases h : s.AdoptsAt c
      · rw [(State.adoptCut_of h hp).2, Lane.cutAt, if_neg]
        exact fun hc => absurd ((hlast.trans_le hseek).trans h.2.1) (not_lt.2 hc.2)
      · rw [State.adoptCut_of_not h]
    refine .inr ⟨m, hlane.symm ▸ hread, .inr ?_⟩
    rw [hlane]
    refine ⟨hsilent, ?_⟩
    rw [hframe]
    exact hlast

end

/-! The cut record at the end of a command (R74, R75). -/

/-- No cut is due with an entry free, in SEEKING, and while a lane is read. -/
theorem State.settleCut_of_absent_of_not_due {s : State} (h : s.mq.cut = .absent)
    (hd : s.mq.entries.length < 256 ∨ s.rc.mode = .seeking ∨
      ∃ l, (s.lane l).state = .ready ∨ (s.lane l).state = .waiting) : s.settleCut.mq.cut = .absent := by
  rcases hd with hd | hd | hd
  · rw [State.settleCut_of_absent h hd, h]
  · have hdue : s.cutDue = false := by simp [State.cutDue, hd, Mode.replaying]
    unfold State.settleCut
    rw [h, hdue]
    exact h
  · exact State.settleCut_of_reading h (s.anyReading_iff.2 hd)

/-- A PENDING record is withdrawn once every lane has finished, unless the engine's own CUT waits (R75). -/
theorem State.settleCut_pending_eq {s : State} {n : Nat} {forced : Option (Fin 16)}
    (h : s.mq.cut = .pending n forced) : s.settleCut.mq.cut =
      if (∀ l, (s.lane l).state = .disabled ∨ (s.lane l).state = .passed ∨ (s.lane l).state = .ended ∨
          (s.lane l).state = .lost) ∧ (∀ g ∈ s.biu.inbound, g.body = .cut → g.station ≠ s.straps.station) then .absent
      else s.mq.cut := by
  rw [State.settleCut_of_pending h]
  refine if_congr ?_ rfl rfl
  rw [Bool.and_eq_true, State.lanesFinished_iff, State.not_ownCutWaiting_iff]

/-! The CUT by its station and the record (R75, R77). -/

/-- The engine's own CUT, its record PENDING, leaves the record TAKEN and ends the visits of the gather. -/
theorem State.takeOwnCut_eq (s : State) (c : Nat) (forced : Option (Fin 16)) :
    ∃ k, s.takeOwnCut c forced = { s.adoptCut c with
        mq.cut := .taken
        afu.visitEnding := (s.adoptCut c).afu.visitEnding || (s.adoptCut c).readsForLane
        cku := k } ∧
      (forced = none → k = (s.adoptCut c).cku) ∧
      ∀ l, forced = some l → (s.adoptCut c).cku.Raises k ((s.adoptCut c).forcedCutFinding l) := by
  cases forced with
  | none => exact ⟨_, rfl, fun _ => rfl, nofun⟩
  | some m =>
    have hk := State.raises_raiseFinding (s.adoptOwnCut c) ((s.adoptOwnCut c).forcedCutFinding m)
    refine ⟨((s.adoptOwnCut c).raiseFinding ((s.adoptOwnCut c).forcedCutFinding m)).cku, ?_, nofun, fun l hl => ?_⟩
    · rw [State.takeOwnCut, State.raiseFinding_eq]
      rfl
    · cases hl
      exact hk

/-- What the taking of a CUT adds to its adoption: the record, the end of a visit and a finding. -/
theorem State.takeCut_eq (s : State) (f : Frame) :
    ∃ cut ending k, s.takeCut f = { s.adoptCut f.key.toNat with
        mq.cut := cut, afu.visitEnding := ending, cku := k } ∧
      ((∀ n forced, s.mq.cut ≠ .pending n forced) ∨ f.station ≠ s.straps.station →
        cut = (s.adoptCut f.key.toNat).mq.cut ∧ ending = (s.adoptCut f.key.toNat).afu.visitEnding ∧
          k = (s.adoptCut f.key.toNat).cku) ∧
      ∀ n forced, s.mq.cut = .pending n forced → f.station = s.straps.station →
        cut = .taken ∧
        ending = ((s.adoptCut f.key.toNat).afu.visitEnding || (s.adoptCut f.key.toNat).readsForLane) ∧
        (forced = none → k = (s.adoptCut f.key.toNat).cku) ∧
        ∀ l, forced = some l → (s.adoptCut f.key.toNat).cku.Raises k
          ((s.adoptCut f.key.toNat).forcedCutFinding l) := by
  by_cases hown : ∃ n forced, s.mq.cut = .pending n forced ∧ f.station = s.straps.station
  · obtain ⟨n, forced, hcut, hst⟩ := hown
    obtain ⟨k, hk, hnone, hsome⟩ := s.takeOwnCut_eq f.key.toNat forced
    refine ⟨.taken, (s.adoptCut f.key.toNat).afu.visitEnding || (s.adoptCut f.key.toNat).readsForLane, k, ?_, ?_,
      fun m g hm _ => ?_⟩
    · rw [State.takeCut, hcut]
      dsimp only
      rw [if_pos (beq_iff_eq.2 hst), hk]
    · rintro (h | h)
      · exact absurd hcut (h n forced)
      · exact absurd hst h
    · rw [hcut] at hm
      cases hm
      exact ⟨rfl, rfl, hnone, hsome⟩
  · refine ⟨(s.adoptCut f.key.toNat).mq.cut, (s.adoptCut f.key.toNat).afu.visitEnding, (s.adoptCut f.key.toNat).cku,
      ?_, fun _ => ⟨rfl, rfl, rfl⟩, fun n g hn hs => absurd ⟨n, g, hn, hs⟩ hown⟩
    unfold State.takeCut
    split
    next n forced hcut => exact if_neg fun h => hown ⟨n, forced, hcut, beq_iff_eq.1 h⟩
    all_goals rfl

theorem State.Takes.exec_cutTaken {s : State} {f : Frame} {rest : List Frame} (ht : s.Takes f rest)
    (hb : f.body = .cut) :
    exec .cutTaken s = .next (State.takeCut { s with biu.inbound := rest } f).settle := by
  have hfront : s.frontFrame = some f := State.frontFrame_eq_some.2 ⟨ht.live, ht.mode, by rw [ht.front]; rfl⟩
  simp only [exec, execCutTaken, State.whenLive_live ht.live, hfront, hb, ht.popInbound_eq]

/-- The end of the command leaves what the CUT's taking left, but for the record and the drive. -/
theorem State.settle_afterCut {w t : State} {cut : CutRecord} {ending : Bool} {k : Cku}
    (hwaits : w.rc.mode = .seeking → w.SeekWaits)
    (ht : t = State.settle { w with mq.cut := cut, afu.visitEnding := ending, cku := k }) :
    t.biu = w.biu ∧ t.mq.entries = w.mq.entries ∧ t.rc = w.rc ∧ t.dst = w.dst ∧
      t.afu = { w.afu with visitEnding := ending } ∧ t.pu = { w.pu with drive := t.pu.drive } ∧ t.cku = k ∧
      t.mq.cut = (State.settleCut { w with mq.cut := cut, afu.visitEnding := ending, cku := k }).mq.cut := by
  obtain ⟨u, hu⟩ : ∃ u : State, u = { w with mq.cut := cut, afu.visitEnding := ending, cku := k } := ⟨_, rfl⟩
  have hu' : u.rc.mode = .seeking → u.SeekWaits := by
    rw [hu]
    exact hwaits
  rw [← hu] at ht ⊢
  rw [State.settle_of_still hu'] at ht
  generalize u.settleCut.mq.cut = c, u.settle.pu.drive = d at *
  subst ht hu
  exact ⟨rfl, rfl, rfl, rfl, rfl, rfl, rfl, rfl⟩

/-- Settles O39: the adoption, what the record and the station add to it, and the cut record at the command's end. -/
theorem cutsAreAdoptedInsideTheWindow : Obligations.CutsAreAdoptedInsideTheWindow := by
  intro s f rest c ht hb hc hp hseek
  obtain ⟨v, hv⟩ : ∃ v : State, v = { s with biu.inbound := rest } := ⟨_, rfl⟩
  have hexec := ht.exec_cutTaken hb
  rw [← hv] at hexec
  have hvp : ∀ l, (v.lane l).state = .passed → v.pu.windowEnd ≤ (v.lane l).clock.lastCorrected := by
    rw [hv]; exact hp
  have hvlane : ∀ l, v.lane l = s.lane l := fun l => by rw [hv]; rfl
  have hframe := State.adoptCut_frame (c := c) hvp
  have hadopt := State.adoptCut_of (s := v) (c := c)
  have hignore := State.adoptCut_of_not (s := v) (c := c)
  have hwaits := State.seekWaits_adoptCut (c := c) hvp
  have hpos := State.readPos_adoptCut (c := c) hvp
  obtain ⟨cut, ending, k, htake, hplain, hown⟩ := v.takeCut_eq f
  rw [← hc] at htake hplain hown
  generalize v.adoptCut c = w at *
  rw [htake] at hexec
  have hbiu : w.biu = { s.biu with inbound := rest } := by rw [hframe, hv]
  have hstraps : w.straps = s.straps := by rw [hframe, hv]
  have hmq : w.mq = s.mq := by rw [hframe, hv]
  have hrc : w.rc = s.rc := by rw [hframe, hv]
  have hdst : w.dst = s.dst := by rw [hframe, hv]
  have hcku : w.cku = s.cku := by rw [hframe, hv]
  have hafu : w.afu = { s.afu with lanes := w.afu.lanes } := by rw [hframe, hv]
  have hstart : w.pu.windowStart = s.pu.windowStart := by rw [hframe, hv]
  have hreads : w.readsForLane = s.readsForLane := by rw [hframe, hv]; rfl
  have hvmq : v.mq = s.mq := by rw [hv]
  have hvstraps : v.straps = s.straps := by rw [hv]
  have hending : w.afu.visitEnding = s.afu.visitEnding := by rw [hafu]
  rw [hvmq, hvstraps, hcku, hmq, hending] at hplain
  rw [hvmq, hvstraps, hcku, hending, hreads] at hown
  obtain ⟨t, hset⟩ : ∃ t, t = State.settle { w with mq.cut := cut, afu.visitEnding := ending, cku := k } := ⟨_, rfl⟩
  rw [← hset] at hexec
  obtain ⟨tbiu, tentries, trc, tdst, tafu, tpu, tcku, tcut⟩ := State.settle_afterCut (fun hm => hwaits (by
    rw [hv]
    exact hseek (hrc ▸ hm))) hset
  have tlane : ∀ l, t.lane l = w.lane l := fun l => by rw [State.lane, tafu]; rfl
  refine ⟨t, hexec, tbiu.trans hbiu, by rw [tentries, hmq], trc.trans hrc, tdst.trans hdst, ?_, fun h => ?_,
    fun h => ?_, fun h => ?_, fun n forced hpend hst => ?_, fun n forced hpend hst => ?_, fun htaken => ?_,
    fun habsent => ?_⟩
  · rw [tafu, hafu]
  · rw [tafu]
    exact (hplain h).2.1
  · obtain ⟨hw, hlanes⟩ := hadopt (by rw [hv]; exact h) hvp
    have hpu : w.pu = { s.pu with windowEnd := c } := by rw [hw, hv]
    exact ⟨by rw [tpu, hpu], fun l => (tlane l).trans ((hlanes l).trans (by rw [hvlane]; rfl))⟩
  · have hw := hignore (by rw [hv]; exact h)
    exact ⟨by rw [tpu, hw, hv], by rw [tafu, hw, hv]⟩
  · obtain ⟨hcut, hend, hnone, hsome⟩ := hown n forced hpend hst
    refine ⟨tcut.trans ((State.settleCut_taken _).2 hcut), ?_, fun h => tcku.trans (hnone h), fun l h => ?_⟩
    · rw [tafu, ← State.readsForLane_iff, ← Bool.or_eq_true, ← hend]
    · have hraises := hsome l h
      rw [State.forcedCutFinding, hpos, hvlane, hstart] at hraises
      rw [tcku]
      exact hraises
  · obtain ⟨hcut, -, hk⟩ := hplain (.inr hst)
    refine ⟨tcku.trans hk, tcut.trans ((State.settleCut_pending_eq (hcut.trans hpend)).trans ?_)⟩
    refine if_congr (and_congr (forall_congr' fun l => by rw [tlane]; exact Iff.rfl) ?_) rfl hcut
    rw [← hstraps]
    exact iff_of_eq (congrArg (fun b : Biu => ∀ g ∈ b.inbound, g.body = .cut → g.station ≠ w.straps.station) hbiu)
  · obtain ⟨hcut, -, hk⟩ := hplain (.inl fun n forced h => by rw [htaken] at h; cases h)
    exact ⟨tcut.trans ((State.settleCut_taken _).2 (hcut.trans htaken)), tcku.trans hk⟩
  · obtain ⟨hcut, -, hk⟩ := hplain (.inl fun n forced h => by rw [habsent] at h; cases h)
    refine ⟨tcku.trans hk, fun hd => tcut.trans (State.settleCut_of_absent_of_not_due (hcut.trans habsent) ?_)⟩
    simp only [tlane] at hd
    rw [← hmq, ← hrc] at hd
    exact hd

end Sys2Proof.Machine
end

section
/-! PROOFS. The close of an epoch (R35 to R37, R102, R105, R111, R115). -/

namespace Sys2Proof.Machine

/-! The entries of the lanes that leave PASSED (R37). -/

section
variable {s u : State} {l : Fin 16} {ls : List (Fin 16)} {x : Entry} {e : HeldEvent}

/-- A lane that leaves PASSED with a released record makes its entry (R37). -/
theorem State.resumed_eq (s : State) (start stop : Nat) (l : Fin 16) : s.resumed start stop l =
    ((s.lane l).resumesRecord stop).map fun e =>
      (s.lane l).entryFor l e (max e.unheld (max (s.lane l).clock.lastCorrected start)) := by
  unfold State.resumed
  split
  next e hstate hheld =>
    by_cases hlast : (s.lane l).clock.lastCorrected < stop
    · rw [if_pos hlast, Lane.resumesRecord, hstate, Lane.releasedRecord_eq_some.2 hheld, decide_eq_true hlast]
      rfl
    · rw [if_neg hlast, Lane.resumesRecord, decide_eq_false hlast, Bool.and_false]
      rfl
  next hno =>
    have hnone : (s.lane l).resumesRecord stop = none := Option.eq_none_iff_forall_ne_some.2 fun e he => by
      obtain ⟨hstate, hrecord⟩ := Lane.passed_of_resumesRecord he
      exact hno e hstate (Lane.releasedRecord_eq_some.1 hrecord)
    rw [hnone]
    rfl

/-- The entries of the lanes of a list, in its order, as many as are free. -/
def State.resumedOf (s : State) (ls : List (Fin 16)) : List Entry :=
  (ls.filterMap (s.resumed s.pu.windowStart s.pu.windowEnd)).take (256 - s.mq.entries.length)

/-- From `s` to `u` the lanes of a list have been tested against the window end in turn (R37). -/
structure State.Retests (s u : State) (ls : List (Fin 16)) : Prop where
  entries : u.mq.entries = (s.resumedOf ls).foldl (fun q x => insertEntry x q) s.mq.entries
  resumes : ∀ l ∈ ls, ∀ e, (s.lane l).resumesRecord s.pu.windowEnd = some e → ∀ x,
    s.resumed s.pu.windowStart s.pu.windowEnd l = some x →
    u.lane l = if x ∈ s.resumedOf ls then (s.lane l).afterInsert e x.time s.pu.windowEnd
      else { s.lane l with state := .stalled }
  tests : ∀ l ∈ ls, s.resumed s.pu.windowStart s.pu.windowEnd l = none →
    u.lane l = (s.lane l).passTest s.pu.windowEnd
  others : ∀ l, l ∉ ls → u.lane l = s.lane l

theorem State.lane_of_resumed {start stop : Nat} (h : s.resumed start stop l = some x) : x.lane = l := by
  rw [State.resumed_eq] at h
  obtain ⟨e, -, rfl⟩ := Option.map_eq_some_iff.1 h
  rfl

/-- An entry of a list's lanes is the entry of the lane that it names. -/
theorem State.lane_mem_of_resumedOf (h : x ∈ s.resumedOf ls) : x.lane ∈ ls := by
  obtain ⟨l, hl, hx⟩ := List.mem_filterMap.1 (List.mem_of_mem_take h)
  rwa [State.lane_of_resumed hx]

/-- The test of one lane, and then of the lanes of a list, is the test of all. -/
theorem State.Retests.cons {v : State} {first : List Entry} (hl : l ∉ ls) (hpu : v.pu = s.pu)
    (hothers : ∀ m, m ≠ l → v.lane m = s.lane m) (hof : s.resumedOf (l :: ls) = first ++ v.resumedOf ls)
    (hentries : v.mq.entries = first.foldl (fun q x => insertEntry x q) s.mq.entries)
    (hfirst : ∀ x ∈ first, x.lane = l)
    (hresumes : ∀ e, (s.lane l).resumesRecord s.pu.windowEnd = some e → ∀ x,
      s.resumed s.pu.windowStart s.pu.windowEnd l = some x →
      v.lane l = if x ∈ first then (s.lane l).afterInsert e x.time s.pu.windowEnd
        else { s.lane l with state := .stalled })
    (htests : s.resumed s.pu.windowStart s.pu.windowEnd l = none →
      v.lane l = (s.lane l).passTest s.pu.windowEnd)
    (h : v.Retests u ls) : s.Retests u (l :: ls) := by
  have hne : ∀ m ∈ ls, m ≠ l := fun m hm hml => hl (hml ▸ hm)
  have hsame : ∀ m ∈ ls, v.resumed v.pu.windowStart v.pu.windowEnd m = s.resumed s.pu.windowStart s.pu.windowEnd m :=
    fun m hm => by rw [State.resumed_eq, State.resumed_eq, hothers m (hne m hm), hpu]
  refine ⟨?_, fun m hm e he x hx => ?_, fun m hm hx => ?_, fun m hm => ?_⟩
  · rw [h.entries, hentries, hof, List.foldl_append]
  · have hlane := State.lane_of_resumed hx
    have hmem : x ∈ s.resumedOf (l :: ls) ↔ x ∈ first ∨ x ∈ v.resumedOf ls := by rw [hof, List.mem_append]
    rcases List.mem_cons.1 hm with rfl | hm
    · have hnot : x ∉ v.resumedOf ls := fun hx' => hl (hlane ▸ State.lane_mem_of_resumedOf hx')
      rw [h.others m hl, hresumes e he x hx]
      exact if_congr ((or_iff_left hnot).symm.trans hmem.symm) rfl rfl
    · have hnot : x ∉ first := fun hx' => hne m hm (hlane.symm.trans (hfirst x hx'))
      have htail := h.resumes m hm e (by rwa [hothers m (hne m hm), hpu]) x (by rwa [hsame m hm])
      rw [hothers m (hne m hm), hpu] at htail
      rw [htail]
      exact if_congr ((or_iff_right hnot).symm.trans hmem.symm) rfl rfl
  · rcases List.mem_cons.1 hm with rfl | hm
    · rw [h.others m hl, htests hx]
    · rw [h.tests m hm (by rwa [hsame m hm]), hothers m (hne m hm), hpu]
  · obtain ⟨hml, hm⟩ := not_or.1 (mt List.mem_cons.2 hm)
    rw [h.others m hm, hothers m hml]

/-- With no entry free no record goes in. -/
theorem State.resumedOf_of_full (h : 256 ≤ s.mq.entries.length) : s.resumedOf ls = [] := by
  rw [State.resumedOf, Nat.sub_eq_zero_of_le h, List.take_zero]

/-- The record of the first lane goes in when an entry is free. -/
theorem State.resumedOf_cons (h : s.mq.entries.length < 256)
    (hx : s.resumed s.pu.windowStart s.pu.windowEnd l = some x) : s.resumedOf (l :: ls) =
      x :: (ls.filterMap (s.resumed s.pu.windowStart s.pu.windowEnd)).take (256 - (s.mq.entries.length + 1)) := by
  rw [State.resumedOf, List.filterMap_cons_some hx,
    show 256 - s.mq.entries.length = (256 - (s.mq.entries.length + 1)) + 1 by omega, List.take_succ_cons]

/-- The test of the lanes of a list without repeats, in turn. -/
theorem State.retests_foldl (hn : ls.Nodup) (hm : s.rc.mode ≠ .seeking) :
    s.Retests (ls.foldl State.retestLane s) ls := by
  induction ls generalizing s with
  | nil =>
    refine ⟨?_, nofun, nofun, fun _ _ => rfl⟩
    simp [State.resumedOf]
  | cons l ls ih =>
    obtain ⟨hl, hn⟩ := List.nodup_cons.1 hn
    have hpu : (s.retestLane l).pu = s.pu := State.retestLane_pu ..
    have hothers : ∀ m, m ≠ l → (s.retestLane l).lane m = s.lane m := fun m h => s.lane_retestLane_other h
    have htail : ls.filterMap ((s.retestLane l).resumed (s.retestLane l).pu.windowStart (s.retestLane l).pu.windowEnd) =
        ls.filterMap (s.resumed s.pu.windowStart s.pu.windowEnd) :=
      List.filterMap_congr fun m hm => by
        rw [State.resumed_eq, State.resumed_eq, hothers m fun h => hl (h ▸ hm), hpu]
    have hrest := ih hn (s := s.retestLane l) (by rwa [State.retestLane_rc])
    rcases s.retestLane_cases l with ⟨e, he, hfull, hv⟩ | ⟨e, he, hroom, hv⟩ | ⟨he, hv⟩
    · have hlen : 256 ≤ s.mq.entries.length := of_decide_eq_true hfull
      have hentries : (s.retestLane l).mq.entries = s.mq.entries := by rw [hv]; rfl
      refine State.Retests.cons (first := []) hl hpu hothers ?_ hentries nofun (fun e' he' x _ => ?_)
        (fun hx => ?_) hrest
      · rw [State.resumedOf_of_full hlen, State.resumedOf_of_full (hentries.symm ▸ hlen)]
        rfl
      · rw [if_neg (List.not_mem_nil), hv, State.lane_setLane_same]
      · rw [State.resumed_eq, he] at hx
        cases hx
    · have hlen : s.mq.entries.length < 256 := not_le.1 (of_decide_eq_false hroom)
      have htime : (s.lane l).clock.holdTime s.holdFloor e =
          max e.unheld (max (s.lane l).clock.lastCorrected s.pu.windowStart) := by
        rw [State.holdFloor_eq, if_neg hm]
        rfl
      obtain ⟨x, hx⟩ : ∃ x, x = (s.lane l).entryFor l e ((s.lane l).clock.holdTime s.holdFloor e) := ⟨_, rfl⟩
      have hresumed : s.resumed s.pu.windowStart s.pu.windowEnd l = some x := by
        rw [State.resumed_eq, he, hx, htime]
        rfl
      have hentries : (s.retestLane l).mq.entries = insertEntry x s.mq.entries := by
        rw [hv, State.insertEvent_mq_entries, hx]
      refine State.Retests.cons (first := [x]) hl hpu hothers ?_ hentries ?_ (fun e' he' y hy => ?_)
        (fun hx => ?_) hrest
      · rw [State.resumedOf_cons hlen hresumed, State.resumedOf, htail, hentries, length_insertEntry]
        rfl
      · exact fun y hy => List.mem_singleton.1 hy ▸ State.lane_of_resumed hresumed
      · obtain rfl : e' = e := Option.some.inj (he'.symm.trans he)
        obtain rfl : y = x := Option.some.inj (hy.symm.trans hresumed)
        rw [if_pos (List.mem_singleton_self _), hv, State.lane_insertEvent, if_pos rfl, hx]
        rfl
      · rw [hresumed] at hx
        cases hx
    · have hnone : s.resumed s.pu.windowStart s.pu.windowEnd l = none := by
        rw [State.resumed_eq, he]
        rfl
      have hentries : (s.retestLane l).mq.entries = s.mq.entries := by rw [hv]; rfl
      refine State.Retests.cons (first := []) hl hpu hothers ?_ hentries nofun (fun e' he' => ?_) (fun _ => ?_) hrest
      · rw [State.resumedOf, State.resumedOf, List.filterMap_cons_none hnone, htail, hentries]
        rfl
      · rw [he] at he'
        cases he'
      · rw [hv, State.lane_setLane_same]

end

/-! The epoch is closed (R111). -/

/-- The lane's state after a test against the window end (R37). -/
theorem Lane.passTest_state (x : Lane) (w : Nat) : x.passTest w = { x with
    state := match x.state with
      | .ready => if w ≤ x.clock.lastCorrected then .passed else .ready
      | .stalled => if w ≤ x.clock.lastCorrected then .passed else .stalled
      | .passed => if w ≤ x.clock.lastCorrected then .passed else .ready
      | other => other } := by
  unfold Lane.passTest
  obtain ⟨state, _⟩ := x
  cases state with
  | ready => dsimp only; split <;> rfl
  | stalled => dsimp only; split <;> rfl
  | passed => dsimp only; split <;> rfl
  | _ => rfl

theorem Budget.afterClose_eq (b : Budget) (m : Mode) : b.afterClose m =
    match b with
    | .unlimited => .unlimited
    | .epochs n => if m = .running then .epochs (n - 1) else .epochs n := by
  cases b <;> simp only [Budget.afterClose, beq_iff_eq]

theorem State.modeAfterClose_eq (s : State) : s.modeAfterClose =
    if s.pu.pausePending = true ∨ (s.rc.mode = .running ∧ s.pu.budget.afterClose s.rc.mode = .epochs 0) then .paused
    else s.rc.mode := by
  simp only [State.modeAfterClose, Bool.or_eq_true, Bool.and_eq_true, beq_iff_eq]

/-- An engine that replays goes on replaying after a close. -/
theorem State.modeAfterClose_replays {s : State} (h : s.rc.mode = .paused ∨ s.rc.mode = .running) :
    s.modeAfterClose = .paused ∨ s.modeAfterClose = .running := by
  rw [State.modeAfterClose_eq]
  split
  · exact .inl rfl
  · exact h

/-- A close pulse in GATHER holds the line at the end of a command (R105). -/
theorem State.settle_drive_of_closePulse {s : State} (hm : s.rc.mode = .paused ∨ s.rc.mode = .running)
    (hp : s.pu.phase = .gather) (hc : s.pu.closePulse = true) : s.settle.pu.drive = .dominant := by
  have hne : s.rc.mode ≠ .seeking := by rcases hm with h | h <;> rw [h] <;> nofun
  rw [State.settle, State.settleSeek_of_ne hne]
  refine (State.driveFor_iff _).2 ?_
  rw [State.HoldsLine, State.settleCut_rc, State.settleCut_pu]
  exact hm.elim (fun h => .inr (.inl ⟨h, hp⟩)) fun h => .inr (.inr (.inl ⟨h, hp, .inl hc⟩))

theorem State.Takes.exec_nextTaken {s : State} {f : Frame} {rest : List Frame} (ht : s.Takes f rest)
    (hb : f.body = .next) (hn : f.key.toNat ≠ 1099511627775) (hm : s.rc.mode = .paused ∨ s.rc.mode = .running)
    (hp : s.pu.phase ≠ .gather) :
    exec .nextTaken s = .next (State.closeEpoch { s with biu.inbound := rest } f.key.toNat).settle := by
  have hfront : s.frontFrame = some f := State.frontFrame_eq_some.2 ⟨ht.live, ht.mode, by rw [ht.front]; rfl⟩
  have hemit : s.inEmit = true := State.inEmit_iff.2 ⟨Mode.replaying_iff.2 hm, hp⟩
  simp only [exec, execNextTaken, State.whenLive_live ht.live, hfront, hb, if_pos hemit, ht.popInbound_eq]
  exact congrArg Host.Outcome.next (if_neg hn)

/-- What the end of the command leaves of an engine whose epoch has been closed and whose lanes have been tested. -/
theorem State.settle_retested {w t : State} (hm : w.rc.mode = .paused ∨ w.rc.mode = .running)
    (hp : w.pu.phase = .gather) (hc : w.pu.closePulse = true) (hcut : w.mq.cut = .absent)
    (ht : t = w.retestLanes.settle) :
    t.pu = { w.pu with drive := .dominant } ∧ t.rc = w.rc ∧ t.biu = w.biu ∧ t.dst = w.dst ∧ t.cku = w.cku ∧
      t.afu = { w.afu with lanes := t.afu.lanes } ∧
      (t.mq.entries.length < 256 ∨ (∃ l, (t.lane l).state = .ready ∨ (t.lane l).state = .waiting) →
        t.mq.cut = .absent) ∧
      w.Retests t (List.finRange 16) := by
  have hne : w.rc.mode ≠ .seeking := by rcases hm with h | h <;> rw [h] <;> nofun
  have hret := State.retests_foldl (List.nodup_finRange 16) hne
  have hframe := State.retestLanes_frame w
  change w.Retests w.retestLanes _ at hret
  generalize w.retestLanes = u at *
  have hrc : u.rc = w.rc := by rw [hframe]
  have hpu : u.pu = w.pu := by rw [hframe]
  have hafu : u.afu = { w.afu with lanes := u.afu.lanes } := by rw [hframe]
  have hucut : u.mq.cut = .absent := by rw [hframe]; exact hcut
  have hdrive : u.settle.pu.drive = .dominant :=
    State.settle_drive_of_closePulse (hrc.symm ▸ hm) (hpu.symm ▸ hp) (hpu.symm ▸ hc)
  have hsettle := State.settle_of_ne (s := u) (by rwa [hrc])
  rw [← ht] at hsettle hdrive
  rw [hdrive] at hsettle
  have tlane : ∀ l, t.lane l = u.lane l := fun l => by rw [hsettle]; rfl
  have tentries : t.mq.entries = u.mq.entries := by rw [hsettle]
  have tcut : t.mq.cut = u.settleCut.mq.cut := by rw [hsettle]
  refine ⟨by rw [hsettle, hpu], by rw [hsettle, hrc], by rw [hsettle, hframe], by rw [hsettle, hframe],
    by rw [hsettle, hframe], by rw [hsettle, hafu], fun hd => ?_, tentries.trans hret.entries,
    fun l hl e he x hx => (tlane l).trans (hret.resumes l hl e he x hx),
    fun l hl hx => (tlane l).trans (hret.tests l hl hx), fun l hl => (tlane l).trans (hret.others l hl)⟩
  rw [tcut]
  refine State.settleCut_of_absent_of_not_due hucut (hd.imp (fun h => tentries ▸ h) fun ⟨l, hl⟩ => .inr ⟨l, ?_⟩)
  rwa [← tlane]

/-- Settles O41: the close sets the window, the lanes are tested in turn, and the close pulse holds the line. -/
theorem nextClosesTheEpoch : Obligations.NextClosesTheEpoch := by
  intro s f rest start stop ht hb hn hm hp hstart hstop
  obtain ⟨w, hw⟩ : ∃ w, w = State.epochClosed { s with biu.inbound := rest } f.key.toNat := ⟨_, rfl⟩
  have hexec := ht.exec_nextTaken hb hn hm hp
  rw [State.closeEpoch_eq, ← hw] at hexec
  obtain ⟨t, hset⟩ : ∃ t, t = w.retestLanes.settle := ⟨_, rfl⟩
  rw [← hset] at hexec
  have hmode : w.rc.mode = s.modeAfterClose := by rw [hw]; rfl
  obtain ⟨tpu, trc, tbiu, tdst, tcku, tafu, tcut, tret⟩ := State.settle_retested
    (by rw [hmode]; exact State.modeAfterClose_replays hm) (by rw [hw]; rfl) (by rw [hw]; rfl) (by rw [hw]; rfl) hset
  have hwlane : ∀ l, w.lane l = s.lane l := fun l => by rw [hw]; rfl
  have hwstart : w.pu.windowStart = start := by rw [hw, hstart]; rfl
  have hwstop : w.pu.windowEnd = stop := by rw [hw, hstop, hstart]; rfl
  have hresumed : ∀ l, w.resumed w.pu.windowStart w.pu.windowEnd l = s.resumed start stop l := fun l => by
    rw [State.resumed_eq, State.resumed_eq, hwlane, hwstart, hwstop]
  have hof : w.resumedOf (List.finRange 16) = s.resumedEntries start stop := by
    rw [State.resumedOf, funext hresumed, hw]
    rfl
  have hbudget : t.pu.budget = s.pu.budget.afterClose s.rc.mode := by rw [tpu, hw]; rfl
  refine ⟨t, hexec, ?_, ?_, ?_, ?_, ?_, ?_, ?_, tcut, fun l e x hheld hx => ?_, fun l hx => ?_⟩
  · have hpu : w.pu = { s.pu with
        windowStart := start, windowEnd := stop, budget := s.pu.budget.afterClose s.rc.mode, pausePending := false
        phase := .gather, closePulse := true, paceTimer := 0 } := by
      rw [hw, hstop, hstart]
      rfl
    rw [Budget.afterClose_eq] at hpu
    exact tpu.trans (congrArg (fun p : Pu => { p with drive := .dominant }) hpu)
  · rw [hbudget, ← State.modeAfterClose_eq, trc, hw]
    rfl
  · rw [tbiu, hw]; rfl
  · rw [tdst, hw]; rfl
  · rw [tcku, hw]; rfl
  · rw [tafu, hw]; rfl
  · rw [tret.entries, hof, hw]; rfl
  · have hrecord : (s.lane l).resumesRecord stop = some e := by
      rw [State.resumed_eq] at hx
      obtain ⟨g, hg, -⟩ := Option.map_eq_some_iff.1 hx
      obtain ⟨-, hr⟩ := Lane.passed_of_resumesRecord hg
      rw [Lane.releasedRecord_eq_some.2 hheld] at hr
      rw [hg, hr]
    have hlane := tret.resumes l (List.mem_finRange l) e (by rwa [hwlane, hwstop]) x ((hresumed l).trans hx)
    rw [hwlane, hwstop] at hlane
    exact hlane.trans (if_congr (by rw [hof]) rfl rfl)
  · have hlane := tret.tests l (List.mem_finRange l) ((hresumed l).trans hx)
    rw [hwlane, hwstop, Lane.passTest_state] at hlane
    exact hlane

end Sys2Proof.Machine
end

section
/-! PROOFS. The roundings and the clamp of the clock correction (R46). -/

namespace Sys2Proof.Machine

/-- The nearest quotient of a number that is not negative: it misses by less than half below, by at most half above. -/
theorem divNearest_bounds_of_nonneg {num : Int} {den : Nat} (hn : 0 ≤ num) (hd : 0 < den) :
    0 ≤ divNearest num den * den ∧ 2 * (num - divNearest num den * den) < den ∧
      -(den : Int) ≤ 2 * (num - divNearest num den * den) := by
  have hpos : (0 : Int) < 2 * den := by omega
  have hlow := Int.ediv_mul_le (2 * num + den) hpos.ne'
  have hhigh := Int.lt_ediv_add_one_mul_self (2 * num + den) hpos
  have hq : 0 ≤ (2 * num + den) / (2 * den : Int) := Int.ediv_nonneg (by omega) hpos.le
  rw [divNearest, if_pos hn]
  generalize (2 * num + den) / (2 * den : Int) = q at hlow hhigh hq ⊢
  rw [mul_left_comm] at hlow
  rw [add_one_mul, mul_left_comm] at hhigh
  have hprod : 0 ≤ q * den := Int.mul_nonneg hq (by omega)
  omega

/-- The nearest quotient is odd: halves go away from zero on both sides. -/
theorem divNearest_of_neg {num : Int} (hn : num < 0) (den : Nat) : divNearest num den = -divNearest (-num) den := by
  rw [divNearest, divNearest, if_neg (not_le.2 hn), if_pos (by omega)]

/-- The nearest quotient misses by at most half, and by half only away from zero. -/
theorem divNearest_nearest {num : Int} {den : Nat} (hd : 0 < den) :
    2 * |num - divNearest num den * den| ≤ den ∧
      (2 * |num - divNearest num den * den| = den → |num| < |divNearest num den * den|) := by
  rcases le_or_gt 0 num with hn | hn
  · have h := divNearest_bounds_of_nonneg hn hd
    generalize divNearest num den * (den : Int) = p at h ⊢
    simp only [abs_eq_max_neg]
    omega
  · have h := divNearest_bounds_of_nonneg (num := -num) (by omega) hd
    rw [divNearest_of_neg hn, neg_mul]
    generalize divNearest (-num) den * (den : Int) = p at h ⊢
    simp only [abs_eq_max_neg]
    omega

/-- The quotient toward zero of a number that is not negative is the greatest that does not pass it. -/
theorem divTowardZero_bounds_of_nonneg {num : Int} {den : Nat} (hn : 0 ≤ num) (hd : 0 < den) :
    0 ≤ divTowardZero num den ∧ 0 ≤ divTowardZero num den * den ∧ divTowardZero num den * den ≤ num ∧
      num - divTowardZero num den * den < den := by
  have hpos : (0 : Int) < den := by omega
  have hlow := Int.ediv_mul_le num hpos.ne'
  have hhigh := Int.lt_ediv_add_one_mul_self num hpos
  have hq : 0 ≤ num / (den : Int) := Int.ediv_nonneg hn hpos.le
  rw [divTowardZero, Int.tdiv_eq_ediv_of_nonneg hn]
  rw [add_one_mul] at hhigh
  exact ⟨hq, Int.mul_nonneg hq hpos.le, hlow, by omega⟩

theorem divTowardZero_neg (num : Int) (den : Nat) : divTowardZero (-num) den = -divTowardZero num den :=
  Int.neg_tdiv num den

/-- The quotient toward zero never passes its number, misses it by less than one, and has its sign. -/
theorem divTowardZero_toward {num : Int} {den : Nat} (hd : 0 < den) :
    |divTowardZero num den * den| ≤ |num| ∧ |num - divTowardZero num den * den| < den ∧
      (num ≤ 0 → divTowardZero num den ≤ 0) ∧ (0 ≤ num → 0 ≤ divTowardZero num den) := by
  rcases le_or_gt 0 num with hn | hn
  · have h := divTowardZero_bounds_of_nonneg hn hd
    have hzero : num ≤ 0 → divTowardZero num den ≤ 0 := fun h0 => by
      obtain rfl : num = 0 := le_antisymm h0 hn
      exact (Int.zero_tdiv _).le
    generalize divTowardZero num den * (den : Int) = p at h ⊢
    simp only [abs_eq_max_neg]
    omega
  · have h := divTowardZero_bounds_of_nonneg (num := -num) (by omega) hd
    rw [divTowardZero_neg, neg_mul] at h
    generalize divTowardZero num den * (den : Int) = p at h ⊢
    simp only [abs_eq_max_neg]
    omega

/-- Settles O52: each rounding by its bounds for numbers that are not negative, and by its oddness. -/
theorem quotientsAreRoundedAsR46Says : Obligations.QuotientsAreRoundedAsR46Says := by
  refine ⟨fun num den hd => ⟨divNearest_nearest hd, divTowardZero_toward hd⟩, fun lo hi x h => ?_⟩
  rw [clampInt_eq h]
  omega

end Sys2Proof.Machine
end

section
/-! PROOFS. A sync mark on its way into the clock model (R34, R36, R46, R54 to R62, R139, R148). -/

namespace Sys2Proof.Machine

/-! The anomalies of a mark, and what it makes of the clock model (R54 to R60). -/

/-- A mark bears CLOCK_STEP when the step limit is in force and its residual lies beyond it (R55). -/
theorem ClockModel.stepped_eq (c : ClockModel) (limit raw reference : Nat) : c.stepped limit raw reference =
    decide (limit ≠ 0 ∧ (limit : Int) < |((reference : Int) - raw) -
      (c.offset + divNearest (c.drift * ((raw : Int) - c.referenceRaw)) 1000000000)|) := by
  have hresidual : c.residual raw reference =
      ((reference : Int) - raw) - (c.offset + divNearest (c.drift * ((raw : Int) - c.referenceRaw)) 1000000000) := rfl
  rw [ClockModel.stepped, ← hresidual, Bool.eq_iff_iff]
  simp only [Bool.and_eq_true, bne_iff_ne, Bool.or_eq_true, decide_eq_true_iff, lt_abs]
  omega

theorem ClockModel.markAnomalies_any (c : ClockModel) (limit raw reference : Nat) :
    (c.markAnomalies limit raw reference).any = true ↔
      (c.markAnomalies limit raw reference).regression = true ∨
        (c.markAnomalies limit raw reference).clockStep = true := by
  unfold ClockModel.markAnomalies
  generalize c.regression raw = regression
  generalize c.stepped limit raw reference = step
  revert regression step
  decide

/-- The drift after a mark without anomaly, in figures (R46, R58, R59). -/
theorem ClockModel.filteredDrift_eq (c : ClockModel) (driftShift raw reference : Nat) :
    c.filteredDrift driftShift raw reference =
      if 1 ≤ c.markCount ∧ c.lastMarkRaw + 1000000 ≤ raw then
        c.drift + (max (-500000) (min 500000 (divNearest
          (((reference : Int) - raw - c.lastMarkOffset) * 1000000000) (raw - c.lastMarkRaw))) - c.drift).tdiv
            (2 ^ driftShift)
      else c.drift := by
  have hdue : c.estimateDue raw = true ↔ 1 ≤ c.markCount ∧ c.lastMarkRaw + 1000000 ≤ raw := by
    simp only [ClockModel.estimateDue, Config.minMarkSpan, Bool.and_eq_true, bne_iff_ne, decide_eq_true_iff]
    omega
  simp only [ClockModel.filteredDrift, hdue, ClockModel.measuredDrift, clampDrift_eq, measuredOffset, divTowardZero]
  push_cast
  rfl

/-- The model after a mark without anomaly, in figures (R46, R57). -/
theorem ClockModel.applyMark_eq (c : ClockModel) (driftShift raw reference : Nat) :
    c.applyMark driftShift raw reference = { c with
      offset := max (-549755813887) (min 549755813887 ((reference : Int) - raw))
      drift := c.filteredDrift driftShift raw reference, referenceRaw := raw
      lastMarkOffset := max (-549755813887) (min 549755813887 ((reference : Int) - raw))
      lastMarkRaw := raw, markCount := min 2 (c.markCount + 1), lastRaw := raw } := by
  have h : clampOffset (measuredOffset raw reference) =
      max (-549755813887) (min 549755813887 ((reference : Int) - raw)) := clampInt_eq (by decide) _
  rw [← h]
  rfl

/-! The mark by its anomalies, the mode, and the lane's mask for group 2 (R57, R60, R61, R62). -/

/-- A mark is dealt with once its sequence has been compared (R31, R34). -/
theorem State.takeSlot_takesMark {s : State} {d : Slot} {stamp : BitVec 48} {reference : Nat} {seq : BitVec 32}
    (hd : classify d = .mark stamp reference seq) (l : Fin 16) :
    (s.answerTaken l).takeSlot l d = (s.slotAt l ((s.lane l).noted seq) s.cku).takeMark l stamp reference := by
  simp only [State.takeSlot, hd, State.lane_answerTaken, Lane.noteSequence_ready]
  rfl

section
variable {s : State} {l : Fin 16} {y : Lane} {q : List Entry} {k : Cku} {stamp : BitVec 48} {reference raw : Nat}

/-- Without an anomaly the mark is applied, and its slot passed (R57). -/
theorem State.takeMark_of_regular (hraw : raw = y.clock.rawTime stamp)
    (h : (y.clock.markAnomalies s.ccu.stepLimit raw reference).any = false) :
    (s.atLane l y q k).takeMark l stamp reference =
      s.atLane l { y with clock := y.clock.applyMark s.ccu.driftShift raw reference }.passSlot q k := by
  have hccu : (s.atLane l y q k).ccu = s.ccu := rfl
  rw [State.takeMark, State.lane_atLane, ← hraw, hccu, if_neg (h ▸ nofun), State.setLane_atLane]

/-- In SEEKING an anomaly is applied as a step, without a finding (R62). -/
theorem State.takeMark_of_seeking (hraw : raw = y.clock.rawTime stamp)
    (h : (y.clock.markAnomalies s.ccu.stepLimit raw reference).any = true) (hm : s.rc.mode = .seeking) :
    (s.atLane l y q k).takeMark l stamp reference =
      s.atLane l { y with clock := y.clock.applyStep raw reference }.passSlot q k := by
  have hccu : (s.atLane l y q k).ccu = s.ccu := rfl
  have hmode : (s.atLane l y q k).rc.mode = .seeking := hm
  rw [State.takeMark, State.lane_atLane, ← hraw, hccu, if_pos h, hmode, State.setLane_atLane]

/-- Under PASS an anomaly is applied as a step, with a finding (R60, R61). -/
theorem State.takeMark_of_pass (hraw : raw = y.clock.rawTime stamp)
    (h : (y.clock.markAnomalies s.ccu.stepLimit raw reference).any = true) (hm : s.rc.mode ≠ .seeking)
    (hmask : y.mask.group2 = .pass) :
    (s.atLane l y q k).takeMark l stamp reference =
      (s.atLane l { y with clock := y.clock.applyStep raw reference }.passSlot q k).raiseFinding
        (laneFinding l 2 (y.clock.markAnomalies s.ccu.stepLimit raw reference) .applied none y.readPos reference) := by
  have hccu : (s.atLane l y q k).ccu = s.ccu := rfl
  rw [State.takeMark, State.lane_atLane, ← hraw, hccu, if_pos h, hmask, State.setLane_atLane]
  split
  next hs => exact absurd hs hm
  all_goals rfl

/-- Under HOLD an anomaly traps the lane with the mark, the model as it was (R61, R148). -/
theorem State.takeMark_of_hold (hraw : raw = y.clock.rawTime stamp)
    (h : (y.clock.markAnomalies s.ccu.stepLimit raw reference).any = true) (hm : s.rc.mode ≠ .seeking)
    (hmask : y.mask.group2 = .hold) :
    (s.atLane l y q k).takeMark l stamp reference =
      (s.atLane l { y with state := .trapped, held := some (.mark raw reference), trap := some (.fetch 2) } q
        k).raiseFinding
        (laneFinding l 2 (y.clock.markAnomalies s.ccu.stepLimit raw reference) .heldForRelease none y.readPos
          reference) := by
  have hccu : (s.atLane l y q k).ccu = s.ccu := rfl
  rw [State.takeMark, State.trapAtFetch]
  dsimp only
  rw [State.lane_atLane, ← hraw, hccu, if_pos h, hmask, State.setLane_atLane, State.setLane_atLane]
  split
  next hs => exact absurd hs hm
  all_goals rfl

end

/-! What a slot leaves, from what its taking comes to. -/

section
variable {s u : State} {l : Fin 16} {x : Lane} {k : Cku}

theorem State.leaves_of_eq_slotAt (h : u = s.slotAt l x k) : s.LeavesSlot u l x s.mq.entries k :=
  h ▸ State.leaves_slotAt

theorem State.leaves_of_eq_raiseFinding {f : Finding} (h : u = (s.slotAt l x k).raiseFinding f) :
    ∃ k', k.Raises k' f ∧ s.LeavesSlot u l x s.mq.entries k' := by
  obtain ⟨k', hk, hf⟩ := State.raiseFinding_atLane (s := s.answerTaken l) (l := l) (y := x) (q := s.mq.entries)
    (k := k) f
  exact ⟨k', hk, State.leaves_of_eq_slotAt (h.trans hf)⟩

end

/-- The comparison of the sequence leaves what a mark is judged by (R34). -/
theorem Lane.noted_kept (x : Lane) (seq : BitVec 32) :
    (x.noted seq).clock = x.clock ∧ (x.noted seq).mask = x.mask ∧ (x.noted seq).readPos = x.readPos ∧
      (x.noted seq).silent = x.silent ∧ (x.noted seq).fetchWidth = x.fetchWidth := by
  rw [Lane.noted_eq]
  exact ⟨rfl, rfl, rfl, rfl, rfl⟩

/-- A lane past a mark that has left it the clock model `c` (R36, R57). -/
theorem Lane.passSlot_marked (x : Lane) (seq : BitVec 32) (c : ClockModel) :
    { x.noted seq with clock := c }.passSlot = { x.noteSequence seq with
      clock := c, readPos := x.readPos + 1, held := none, trap := none
      state := if x.slotCount ≤ x.readPos + 1 then .ended else .ready } := by
  rw [Lane.noted_eq, Lane.noteSequence_gap]
  rfl

/-- Settles O17: neither test of the mark fires, and the slot only sets its lane. -/
theorem syncMarkWithoutAnomalyIsApplied : Obligations.SyncMarkWithoutAnomalyIsApplied := by
  intro words d s l stamp reference raw seq c m drift ha hb hd hc hraw hm hlast hstep hdrift
  subst hc hm
  obtain ⟨hclock, -, -, hsilent, hwidth⟩ := (s.lane l).noted_kept seq
  have htime : raw = ((s.lane l).noted seq).clock.rawTime stamp := by rw [hclock]; exact hraw
  have hccu : (s.answerTaken l).ccu = s.ccu := rfl
  have hregular : (((s.lane l).noted seq).clock.markAnomalies (s.answerTaken l).ccu.stepLimit raw reference).any =
      false := by
    rw [← Bool.not_eq_true, ClockModel.markAnomalies_any, hclock, hccu]
    simp only [ClockModel.markAnomalies, ClockModel.regression, ClockModel.stepped_eq, decide_eq_true_iff]
    omega
  have happly := (s.lane l).clock.applyMark_eq s.ccu.driftShift raw reference
  rw [ClockModel.filteredDrift_eq, ← hdrift] at happly
  have hmark := State.takeMark_of_regular (l := l) (q := s.mq.entries) (k := s.cku) htime hregular
  obtain ⟨htakes, hentries, hcku, honly⟩ :=
    ha.leaves (State.leaves_of_eq_slotAt hmark) (hsilent.trans ha.silent) hwidth
  rw [hclock, hccu, Lane.passSlot_marked, happly] at htakes
  refine ⟨_, ha.exec_eq hb, ?_⟩
  rw [State.takeSlot_takesMark hd]
  exact ⟨htakes, hentries, hcku, honly⟩

/-- Settles O18: the mark by mode and mask, and the visit's end behind it. -/
theorem syncMarkWithAnomalyIsSteppedOrHeld : Obligations.SyncMarkWithAnomalyIsSteppedOrHeld := by
  intro words d s l stamp reference raw seq c m a ha hb hd hc hraw hm haset hbears
  subst hc hm
  obtain ⟨hclock, hmask, hpos, hsilent, hwidth⟩ := (s.lane l).noted_kept seq
  have htime : raw = ((s.lane l).noted seq).clock.rawTime stamp := by rw [hclock]; exact hraw
  have hset : ((s.lane l).noted seq).clock.markAnomalies (s.answerTaken l).ccu.stepLimit raw reference = a := by
    rw [haset, ← ClockModel.stepped_eq, hclock]
    rfl
  have hany : (((s.lane l).noted seq).clock.markAnomalies (s.answerTaken l).ccu.stepLimit raw reference).any =
      true := by
    rw [ClockModel.markAnomalies_any, hset]
    exact hbears
  refine ⟨_, ha.exec_eq hb, ?_⟩
  rw [State.takeSlot_takesMark hd, ← ClockModel.applyStep_eq, ← Lane.passSlot_marked, ← hclock, ← hmask,
    ← hpos]
  by_cases hm : s.rc.mode = .seeking
  · have hmark := State.takeMark_of_seeking (l := l) (q := s.mq.entries) (k := s.cku) htime hany hm
    obtain ⟨htakes, hentries, hcku, honly⟩ :=
      ha.leaves (State.leaves_of_eq_slotAt hmark) (hsilent.trans ha.silent) hwidth
    exact ⟨hentries, honly, fun _ => htakes, fun _ => hcku, fun h => absurd hm h, fun h => absurd hm h⟩
  · cases haction : ((s.lane l).noted seq).mask.group2 with
    | pass =>
      have hmark := State.takeMark_of_pass (l := l) (q := s.mq.entries) (k := s.cku) htime hany hm haction
      rw [hset] at hmark
      obtain ⟨k, hk, hleaves⟩ := State.leaves_of_eq_raiseFinding hmark
      obtain ⟨htakes, hentries, hcku, honly⟩ := ha.leaves hleaves (hsilent.trans ha.silent) hwidth
      exact ⟨hentries, honly, fun _ => htakes, fun h => absurd h hm, fun _ _ => hcku.symm ▸ hk,
        fun _ h => absurd h nofun⟩
    | hold =>
      have hmark := State.takeMark_of_hold (l := l) (q := s.mq.entries) (k := s.cku) htime hany hm haction
      rw [hset] at hmark
      obtain ⟨k, hk, hleaves⟩ := State.leaves_of_eq_raiseFinding hmark
      obtain ⟨htakes, hentries, hcku, honly⟩ := ha.leaves hleaves (hsilent.trans ha.silent) hwidth
      exact ⟨hentries, honly, fun h => absurd (h.resolve_left hm) nofun, fun h => absurd h hm,
        fun _ h => absurd h nofun, fun _ _ => ⟨htakes, hcku.symm ▸ hk⟩⟩

end Sys2Proof.Machine
end

section
/-! PROOFS. An event below the seek time that joins the silent front (R51, R125, R135, R160, R161). -/

namespace Sys2Proof.Machine

/-! The front that applies one event and waits again (R161). -/

/-- A front that waits for a lane applies nothing. -/
theorem State.drainFront_of_not_ready {s : State} (h : s.frontReady = false) (n : Nat) : State.drainFront n s = s := by
  cases n with
  | zero => rfl
  | succ n => rw [State.drainFront, h, if_neg nofun]

/-- A lane still to be read, below the seek time and without a silent event, keeps the front waiting. -/
theorem State.frontReady_eq_false {s : State} {w : Fin 16} (hstate : (s.lane w).state = .ready)
    (hsilent : (s.lane w).silent = none) (hbelow : (s.lane w).clock.lastCorrected < s.rc.seekTime) :
    s.frontReady = false := by
  rw [Bool.eq_false_iff, ne_eq, State.frontReady, State.allLanes_iff]
  intro hall
  have hw := (Lane.clearOfFront_iff _ _).1 (hall w)
  simp only [Lane.LetsTheFrontApply, hstate, hsilent, ne_eq, not_true_eq_false, reduceCtorEq, false_or] at hw
  omega

/-- Where every lane lets the front apply, its lowest event is applied; when that event's lane is READY and below the
seek time, the front waits for it, and the seek goes on. -/
theorem State.settleSeek_appliesOne {s : State} {w : Fin 16} {e : SilentEvent} (hm : s.rc.mode = .seeking)
    (hc : s.afu.checkpoint = none) (hlets : ∀ m, (s.lane m).LetsTheFrontApply s.rc.seekTime)
    (hw : (s.lane w).silent = some e)
    (hmin : ∀ m g, (s.lane m).silent = some g → e.time ≤ g.time ∧ (m < w → e.time < g.time))
    (hstate : (s.lane w).state = .ready) (hbelow : (s.lane w).clock.lastCorrected < s.rc.seekTime) :
    s.settleSeek = s.applySilent w := by
  have hready : s.frontReady = true := (State.allLanes_iff _ _).2 fun m => (Lane.clearOfFront_iff _ _).2 (hlets m)
  have hlane : (s.applySilent w).lane w = { s.lane w with silent := none } := by
    rw [State.lane_applySilent, if_pos rfl]
  have hrc : (s.applySilent w).rc = s.rc := by rw [State.applySilent_eq hw]
  have hwaits : (s.applySilent w).frontReady = false :=
    State.frontReady_eq_false (by rw [hlane]; exact hstate) (by rw [hlane]) (by rw [hlane, hrc]; exact hbelow)
  have hread : (s.applySilent w).anyReading = true :=
    (State.anyReading_iff _).2 ⟨w, .inl (by rw [hlane]; exact hstate)⟩
  have hdrain : State.drainFront 16 s = s.applySilent w := by
    rw [State.drainFront, if_pos hready, State.lowestSilent_eq hw hmin]
    exact State.drainFront_of_not_ready hwaits 15
  have hreplays : s.replaysSilently = true := by simp [State.replaysSilently, hm, hc]
  rw [State.settleSeek, if_pos hreplays, hdrain, State.finishReplay, hread]
  simp

/-- The visit of a lane that has handed an event over ends behind its slot (R160). -/
theorem State.LeavesSlot.handedOver {s u : State} {l : Fin 16} {x : Lane} {q : List Entry} {k : Cku}
    (h : s.LeavesSlot u l x q k) (hc : s.afu.checkpoint = none) (hx : x.silent ≠ none) :
    s.LastVisitEnds (u.continueVisit l) l x q k := by
  have hend : u.continueVisit l = u.endVisit l := by
    have hstop : u.mayContinue l = false := by
      rw [State.mayContinue, h.taken.lane, Option.isNone_eq_false_iff.2 (Option.isSome_iff_ne_none.2 hx)]
      simp
    rw [State.continueVisit, hstop, if_neg nofun]
  rw [hend]
  refine ⟨?_, h.taken.lane, h.taken.others, h.taken.checkpoint.trans hc,
    ⟨h.taken.request, h.taken.words, rfl, rfl⟩, h.entries, h.cku⟩
  have hkept := h.kept
  unfold State.endVisit
  rw [hkept]

/-- The lane that has handed an event over, its slot passed. -/
theorem Lane.skipped_handed (x : Lane) (seq : BitVec 32) (c : ClockModel) (e : SilentEvent) :
    { x.noteSequence seq with clock := c, silent := some e }.skipped = { x.noteSequence seq with
      clock := c, readPos := x.readPos + 1, held := none, trap := none, silent := some e
      state := if x.slotCount ≤ x.readPos + 1 then .ended else .ready } := by
  rw [Lane.noteSequence_gap]
  rfl

/-- Settles O22: the slot hands its event to the front, which waits for a lane or applies its lowest event. -/
theorem eventBelowTheSeekTimeIsHandedToSilentReplay : Obligations.EventBelowTheSeekTimeIsHandedToSilentReplay := by
  intro words d s l n retry device kind stamp seq x raw unheld time handed hr hm hc hq hb hd hroom hx hraw hunheld htime
    hearly hothers hhanded
  subst hx
  obtain ⟨e, he⟩ : ∃ e, e = (s.lane l).clock.correct device kind stamp (s.lane l).readPos := ⟨_, rfl⟩
  have heraw : e.raw = raw := by rw [he, hraw]; rfl
  have heunheld : e.unheld = unheld := by
    rw [he, ← (ClockModel.unheld_eq rfl hunheld).1, hraw]
    rfl
  have hslot := (State.takeSlot_event hd hroom l).trans
    (State.takeEvent_handsOver hm he (by rw [heunheld]; exact htime) hearly)
  rw [heraw, Lane.skipped_handed, ← hhanded] at hslot
  have hleaves := State.leaves_of_eq_slotAt hslot
  have hsilent : (handed l).silent ≠ none := by rw [hhanded]; nofun
  have hends := hleaves.handedOver hc hsilent
  have hgoes : s.SeekGoesOn l → _ := fun h => (hleaves.taken.seekGoesOn h).settle_eq
  refine ⟨_, State.exec_laneSlotAnswer hr hq hb, ?_⟩
  generalize ((s.answerTaken l).takeSlot l d).continueVisit l = v at hends hgoes ⊢
  have hlane : ∀ m, v.lane m = handed m := fun m => by
    by_cases h : m = l
    · rw [h, hends.lane]
    · rw [hends.others m h, hothers m h]
  have hrc : v.rc = s.rc := by rw [hends.kept]
  have hdst : v.dst = s.dst := by rw [hends.kept]
  obtain ⟨hrequest, -, hrotation, hending⟩ := hends.port
  refine ⟨fun h => ?_, fun w f hlets hw hmin hstate hbelow => ?_, v.settle_afu_request.trans hrequest,
    v.settle_afu_rotation.trans hrotation, v.settle_afu_visitEnding.trans hending,
    v.settle_mq_entries.trans hends.entries, v.settle_cku.trans hends.cku, ?_, ?_⟩
  · rw [hgoes h]
    exact ⟨fun m => (v.lane_refreshDrive m).trans (hlane m), hdst, hrc⟩
  · have hseek : v.settleSeek = v.applySilent w := by
      refine State.settleSeek_appliesOne (by rw [hrc, hm]) hends.checkpoint (fun m => ?_) (by rw [hlane, hw])
        (fun m g => by rw [hlane]; exact hmin m g) (by rw [hlane, hstate]) (by rw [hlane, hrc]; exact hbelow)
      rw [hlane, hrc]
      by_cases h : m = l
      · exact .inl (by rw [h]; exact hsilent)
      · rw [hothers m h]
        exact hlets m h
    have happly := State.applySilent_eq (s := v) (w := w) (by rw [hlane, hw])
    rw [State.settle, hseek]
    refine ⟨fun m => ?_, ?_, ?_⟩
    · rw [State.lane_refreshDrive, State.lane_settleCut, State.lane_applySilent, hlane]
      split
      next h => rw [h]
      next => rfl
    · rw [State.refreshDrive_dst, State.settleCut_dst, happly, ← hdst]
    · rw [State.refreshDrive_rc, State.settleCut_rc, happly, hrc]
  · rw [State.settle_biu, hends.kept]
  · rw [State.settle_ccu, hends.kept]

end Sys2Proof.Machine
end

section
/-! PROOFS. The end of a stretch: what the EVENT frame of an entry carries, and the judgement of the entry at winning
(R53, R63, R89, R103, R144 to R148, Table 11-6). -/

namespace Sys2Proof.Machine

/-! The EVENT frame of an entry (Tables 5-2 and 11-6). -/

/-- The value of a kind is its place in the list of Table 1-5. -/
theorem EventKind.ofCode_code (kind : EventKind) : EventKind.ofCode kind.code = some kind := by
  cases kind <;> rfl

theorem EventKind.code_lt (kind : EventKind) : kind.code < 16 := by
  cases kind <;> decide

/-- The four bits of a kind spell it. -/
theorem EventKind.spelled (kind : EventKind) :
    1 ≤ (BitVec.ofNat 4 kind.code).toNat ∧
      [EventKind.pickup, .dropout, .trip, .openCmd, .closeCmd, .opened, .closed, .travel, .lockout,
        .lockoutReset][(BitVec.ofNat 4 kind.code).toNat - 1]? = some kind := by
  rw [BitVec.toNat_ofNat, Nat.mod_eq_of_lt kind.code_lt]
  exact EventKind.ofCode_eq_some.1 kind.ofCode_code

/-- The two bits of a tick unit spell it. -/
theorem TickUnit.spelled (tick : TickUnit) :
    [TickUnit.us1, .us10, .us100, .us1000][(BitVec.ofNat 2 tick.code).toNat]? = some tick := by
  cases tick <;> rfl

/-- The two bits of a clock quality spell it. -/
theorem Quality.spelled (quality : Quality) :
    [Quality.nominal, .offsetOnly, .tracking][(BitVec.ofNat 2 quality.code).toNat]? = some quality := by
  cases quality <;> rfl

/-- The six bits of the anomaly set, most significant first. -/
theorem AnomalySet.group4Bits_getMsbD (a : AnomalySet) : (List.range 6).map a.group4Bits.getMsbD =
    [a.redundant, a.lockoutClose, a.noPickup, a.overtime, a.held, a.gapBefore] := by
  obtain ⟨-, -, -, -, -, -, redundant, lockoutClose, noPickup, overtime, held, gapBefore⟩ := a
  simp only [AnomalySet.group4Bits]
  revert redundant lockoutClose noPickup overtime held gapBefore
  decide

/-! The anomalies found at winning (R145, R146). -/

theorem append_eq_zero_iff {n m : Nat} (x : BitVec n) (y : BitVec m) :
    x ++ y = 0#(n + m) ↔ x = 0#n ∧ y = 0#m := by
  rw [← BitVec.zero_append_zero]
  refine ⟨fun h => ⟨?_, ?_⟩, fun ⟨hx, hy⟩ => by rw [hx, hy]⟩
  · have hx := congrArg (BitVec.extractLsb' m n) h
    rwa [BitVec.extractLsb'_append_eq_left, BitVec.extractLsb'_append_eq_left] at hx
  · have hy := congrArg (BitVec.extractLsb' 0 m) h
    rwa [BitVec.extractLsb'_append_eq_right, BitVec.extractLsb'_append_eq_right] at hy

/-- A set holds an anomaly exactly when it is not the empty set. -/
theorem AnomalySet.any_eq_true {a : AnomalySet} : a.any = true ↔ a ≠ {} := by
  have hbit : ∀ b, BitVec.ofBool b = 0#1 ↔ b = false := by decide
  rw [AnomalySet.any, bne_iff_ne, ne_eq, not_iff_not, AnomalySet.bits, AnomalySet.group4Bits]
  iterate 11 rw [append_eq_zero_iff (n := _) (m := _)]
  obtain ⟨⟩ := a
  simp only [hbit, AnomalySet.mk.injEq, and_assoc]

/-- The duplicate test, in figures (R145). -/
theorem duplicateTest_iff {tolerance : Nat} {dev : Device} {e : Entry} : duplicateTest tolerance dev e = true ↔
    ∃ last, dev.lastEvent = some last ∧ last.kind = e.kind ∧ |(e.time : Int) - last.time| ≤ tolerance ∧
      last.source ≠ .lane e.lane := by
  unfold duplicateTest
  split
  next h => simp [h]
  next last h =>
    have habs : |(e.time : Int) - last.time| ≤ tolerance ↔
        (e.time : Int) - last.time ≤ tolerance ∧ (last.time : Int) - e.time ≤ tolerance := by
      rw [abs_le]
      omega
    simp [h, habs, and_assoc]

/-- The sequence check of R146, anomaly by anomaly. -/
theorem sequenceCheck_eq {dev : Device} {e : Entry} {a : AnomalySet}
    (hother : a.damaged = false ∧ a.undecodable = false ∧ a.regression = false ∧ a.clockStep = false ∧
      a.unknownDevice = false ∧ a.outOfRange = false)
    (hredundant : a.redundant = true ↔
      e.kind = .opened ∧ dev.position = .opened ∨ e.kind = .closed ∧ dev.position = .closed)
    (hlockout : a.lockoutClose = true ↔ (e.kind = .closed ∨ e.kind = .closeCmd) ∧ dev.lockout = true)
    (hpickup : a.noPickup = true ↔ e.kind = .trip ∧ dev.pickup = false)
    (hovertime : a.overtime = true ↔ (e.kind = .opened ∨ e.kind = .closed) ∧ dev.position = .travel ∧
      dev.maxTravel ≠ 0 ∧ ∃ start, dev.travelStart = some start ∧ start + dev.maxTravel * 1000 < e.time)
    (hmarkers : a.held = e.held ∧ a.gapBefore = e.gapBefore.isSome) : sequenceCheck dev e = a := by
  have hend : e.kind.isEnd = true ↔ e.kind = .opened ∨ e.kind = .closed := by
    cases e.kind <;> simp [EventKind.isEnd]
  have htravel : dev.overtime e.time = true ↔ dev.position = .travel ∧ dev.maxTravel ≠ 0 ∧
      ∃ start, dev.travelStart = some start ∧ start + dev.maxTravel * 1000 < e.time := by
    unfold Device.overtime
    split <;> simp_all [and_assoc]
  obtain ⟨damaged, undecodable, regression, clockStep, unknownDevice, outOfRange, _, _, _, _, _, _⟩ := a
  obtain ⟨rfl, rfl, rfl, rfl, rfl, rfl⟩ := hother
  obtain ⟨rfl, rfl⟩ := hmarkers
  simp only [sequenceCheck, AnomalySet.mk.injEq, true_and, and_true]
  refine ⟨?_, ?_, ?_, ?_⟩
  · rw [Bool.eq_iff_iff, hredundant]
    simp
  · rw [Bool.eq_iff_iff, hlockout]
    simp
  · rw [Bool.eq_iff_iff, hpickup]
    simp
  · rw [Bool.eq_iff_iff, hovertime, Bool.and_eq_true, hend, htravel]

/-! The outcome at winning (R144, Table 8-3). -/

section
variable {s : State} {e : Entry} {dev : Device}

theorem State.isDuplicate_eq (hdev : s.dst.find e.device = some dev) :
    s.isDuplicate e = duplicateTest s.cku.tolerance dev e := by
  rw [State.isDuplicate, hdev]

theorem State.winAnomalies_eq (hdev : s.dst.find e.device = some dev) : s.winAnomalies e = sequenceCheck dev e := by
  rw [State.winAnomalies, hdev]

theorem State.evaluate_of_duplicate (h : s.isDuplicate e = true) : s.evaluate e = .send true {} false := by
  rw [State.evaluate, if_pos h]

/-- An event without anomalies, released, or under PASS is sent with what was found. -/
theorem State.evaluate_of_sent (h : s.isDuplicate e = false)
    (ha : s.winAnomalies e = {} ∨ e.released = true ∨ (s.lane e.lane).mask.group4 = .pass) :
    s.evaluate e = .send false (s.winAnomalies e) false := by
  have hsent : (!(s.winAnomalies e).any || e.released || (s.lane e.lane).mask.group4 == .pass) = true := by
    rw [Bool.or_eq_true, Bool.or_eq_true, Bool.not_eq_true', ← Bool.not_eq_true, AnomalySet.any_eq_true, not_not,
      beq_iff_eq, or_assoc]
    exact ha
  rw [State.evaluate, h, if_neg nofun]
  exact if_pos hsent

/-- Under HOLD an anomaly holds the event, unless its lane holds a released record (R147). -/
theorem State.evaluate_of_held (h : s.isDuplicate e = false) (ha : s.winAnomalies e ≠ {}) (hr : e.released = false)
    (hmask : (s.lane e.lane).mask.group4 = .hold) : s.evaluate e =
      if (s.lane e.lane).releasedRecord = none then .hold (s.winAnomalies e)
      else .send false (s.winAnomalies e) true := by
  rw [State.evaluate, h, if_neg nofun]
  dsimp only
  rw [AnomalySet.any_eq_true.2 ha, hr, hmask, if_neg (by decide)]
  cases (s.lane e.lane).releasedRecord <;> rfl

end

/-! The test and the trap (R89, R147). -/

section
variable {s : State} {o : Outbound} {e : Entry}

/-- The winner of an EVENT frame whose entry may still be sent acts on its judgement at the end of its stretch. -/
theorem State.exec_stretchEnd_acts (hr : s.inReset = false) (hs : s.biu.state = .stretching)
    (ho : s.biu.outbound = some o) (hq : s.biu.inbound = []) (hk : o.entry = some e.key)
    (he : s.findEntry e.key = some e) (hm : s.rc.mode = .paused ∨ s.rc.mode = .running) (hp : s.pu.phase = .emit)
    (hd : s.pu.drive = .released) (hw : e.time < s.pu.windowEnd) :
    exec (.stretchEnd .recessive) s = .next (s.actOnWin e).refreshDrive := by
  have htest : (s.rc.mode.replaying && s.pu.phase == .emit && s.readBhl .recessive == .recessive &&
      decide (e.time < s.pu.windowEnd)) = true := by
    rw [Mode.replaying_iff.2 hm, hp, State.readBhl, hd, decide_eq_true hw]
    rfl
  have hsendable : s.sendable o .recessive = some e := by
    simp only [State.sendable, hk, he, if_pos htest]
  simp only [exec, execStretchEnd, State.whenLive_live hr, hs, ho, hq, State.endStretch, hsendable]

/-- The abandonment of a visit changes the port alone, and no lane in it. -/
theorem State.abandonVisit_eq (s : State) (l : Fin 16) :
    s.abandonVisit l = { s with afu := { (s.abandonVisit l).afu with lanes := s.afu.lanes } } := by
  unfold State.abandonVisit
  split <;> rfl

theorem State.lane_abandonVisit (s : State) (l m : Fin 16) : (s.abandonVisit l).lane m = s.lane m :=
  State.lane_congr (by rw [State.abandonVisit_eq]) m

/-- A trap at winning changes the lanes, the port, the findings and the bus alone (R147). -/
theorem State.trapAtWinning_eq (s : State) (e : Entry) (a : AnomalySet) : s.trapAtWinning e a = { s with
    afu := (s.trapAtWinning e a).afu
    biu := { s.biu with state := .idle, outbound := none }
    cku := (s.trapAtWinning e a).cku } := by
  rw [State.trapAtWinning, State.raiseFinding_eq, State.abandonVisit_eq]
  rfl

theorem State.lane_trapAtWinning (s : State) (e : Entry) (a : AnomalySet) (l : Fin 16) :
    (s.trapAtWinning e a).lane l = if l = e.lane then
        { s.lane e.lane with state := .trapped, held := none, trap := some (.winning e.key (s.lane e.lane).state) }
      else s.lane l := by
  rw [State.trapAtWinning, State.lane_busIdle, State.lane_raiseFinding, State.lane_abandonVisit]
  exact State.lane_setLane _ _ _ _

/-- The finding of the trap (R148). -/
theorem State.trapAtWinning_raises (s : State) (e : Entry) (a : AnomalySet) :
    s.cku.Raises (s.trapAtWinning e a).cku (e.finding a .heldForRelease) := by
  have h := State.raises_raiseFinding ((s.trapLane e.lane e.key).abandonVisit e.lane) (e.finding a .heldForRelease)
  rw [State.abandonVisit_eq] at h
  rwa [State.trapAtWinning, State.abandonVisit_eq]

/-- In EMIT a TRAPPED lane drives the line (R103). -/
theorem State.driveFor_of_trapped {t : State} {l : Fin 16} (hm : t.rc.mode = .paused ∨ t.rc.mode = .running)
    (hp : t.pu.phase = .emit) (ht : (t.lane l).state = .trapped) : t.driveFor = .dominant :=
  (State.driveFor_iff t).2 (.inr (.inr (.inr ⟨hm, by rw [hp]; nofun, .inl ⟨l, ht⟩⟩)))

/-- A frame that is sent with a finding changes the bus and the findings alone (R147). -/
theorem State.sendEvent_raises (s : State) (e : Entry) (duplicate : Bool) (a : AnomalySet) (f : Finding) :
    ∃ k, s.cku.Raises k f ∧
      (s.sendEvent e duplicate a).raiseFinding f = { s.sendEvent e duplicate a with cku := k } :=
  ⟨_, State.raises_raiseFinding (s.sendEvent e duplicate a) f, State.raiseFinding_eq _ f⟩

end

/-- Every field of the entry in the body of its EVENT frame (Tables 5-2 and 11-6). -/
theorem Entry.frame_carries (own : BitVec 5) (e : Entry) (duplicate : Bool) (a : AnomalySet) : ∃ b : EventBody,
    e.frame own duplicate a = { key := BitVec.ofNat 40 e.time, station := own, body := .event b } ∧
    b.lane.toNat = e.lane.val ∧ b.laneSeq = BitVec.ofNat 28 e.laneSeq ∧ b.recorder = e.recorder ∧
    b.device = e.device ∧ 1 ≤ b.kind.toNat ∧
    [EventKind.pickup, .dropout, .trip, .openCmd, .closeCmd, .opened, .closed, .travel, .lockout,
      .lockoutReset][b.kind.toNat - 1]? = some e.kind ∧
    b.rawStamp = e.rawStamp ∧ [TickUnit.us1, .us10, .us100, .us1000][b.tickCode.toNat]? = some e.tick ∧
    [Quality.nominal, .offsetOnly, .tracking][b.quality.toNat]? = some e.quality ∧ b.held = e.held ∧
    (match e.gapBefore with
      | none => b.gapBefore = false ∧ b.lostCount = 0#16
      | some lost => b.gapBefore = true ∧ b.lostCount = BitVec.ofNat 16 lost) ∧
    b.duplicate = duplicate ∧ b.released = e.released ∧
    (List.range 6).map b.anomalies.getMsbD =
      [a.redundant, a.lockoutClose, a.noPickup, a.overtime, a.held, a.gapBefore] := by
  have hlane : (BitVec.ofNat 4 e.lane.val).toNat = e.lane.val := by
    rw [BitVec.toNat_ofNat, Nat.mod_eq_of_lt e.lane.isLt]
  refine ⟨e.body duplicate a, rfl, hlane, rfl, rfl, rfl, e.kind.spelled.1, e.kind.spelled.2, rfl, e.tick.spelled,
    e.quality.spelled, rfl, ?_, rfl, rfl, a.group4Bits_getMsbD⟩
  rw [Entry.body]
  cases e.gapBefore <;> exact ⟨rfl, rfl⟩

/-- What is not sent as found is held for its anomalies (R144). -/
theorem sent_iff_not_held {a : AnomalySet} {released : Bool} {action : Action} :
    (a = {} ∨ released = true ∨ action = .pass) ↔ ¬(a ≠ {} ∧ released = false ∧ action = .hold) := by
  cases released <;> cases action <;> simp

/-- Settles O31: what the frame carries, and the four outcomes of the judgement. -/
theorem stretchEndJudgesTheWinningEvent : Obligations.StretchEndJudgesTheWinningEvent := by
  refine ⟨Entry.frame_carries, ?_⟩
  intro s o e dev a duplicate hr hs ho hq hk he hm hp hd hw hdev hdup hother hredundant hlockout hpickup hovertime
    hmarkers
  have hset : s.winAnomalies e = a := (State.winAnomalies_eq hdev).trans
    (sequenceCheck_eq hother hredundant hlockout hpickup hovertime hmarkers)
  have hduplicate : s.isDuplicate e = true ↔ duplicate := by
    rw [State.isDuplicate_eq hdev, duplicateTest_iff, hdup]
  refine ⟨_, State.exec_stretchEnd_acts hr hs ho hq hk he hm hp hd hw, ?_⟩
  rw [State.actOnWin]
  by_cases h : duplicate
  · rw [State.evaluate_of_duplicate (hduplicate.2 h)]
    exact ⟨rfl, rfl, rfl, rfl, fun _ => ⟨rfl, rfl, rfl⟩, fun hn => absurd h hn, fun hn => absurd h hn,
      fun hn => absurd h hn⟩
  have hnew : s.isDuplicate e = false := by rwa [← Bool.not_eq_true, hduplicate]
  by_cases hheld : a ≠ {} ∧ e.released = false ∧ (s.lane e.lane).mask.group4 = .hold
  · obtain ⟨ha, hrel, hmask⟩ := hheld
    have hunsent : ¬(a = {} ∨ e.released = true ∨ (s.lane e.lane).mask.group4 = .pass) := fun h =>
      sent_iff_not_held.1 h ⟨ha, hrel, hmask⟩
    rw [State.evaluate_of_held hnew (by rwa [hset]) hrel hmask, hset]
    by_cases hrecord : (s.lane e.lane).releasedRecord = none
    · rw [if_pos hrecord]
      have hlane := s.lane_trapAtWinning e a
      have hraises := s.trapAtWinning_raises e a
      have heq := s.trapAtWinning_eq e a
      dsimp only
      generalize s.trapAtWinning e a = t at *
      have hdrive : t.driveFor = .dominant :=
        State.driveFor_of_trapped (l := e.lane) (by rw [heq]; exact hm) (by rw [heq]; exact hp)
          (by rw [hlane, if_pos rfl])
      refine ⟨by rw [heq]; rfl, by rw [heq]; rfl, by rw [heq]; rfl, by rw [heq]; rfl, fun hd => absurd hd h,
        fun _ hs => absurd hs hunsent, fun _ _ _ _ _ => ⟨by rw [heq]; rfl, ?_, fun l hl => ?_, hdrive, hraises⟩,
        fun _ _ _ _ hn => absurd hrecord hn⟩
      · rw [State.lane_refreshDrive, hlane, if_pos rfl]
      · rw [State.lane_refreshDrive, hlane, if_neg hl]
    · rw [if_neg hrecord]
      obtain ⟨k, hk, hf⟩ := s.sendEvent_raises e false a (e.finding a .applied)
      dsimp only
      rw [hf]
      exact ⟨rfl, rfl, rfl, rfl, fun hd => absurd hd h, fun _ hs => absurd hs hunsent,
        fun _ _ _ _ hn => absurd hn hrecord, fun _ _ _ _ _ => ⟨rfl, rfl, hk⟩⟩
  · rw [State.evaluate_of_sent hnew (by rw [hset]; exact sent_iff_not_held.2 hheld), hset]
    exact ⟨rfl, rfl, rfl, rfl, fun hd => absurd hd h, fun _ _ => ⟨rfl, rfl, rfl⟩,
      fun _ ha hrel hmask => absurd ⟨ha, hrel, hmask⟩ hheld,
      fun _ ha hrel hmask => absurd ⟨ha, hrel, hmask⟩ hheld⟩

end Sys2Proof.Machine
end

section
/-! PROOFS. Capacities, counts and the window through every step (R64, R94, R96, R97, R101, R102, R115, R153, R154,
R157). -/

namespace Sys2Proof.Machine

/-- From `s` to `t` queues and counts stay within their bounds, and the window stays as R102 has it. -/
structure State.StaysWithin (s t : State) : Prop where
  bounds : s.WithinBounds → t.WithinBounds
  window : s.WindowSound → t.WindowSound

section
variable {s t u : State}

theorem State.StaysWithin.refl (s : State) : s.StaysWithin s :=
  ⟨id, id⟩

theorem State.StaysWithin.trans (h : s.StaysWithin t) (g : t.StaysWithin u) : s.StaysWithin u :=
  ⟨fun hb => g.bounds (h.bounds hb), fun hw => g.window (h.window hw)⟩

theorem State.WindowSound.of_eq (h : s.WindowSound) (hs : t.pu.windowStart = s.pu.windowStart)
    (he : t.pu.windowEnd = s.pu.windowEnd) (hp : t.pu.span = s.pu.span) : t.WindowSound := by
  obtain ⟨hbelow, hwidth, htop, hlow, hhigh⟩ := h
  constructor <;> simpa only [hs, he, hp]

/-- The merge queue has not grown; bus unit, findings and Pace Unit stay. -/
theorem State.StaysWithin.of_shorter (hq : t.mq.entries.length ≤ s.mq.entries.length) (hb : t.biu = s.biu)
    (hc : t.cku = s.cku) (hp : t.pu = s.pu) : s.StaysWithin t :=
  ⟨fun h => ⟨hq.trans h.entries, hb ▸ h.inbound, hb ▸ h.vetoes, hb ▸ h.failures, hc ▸ h.findings,
      hc ▸ h.lostFindings, hp ▸ h.paceTimer⟩,
    fun h => h.of_eq (by rw [hp]) (by rw [hp]) (by rw [hp])⟩

/-- Merge queue, bus unit, findings and Pace Unit stay. -/
theorem State.StaysWithin.of_eq (hq : t.mq.entries = s.mq.entries) (hb : t.biu = s.biu) (hc : t.cku = s.cku)
    (hp : t.pu = s.pu) : s.StaysWithin t :=
  .of_shorter (by rw [hq]) hb hc hp

theorem State.staysWithin_setLane (s : State) (l : Fin 16) (x : Lane) : s.StaysWithin (s.setLane l x) :=
  .of_eq rfl rfl rfl rfl

theorem State.staysWithin_mapLanes (s : State) (f : Lane → Lane) : s.StaysWithin (s.mapLanes f) :=
  .of_eq (by simp) (by simp) (by simp) (by simp)

/-! Queues that grow, each with room (R64, R94, R153, R154). -/

theorem State.staysWithin_insertEvent {s : State} (h : s.queueFull = false) (l : Fin 16) (e : HeldEvent) :
    s.StaysWithin (s.insertEvent l e) := by
  have room : s.mq.entries.length < 256 := not_le.1 (of_decide_eq_false h)
  refine ⟨fun hs => { hs with entries := ?_ }, fun hs => { hs with }⟩
  rw [State.insertEvent_mq_entries, length_insertEntry]
  exact room

theorem State.staysWithin_raiseFinding (s : State) (f : Finding) : s.StaysWithin (s.raiseFinding f) := by
  unfold State.raiseFinding
  split
  next room =>
    refine ⟨fun hs => { hs with findings := ?_ }, fun hs => { hs with }⟩
    rw [List.length_append, List.length_singleton]
    exact room
  next => exact ⟨fun hs => { hs with lostFindings := Nat.min_le_left _ _ }, fun hs => { hs with }⟩

/-- A lane changes, and its finding is raised (R31, R148). -/
theorem State.staysWithin_setAndRaise (s : State) (l : Fin 16) (x : Lane) (f : Finding) :
    s.StaysWithin ((s.setLane l x).raiseFinding f) :=
  (s.staysWithin_setLane l x).trans (State.staysWithin_raiseFinding _ f)

theorem State.staysWithin_pushInbound (s : State) (f : Frame) : s.StaysWithin (s.pushInbound f) := by
  unfold State.pushInbound
  split
  next => exact .refl s
  next hfull =>
    have room : s.biu.inbound.length < 16 := not_le.1 fun h => hfull (decide_eq_true h)
    refine ⟨fun hs => { hs with inbound := ?_ }, fun hs => { hs with }⟩
    rw [List.length_append, List.length_singleton]
    exact room

/-! The lanes' work on the merge queue (R31, R36 to R39, R71). -/

theorem State.staysWithin_retestLanes (s : State) : s.StaysWithin s.retestLanes := by
  refine State.retestLanes_induct (P := s.StaysWithin) (fun u l h => h.trans ?_) (.refl s)
  rcases u.retestLane_cases l with ⟨e, -, -, hu⟩ | ⟨e, -, hq, hu⟩ | ⟨-, hu⟩ <;> rw [hu]
  · exact u.staysWithin_setLane l _
  · exact State.staysWithin_insertEvent hq l e
  · exact u.staysWithin_setLane l _

theorem State.staysWithin_entryFreed (s : State) : s.StaysWithin s.entryFreed := by
  have resume : s.StaysWithin (s.mapLanes Lane.resume) := s.staysWithin_mapLanes _
  rcases (s.mapLanes Lane.resume).insertReleased_cases with h | ⟨l, e, -, -, hq, h⟩ <;> rw [State.entryFreed, h]
  · exact resume
  · exact resume.trans (State.staysWithin_insertEvent hq l e)

/-- An entry leaves the queue, and a STALLED lane's record may take its place (R38, R69). -/
theorem State.staysWithin_freeEntry (s : State) (k : EntryKey) : s.StaysWithin (s.removeEntry k).entryFreed :=
  State.StaysWithin.trans (t := s.removeEntry k) (.of_shorter (List.length_filter_le _ _) rfl rfl rfl)
    (State.staysWithin_entryFreed _)

theorem State.staysWithin_takeBadSlot (s : State) (l : Fin 16) (a : AnomalySet) :
    s.StaysWithin (s.takeBadSlot l a) := by
  unfold State.takeBadSlot
  dsimp only
  split
  · exact s.staysWithin_setLane l _
  all_goals split <;> exact s.staysWithin_setAndRaise l _ _

theorem State.staysWithin_takeMark (s : State) (l : Fin 16) (stamp : BitVec 48) (reference : Nat) :
    s.StaysWithin (s.takeMark l stamp reference) := by
  unfold State.takeMark
  dsimp only
  split
  · split
    · exact s.staysWithin_setLane l _
    all_goals split <;> exact s.staysWithin_setAndRaise l _ _
  · exact s.staysWithin_setLane l _

/-- An event is inserted where an entry is free, and waits in its lane otherwise (R36, R39). -/
theorem State.staysWithin_insertOrStall (s : State) (l : Fin 16) (e : HeldEvent) :
    s.StaysWithin (s.insertOrStall l e) := by
  unfold State.insertOrStall
  split
  next => exact s.staysWithin_setLane l _
  next hq =>
    have room : (s.setLane l (s.lane l).advance).queueFull = false := Bool.eq_false_iff.2 hq
    exact (s.staysWithin_setLane l _).trans (State.staysWithin_insertEvent room l e)

theorem State.staysWithin_referenceStage (s : State) (l : Fin 16) (e : HeldEvent) :
    s.StaysWithin (s.referenceStage l e) := by
  unfold State.referenceStage
  dsimp only
  split
  · split <;> exact s.staysWithin_setAndRaise l _ _
  · exact s.staysWithin_insertOrStall l e

theorem State.staysWithin_takeEvent (s : State) (l : Fin 16) (device : BitVec 16) (kind : EventKind)
    (stamp : BitVec 48) : s.StaysWithin (s.takeEvent l device kind stamp) := by
  have live : ∀ e, s.StaysWithin (s.takeEventLive l e) := fun e => by
    unfold State.takeEventLive
    dsimp only
    split
    · split
      · exact (s.staysWithin_raiseFinding _).trans (State.staysWithin_referenceStage _ l e)
      · exact s.staysWithin_setAndRaise l _ _
    · exact s.staysWithin_referenceStage l e
  unfold State.takeEvent
  dsimp only
  split
  · unfold State.takeEventSeeking
    split
    · exact s.staysWithin_setLane l _
    · exact s.staysWithin_referenceStage l _
  all_goals exact live _

theorem State.staysWithin_takeSlot (s : State) (l : Fin 16) (d : Slot) : s.StaysWithin (s.takeSlot l d) := by
  have set : ∀ x, s.StaysWithin (s.setLane l x) := s.staysWithin_setLane l
  unfold State.takeSlot
  dsimp only
  split
  · exact set _
  · exact s.staysWithin_takeBadSlot l _
  · exact s.staysWithin_takeBadSlot l _
  · exact set _
  · exact (set _).trans (State.staysWithin_takeMark _ l _ _)
  · split
    · exact set _
    · exact (set _).trans (State.staysWithin_takeEvent _ l _ _ _)

/-- A lane's slot is taken, and its visit goes on or ends (R26, R31). -/
theorem State.staysWithin_laneAnswer (s : State) (l : Fin 16) (d : Slot) :
    s.StaysWithin (((s.answerTaken l).takeSlot l d).continueVisit l) := by
  have slot : s.StaysWithin ((s.answerTaken l).takeSlot l d) :=
    State.StaysWithin.trans (t := s.answerTaken l) (.of_eq rfl rfl rfl rfl) (State.staysWithin_takeSlot _ l d)
  unfold State.continueVisit
  split <;> exact slot.trans (.of_eq rfl rfl rfl rfl)

/-- A trap ends, at fetch with its item passed or inserted, at winning with its entry marked or removed (R39, R71). -/
theorem State.staysWithin_releaseLane (s : State) (l : Fin 16) (action : ReleaseAction) :
    s.StaysWithin (s.releaseLane l action) := by
  have skip : s.StaysWithin (s.skipHeld l) := .of_eq rfl rfl rfl rfl
  unfold State.releaseLane
  split
  · unfold State.releaseFetch
    split
    · exact skip
    · split
      · exact .of_eq rfl rfl rfl rfl
      · split
        · exact (s.staysWithin_referenceStage l _).trans (State.staysWithin_setLane _ l _)
        · exact skip
      all_goals exact skip
  · have entry : ∀ k, s.StaysWithin (s.releaseEntry k action) := fun k => by
      unfold State.releaseEntry
      split
      · exact .of_shorter (List.length_map _).le rfl rfl rfl
      · split
        · exact s.staysWithin_freeEntry k
        · exact .refl s
    exact (entry _).trans (State.staysWithin_setLane _ l _)
  · exact .refl s

/-! The window (R101, R102, R111, R158). -/

/-- A window of the engine's span that begins on the study scale is as R102 has it. -/
theorem State.WindowSound.opens (h : s.WindowSound) {start : Nat} (hs : start ≤ Config.maxTime)
    (ht : t.pu.windowStart = start) (he : t.pu.windowEnd = min (start + s.pu.span) Config.noneTime)
    (hp : t.pu.span = s.pu.span) : t.WindowSound := by
  obtain ⟨-, -, -, hlow, hhigh⟩ := h
  simp only [Config.maxTime, Config.noneTime] at hs he
  constructor <;> omega

end

theorem seekArg_le (a : CommandBody) : seekArg a ≤ Config.maxTime :=
  Nat.min_le_right _ _

theorem rejoinTime_le {f : Frame} {time : Nat} (h : rejoinTime f = some time) : time ≤ Config.maxTime := by
  unfold rejoinTime at h
  split at h
  · split at h
    · cases h
      exact seekArg_le _
    · cases h
  all_goals cases h

/-- A seek completes with the pace timer at 0 (R115, R162). -/
theorem State.staysWithin_completeSeek (s : State) : s.StaysWithin s.completeSeek :=
  ⟨fun h => { h with paceTimer := Nat.zero_le _ }, fun h => { h with }⟩

theorem State.staysWithin_settle (s : State) : s.StaysWithin s.settle := by
  have drain : s.StaysWithin (State.drainFront 16 s) := .of_eq (by simp) (by simp) (by simp) (by simp)
  have seek : s.StaysWithin s.settleSeek := by
    rcases s.settleSeek_cases with h | ⟨-, -, h | h⟩ <;> rw [h]
    · exact .refl s
    · exact drain
    · exact drain.trans (State.staysWithin_completeSeek _)
  have cut : s.StaysWithin s.settleSeek.settleCut := seek.trans (.of_eq (by simp) (by simp) (by simp) (by simp))
  exact cut.trans ⟨fun h => { h with }, fun h => { h with }⟩

theorem State.StaysWithin.settle {s t : State} (h : s.StaysWithin t) : s.StaysWithin t.settle :=
  h.trans t.staysWithin_settle

theorem State.StaysWithin.refreshDrive {s t : State} (h : s.StaysWithin t) : s.StaysWithin t.refreshDrive :=
  h.trans ⟨fun h => { h with }, fun h => { h with }⟩

/-- The end of a checkpoint load sets lanes and device entries (R20, R21). -/
theorem State.staysWithin_loadSubs (s : State) (lanes : List LaneSub) (devices : List DeviceSub) :
    s.StaysWithin (s.loadSubs lanes devices) :=
  .of_eq (by simp) (by simp) (by simp) (by simp)

theorem State.staysWithin_degraded (s : State) : s.StaysWithin { s with rc.seekDegraded := true } :=
  .of_eq rfl rfl rfl rfl

theorem State.staysWithin_replayFromNominal (s : State) : s.StaysWithin s.replayFromNominal :=
  ((s.staysWithin_loadSubs [] []).trans (State.staysWithin_degraded _)).trans (State.staysWithin_retestLanes _)

theorem State.staysWithin_replayFromCheckpoint (s : State) (c : CheckpointLoad) :
    s.StaysWithin (s.replayFromCheckpoint c) := by
  refine (s.staysWithin_loadSubs c.lanes.reverse c.devices.reverse).trans ?_
  unfold State.replayFromCheckpoint
  generalize s.loadSubs c.lanes.reverse c.devices.reverse = u
  unfold State.decideSeek
  split
  · exact u.staysWithin_retestLanes.trans (State.staysWithin_completeSeek _)
  · exact u.staysWithin_degraded.trans (State.staysWithin_retestLanes _)

/-- A seek to a time on the study scale opens the window there (R156, R158). -/
theorem State.staysWithin_beginSeek (s : State) {time : Nat} (ht : time ≤ Config.maxTime) :
    s.StaysWithin (s.beginSeek time) := by
  have blocks : s.StaysWithin (s.seekBlocks time) :=
    ⟨fun h => { h with entries := Nat.zero_le _ }, fun h => h.opens ht rfl rfl rfl⟩
  refine blocks.trans ?_
  unfold State.beginSeek
  generalize s.seekBlocks time = u
  unfold State.beginLoad
  split
  · exact u.staysWithin_replayFromNominal
  · exact .of_eq rfl rfl rfl rfl

theorem State.staysWithin_checkpointAnswer (s : State) (c : CheckpointLoad) (d : Slot) :
    s.StaysWithin (s.checkpointAnswer c d) := by
  unfold State.checkpointAnswer
  split
  · exact State.StaysWithin.trans (t := s.dropRead) (.of_eq rfl rfl rfl rfl) (State.staysWithin_replayFromNominal _)
  · have set : s.StaysWithin (s.setFromSlot c d) := .of_eq (by simp) (by simp) (by simp) (by simp)
    refine set.trans ?_
    generalize s.setFromSlot c d = u
    unfold State.nextCheckpoint
    split
    · exact .of_eq rfl rfl rfl rfl
    · exact State.StaysWithin.trans (t := u.dropRead) (.of_eq rfl rfl rfl rfl)
        (State.staysWithin_replayFromCheckpoint _ _)

/-- A CUT moves the window end to a place strictly inside the window (R76). -/
theorem State.staysWithin_takeCut (s : State) (f : Frame) : s.StaysWithin (s.takeCut f) := by
  have adopt : s.StaysWithin (s.adoptCut f.key.toNat) := by
    unfold State.adoptCut
    split
    next h =>
      simp only [Bool.and_eq_true, decide_eq_true_eq] at h
      obtain ⟨⟨-, hstart⟩, hend⟩ := h
      refine State.StaysWithin.trans (t := { s with pu.windowEnd := f.key.toNat }) ⟨fun h => { h with }, fun h => ?_⟩
        (State.staysWithin_retestLanes _)
      exact { h with startBelowEnd := hstart, width := hend.le.trans h.width, top := hend.le.trans h.top }
    next => exact .refl s
  have own : s.StaysWithin (s.adoptOwnCut f.key.toNat) := adopt.trans (.of_eq rfl rfl rfl rfl)
  unfold State.takeCut
  split
  · split
    · unfold State.takeOwnCut
      split
      · exact own
      · exact own.trans (State.staysWithin_raiseFinding _ _)
    · exact adopt
  all_goals exact adopt

/-- The close of an epoch opens the next window where the last ended or later, on the study scale (R102, R111). -/
theorem State.staysWithin_closeEpoch (s : State) (n : Nat) : s.StaysWithin (s.closeEpoch n) := by
  rw [State.closeEpoch_eq]
  refine State.StaysWithin.trans (t := s.epochClosed n) ⟨fun h => ?_, fun h => ?_⟩ (State.staysWithin_retestLanes _)
  · exact { h with paceTimer := Nat.zero_le _ }
  · exact h.opens (Nat.min_le_right _ _) rfl rfl rfl

theorem epochArg_mem (a : CommandBody) : Config.minSpan ≤ epochArg a ∧ epochArg a ≤ Config.maxSpan := by
  simp only [epochArg, Config.minSpan, Config.maxSpan]
  omega

/-! Modes that give up queues and counts (R6, R41, R94, R98). -/

theorem State.staysWithin_enterFaulted (s : State) (cause : FaultCause) : s.StaysWithin (s.enterFaulted cause) :=
  ⟨fun h => { h with entries := Nat.zero_le _, inbound := Nat.zero_le _, findings := Nat.zero_le _ },
    fun h => { h with }⟩

/-- A withdrawal clears the inbound queue and both counts, whatever they were (R98). -/
theorem State.staysWithin_withdraw {s t : State} (hq : t.mq = s.mq) (hc : t.cku = s.cku) (hp : t.pu = s.pu) :
    s.StaysWithin t.withdraw :=
  ⟨fun h =>
      { entries := by simpa [hq] using h.entries, inbound := by simp, vetoes := by simp, failures := by simp
        findings := by simpa [hc] using h.findings, lostFindings := by simpa [hc] using h.lostFindings
        paceTimer := by simpa [hp] using h.paceTimer },
    fun h => h.of_eq (by simp [hp]) (by simp [hp]) (by simp [hp])⟩

theorem State.staysWithin_haltBlocks (s : State) : s.StaysWithin s.haltBlocks :=
  ⟨fun h =>
      { entries := by simp, inbound := by simpa using h.inbound, vetoes := by simpa using h.vetoes
        failures := by simpa using h.failures, findings := by simpa using h.findings
        lostFindings := by simpa using h.lostFindings, paceTimer := by simpa using h.paceTimer },
    fun h => h.of_eq (by simp) (by simp) (by simp)⟩

theorem State.staysWithin_finishLoad (s : State) (p : LoadProgress) : s.StaysWithin (s.finishLoad p) :=
  ⟨fun h => { h with entries := Nat.zero_le _ }, fun h => h.of_eq (by simp) (by simp) (by simp)⟩

/-- The start-up load reads on, faults, or ends with an empty queue (R6, R23). -/
theorem State.staysWithin_loadAnswer (s : State) (p : LoadProgress) (d : Slot) : s.StaysWithin (s.loadAnswer p d) := by
  obtain ⟨b, hcases⟩ := s.loadAnswer_cases p d
  have warn : s.StaysWithin (s.warnIf b) := .of_eq rfl rfl rfl rfl
  generalize s.warnIf b = u at hcases warn
  refine warn.trans ?_
  obtain ⟨c, h⟩ | ⟨q, stage, slot, h⟩ | ⟨q, h⟩ := hcases <;> rw [h]
  · exact u.staysWithin_enterFaulted c
  · exact .of_eq rfl rfl rfl rfl
  · exact u.staysWithin_finishLoad q

theorem State.staysWithin_readFailed (s : State) (owner : ReadOwner) : s.StaysWithin (s.readFailed owner) := by
  unfold State.readFailed
  split
  · exact s.staysWithin_enterFaulted _
  next l =>
    exact State.StaysWithin.trans (t := (s.setLane l { s.lane l with state := .lost }).dropRead)
      (.of_eq rfl rfl rfl rfl) ((State.staysWithin_raiseFinding _ _).trans (.of_eq rfl rfl rfl rfl))
  · exact State.StaysWithin.trans (t := s.dropRead) (.of_eq rfl rfl rfl rfl) (State.staysWithin_replayFromNominal _)

/-! The bus unit's counts (R96, R97). -/

theorem State.staysWithin_busIdle (s : State) : s.StaysWithin s.busIdle :=
  ⟨fun h => { h with }, fun h => { h with }⟩

/-- The failure count saturates at its limit (R97). -/
theorem State.staysWithin_failAttempt (s : State) : s.StaysWithin s.failAttempt := by
  have count : s.StaysWithin s.countFailure := ⟨fun h => { h with failures := Nat.min_le_left _ _ }, fun h => { h with }⟩
  unfold State.failAttempt
  split
  · exact count
  · split
    iterate 5 exact State.staysWithin_withdraw rfl rfl rfl
    · exact count.trans (.of_eq rfl rfl rfl rfl)
    all_goals exact count

/-- The veto count rises while it stays below its limit; the veto that would reach it withdraws the engine (R96). -/
theorem State.staysWithin_countVeto (s : State) (drove : Bool) : s.StaysWithin (s.countVeto drove) := by
  unfold State.countVeto
  split
  · split
    · split
      · exact State.staysWithin_withdraw rfl rfl rfl
      next hv => exact ⟨fun h => { h with vetoes := (not_le.1 hv).le }, fun h => { h with }⟩
    · exact ⟨fun h => { h with vetoes := Nat.zero_le _ }, fun h => { h with }⟩
  · exact .refl s

theorem State.staysWithin_heardVetoed (s : State) (h : HeardFrame) : s.StaysWithin (s.heardVetoed h) := by
  unfold State.heardVetoed
  split
  · exact s.staysWithin_busIdle
  · exact s.staysWithin_busIdle.trans (State.staysWithin_countVeto _ _)

theorem State.staysWithin_queueAccepted (s : State) (f : Frame) : s.StaysWithin (s.queueAccepted f) := by
  unfold State.queueAccepted
  split
  iterate 5 exact s.staysWithin_pushInbound f
  · split
    next time ht =>
      exact State.StaysWithin.trans (t := { s with biu.vetoCount := 0, biu.failureCount := 0 })
        ⟨fun h => { h with vetoes := Nat.zero_le _, failures := Nat.zero_le _ }, fun h => { h with }⟩
        (State.staysWithin_beginSeek _ (rejoinTime_le ht))
    next => exact .refl s
  all_goals exact .refl s

theorem State.staysWithin_heardAccepted (s : State) (h : HeardFrame) : s.StaysWithin (s.heardAccepted h) := by
  have vetoed : ∀ drove, s.StaysWithin (s.busIdle.countVeto drove) := fun drove =>
    s.staysWithin_busIdle.trans (State.staysWithin_countVeto _ drove)
  unfold State.heardAccepted
  split
  · exact s.staysWithin_busIdle
  · split
    · exact vetoed true
    · refine (vetoed false).trans ?_
      unfold State.receiveAccepted
      split
      · exact .refl _
      · split
        · exact State.staysWithin_enterFaulted _ _
        · exact State.staysWithin_queueAccepted _ _

/-- The engine's own frame settles its offer, and joins the inbound queue where there is room (R69, R92, R153). -/
theorem State.staysWithin_ownAccepted (s : State) (o : Outbound) : s.StaysWithin (s.ownAccepted o) := by
  have settled : s.StaysWithin (s.ownSettled o) := by
    refine State.StaysWithin.trans (t := { s.busIdle with biu.failureCount := 0 })
      ⟨fun h => { h with failures := Nat.zero_le _ }, fun h => { h with }⟩ ?_
    unfold State.ownSettled State.settleOffer
    split
    · split
      · exact .refl _
      · split
        · exact State.staysWithin_freeEntry _ _
        · exact .refl _
    · exact ⟨fun h => { h with findings := List.length_tail.le.trans ((Nat.sub_le _ _).trans h.findings) },
        fun h => { h with }⟩
    all_goals exact .of_eq rfl rfl rfl rfl
  unfold State.ownAccepted
  split
  · exact settled.trans (State.staysWithin_pushInbound _ _)
  · exact settled

/-! The phase, the mode, and the end of a stretch (R89, R107, R108, R113, R147). -/

theorem State.staysWithin_suspendOn (s : State) (level : Level) : s.StaysWithin (s.suspendOn level) := by
  unfold State.suspendOn
  split
  · exact .refl s
  · split
    · exact ⟨fun h => { h with }, fun h => { h with }⟩
    · exact .refl s

theorem State.staysWithin_enterEmit (s : State) : s.StaysWithin s.enterEmit :=
  ⟨fun h => { h with }, fun h => { h with }⟩

theorem State.staysWithin_readAtOpen (s : State) (line : Level) : s.StaysWithin (s.readAtOpen line) := by
  unfold State.readAtOpen
  split
  · split
    · exact s.staysWithin_enterEmit
    all_goals exact ⟨fun h => { h with }, fun h => { h with }⟩
  · exact .refl s

theorem State.staysWithin_beginAttempt (s : State) : s.StaysWithin s.beginAttempt := by
  obtain ⟨b, o, x, h, -⟩ := s.beginAttempt_eq
  rw [h]
  exact ⟨fun h => { h with }, fun h => { h with }⟩

theorem State.staysWithin_trapAtWinning (s : State) (e : Entry) (a : AnomalySet) :
    s.StaysWithin (s.trapAtWinning e a) := by
  have trap : s.StaysWithin ((s.trapLane e.lane e.key).abandonVisit e.lane) := by
    unfold State.abandonVisit
    split <;> exact .of_eq rfl rfl rfl rfl
  exact (trap.trans (State.staysWithin_raiseFinding _ _)).trans (State.staysWithin_busIdle _)

theorem State.staysWithin_endStretch (s : State) (o : Outbound) (line : Level) :
    s.StaysWithin (s.endStretch o line) := by
  have send : ∀ e d a, s.StaysWithin (s.sendEvent e d a) := fun _ _ _ => ⟨fun h => { h with }, fun h => { h with }⟩
  unfold State.endStretch
  split
  · unfold State.actOnWin
    split
    · exact send _ _ _
    · exact (send _ _ _).trans (State.staysWithin_raiseFinding _ _)
    · exact s.staysWithin_trapAtWinning _ _
  · exact (s.staysWithin_suspendOn _).trans (State.staysWithin_busIdle _)

/-- RUN, PAUSE and STEP act on mode, budget and pause alone (R113, R114). -/
theorem State.staysWithin_modeCommands (s : State) (n : Nat) :
    s.StaysWithin s.doRun ∧ s.StaysWithin s.doPause ∧ s.StaysWithin (s.doStep n) := by
  refine ⟨?_, ?_, ?_⟩
  · unfold State.doRun
    split <;> exact ⟨fun h => { h with }, fun h => { h with }⟩
  · unfold State.doPause
    split
    next => exact .of_eq rfl rfl rfl rfl
    next => split <;> exact ⟨fun h => { h with }, fun h => { h with }⟩
    all_goals exact .refl s
  · unfold State.doStep
    split <;> exact ⟨fun h => { h with }, fun h => { h with }⟩

/-! Every command. -/

theorem State.Effect.staysWithin {s t : State} (e : s.Effect t) : s.StaysWithin t := by
  have pop : s.StaysWithin s.popInbound :=
    ⟨fun h => { h with inbound := List.length_tail.le.trans ((Nat.sub_le _ _).trans h.inbound) }, fun h => { h with }⟩
  cases e with
  | words => exact .of_eq rfl rfl rfl rfl
  | loadAnswer n r p d _ _ => exact (s.staysWithin_loadAnswer p d).refreshDrive
  | retry => exact .of_eq rfl rfl rfl rfl
  | readFailed r _ => exact (s.staysWithin_readFailed r.owner).settle
  | visit l _ _ _ => exact .of_eq rfl rfl rfl rfl
  | laneAnswer l n r d _ => exact (s.staysWithin_laneAnswer l d).settle
  | checkpointAnswer n r c d _ _ => exact (s.staysWithin_checkpointAnswer c d).settle
  | bus => exact ⟨fun h => { h with }, fun h => { h with }⟩
  | opened line => exact ((s.staysWithin_readAtOpen line).trans (State.staysWithin_beginAttempt _)).refreshDrive
  | stretchEnds o line _ => exact (s.staysWithin_endStretch o line).refreshDrive
  | attemptFails => exact (s.staysWithin_busIdle.trans (State.staysWithin_failAttempt _)).refreshDrive
  | ownAccepted o _ => exact (s.staysWithin_ownAccepted o).settle
  | heardAccepted h => exact (s.staysWithin_heardAccepted h).settle
  | heardVetoed h => exact (s.staysWithin_heardVetoed h).refreshDrive
  | dropped => exact pop
  | cut f _ _ => exact (pop.trans (State.staysWithin_takeCut _ f)).settle
  | event => exact pop.trans (.of_eq rfl rfl rfl rfl)
  | historyEnds =>
    exact (pop.trans (t := s.popInbound) (u := s.popInbound.endHistory)
      ⟨fun h => { h with }, fun h => { h with }⟩).settle
  | epochCloses f _ _ _ => exact (pop.trans (State.staysWithin_closeEpoch _ _)).settle
  | nextIgnored => exact pop.refreshDrive
  | closePulseEnds => exact ⟨fun h => { h with }, fun h => { h with }⟩
  | timerSet n hn =>
    exact ⟨fun h => { h with paceTimer := hn.trans (max_le h.paceTimer le_rfl) }, fun h => { h with }⟩
  | rises =>
    refine State.StaysWithin.refreshDrive ?_
    unfold State.rise
    split
    · exact s.staysWithin_enterEmit
    · exact .refl s
  | suspends => exact (s.staysWithin_suspendOn _).refreshDrive
  | timebase b =>
    exact State.StaysWithin.trans (t := { s with pu.timebase := b }) ⟨fun h => { h with }, fun h => { h with }⟩
      (.of_eq (by simp) (by simp) (by simp) (by simp))
  | run => exact (pop.trans (s.popInbound.staysWithin_modeCommands 0).1).refreshDrive
  | pause => exact (pop.trans (s.popInbound.staysWithin_modeCommands 0).2.1).refreshDrive
  | step f a _ => exact (pop.trans (s.popInbound.staysWithin_modeCommands (stepArg a)).2.2).refreshDrive
  | seek f a _ => exact (pop.trans (State.staysWithin_beginSeek _ (seekArg_le a))).settle
  | halt => exact (pop.trans (State.staysWithin_haltBlocks _)).refreshDrive
  | epoch f a _ _ =>
    obtain ⟨hlow, hhigh⟩ := epochArg_mem a
    exact pop.trans ⟨fun h => { h with }, fun h => { h with spanLow := hlow, spanHigh := hhigh }⟩
  | rate => exact State.StaysWithin.refreshDrive (pop.trans ⟨fun h => { h with }, fun h => { h with }⟩)
  | release f l action _ _ => exact (pop.trans (State.staysWithin_releaseLane _ l action)).settle
  | query => exact pop.trans (.of_eq rfl rfl rfl rfl)
  | poll => exact pop.trans (.of_eq (by simp) (by simp) (by simp) (by simp))

/-- A reset empties the queues, sets the counts to 0, and opens the window of the reset span at 0 (R3, R101). -/
theorem State.reset_bounded (s : State) (cause : StartCause) :
    (s.resetWith cause).WithinBounds ∧ (s.resetWith cause).WindowSound := by
  constructor <;> constructor <;> simp [State.resetWith, State.reset, Config.resetSpan]

/-- Settles O54: every effect stays within the bounds, and a reset begins there. -/
theorem stepKeepsTheBoundsAndTheWindow : Obligations.StepKeepsTheBoundsAndTheWindow := by
  intro s t hb hw hst
  exact step_keeps (Q := fun s => s.WithinBounds ∧ s.WindowSound) (P := fun _ t => t.WithinBounds ∧ t.WindowSound) hst
    ⟨hb, hw⟩ (queue := fun _ ⟨hb, hw⟩ => ⟨{ hb with }, { hw with }⟩) (back := fun _ h => h) (same := fun _ h => h)
    (effect := fun _ _ ⟨hb, hw⟩ _ e => ⟨e.staysWithin.bounds hb, e.staysWithin.window hw⟩)
    (reset := fun s cause _ => s.reset_bounded cause)
    (resetEnd := fun _ _ _ ⟨hb, hw⟩ _ => ⟨{ hb with }, { hw with }⟩)

end Sys2Proof.Machine
end

section
/-! PROOFS. The offers outside EMIT: what the bodies of STATUS, FINDING and STATE frames carry, and the order of the
offers (R75, R84, R87, R91, R131, R133, R152, R153, R167, R168, Table 11-6). -/

namespace Sys2Proof.Machine

/-! The codes that a body spells (Tables 11-2, 11-5 and 11-6, section 11.4). -/

theorem Mode.spelled (mode : Mode) :
    [Mode.loading, .faulted, .standby, .seeking, .paused, .running, .ended, .withdrawn][
      (BitVec.ofNat 3 mode.code).toNat]? = some mode := by
  cases mode <;> rfl

theorem StartCause.spelled (cause : StartCause) :
    [StartCause.powerOn, .pin][(BitVec.ofNat 1 cause.code).toNat]? = some cause := by
  cases cause <;> rfl

theorem FaultCause.spelled (cause : FaultCause) :
    [FaultCause.none, .badFormat, .badLaneCount, .badLaneEntry, .badRegion, .regionOverlap, .badDeviceList, .badRange,
      .badDirectory, .archiveTimeout, .duplicateNumber][(BitVec.ofNat 4 cause.code).toNat]? = some cause := by
  cases cause <;> rfl

theorem Timebase.spelled (timebase : Timebase) :
    [Timebase.reference, .internal][(BitVec.ofNat 1 timebase.code).toNat]? = some timebase := by
  cases timebase <;> rfl

theorem Disposition.spelled (disposition : Disposition) :
    [Disposition.heldForRelease, .skipped, .applied, .laneLost, .forcedCut][
      (BitVec.ofNat 3 disposition.code).toNat]? = some disposition := by
  cases disposition <;> rfl

theorem Role.spelled (role : Role) : [Role.owned, .watched][(BitVec.ofNat 1 role.code).toNat]? = some role := by
  cases role <;> rfl

theorem DeviceClass.spelled (cls : DeviceClass) :
    [DeviceClass.breaker, .disconnector, .switch][(BitVec.ofNat 2 cls.code).toNat]? = some cls := by
  cases cls <;> rfl

theorem Position.spelled (position : Position) :
    [Position.opened, .closed, .travel, .unknown][(BitVec.ofNat 2 position.code).toNat]? = some position := by
  cases position <;> rfl

/-- A lane's number fits any field of four bits or more. -/
theorem toNat_ofNat_lane {w : Nat} (hw : 4 ≤ w) (l : Fin 16) : (BitVec.ofNat w l.val).toNat = l.val := by
  rw [BitVec.toNat_ofNat, Nat.mod_eq_of_lt (l.isLt.trans_le (Nat.pow_le_pow_right (n := 2) (by decide) hw))]

/-! Sets as bits. -/

/-- The bits of two fields sent one behind the other, most significant first. -/
theorem map_getMsbD_append {n m : Nat} (x : BitVec n) (y : BitVec m) :
    (List.range (n + m)).map (x ++ y).getMsbD = (List.range n).map x.getMsbD ++ (List.range m).map y.getMsbD := by
  rw [List.range_add, List.map_append, List.map_map]
  congr 1 <;> refine List.map_congr_left fun i hi => ?_
  · rw [BitVec.getMsbD_append, if_neg (not_le.2 (List.mem_range.1 hi))]
  · simp [BitVec.getMsbD_append]

/-- The twelve bits of an anomaly set, in the order of a FINDING. -/
theorem AnomalySet.bits_getMsbD (a : AnomalySet) : (List.range 12).map a.bits.getMsbD =
    [a.damaged, a.undecodable, a.regression, a.clockStep, a.unknownDevice, a.outOfRange, a.redundant, a.lockoutClose,
      a.noPickup, a.overtime, a.held, a.gapBefore] := by
  have hbit : ∀ b, (List.range 1).map (BitVec.ofBool b).getMsbD = [b] := by decide
  rw [AnomalySet.bits]
  iterate 6 rw [map_getMsbD_append (n := _) (m := _)]
  rw [AnomalySet.group4Bits_getMsbD]
  simp only [hbit, List.cons_append, List.nil_append]

/-- Bit l of a set of lanes says whether lane l has the property (Table 9-4). -/
theorem State.getLsbD_laneSet (s : State) (p : Lane → Bool) (l : Fin 16) :
    (s.laneSet p).getLsbD l.val = true ↔ p (s.lane l) = true := by
  have fold : ∀ (ls : List (Fin 16)) (acc : BitVec 16),
      (ls.foldl (fun acc k => if p (s.lane k) then acc ||| (1#16 <<< k.val) else acc) acc).getLsbD l.val = true ↔
        acc.getLsbD l.val = true ∨ l ∈ ls ∧ p (s.lane l) = true := by
    intro ls
    induction ls with
    | nil => simp
    | cons k ls ih =>
      intro acc
      have hbit : (1#16 <<< k.val).getLsbD l.val = true ↔ l = k := by
        rw [← BitVec.twoPow_eq, BitVec.getLsbD_twoPow, Fin.ext_iff, eq_comm (a := l.val)]
        simp
      rw [List.foldl_cons, ih, List.mem_cons]
      by_cases hk : p (s.lane k) = true
      · rw [if_pos hk, BitVec.getLsbD_or, Bool.or_eq_true, hbit]
        have : l = k → p (s.lane l) = true := fun h => h ▸ hk
        tauto
      · rw [if_neg hk]
        have : l = k → ¬p (s.lane l) = true := fun h => h ▸ hk
        tauto
  rw [State.laneSet, fold]
  simp

/-- Bit l of the set of lanes in a state. -/
theorem State.getLsbD_laneSet_state (s : State) (state : LaneState) (l : Fin 16) :
    (s.laneSet fun x => x.state == state).getLsbD l.val = true ↔ (s.lane l).state = state := by
  rw [State.getLsbD_laneSet, beq_iff_eq]

/-! What a STATE body says of a device's last event (Table 11-6). -/

theorem Source.spelled (source : Source) :
    match source with
    | .lane l => source.form = 0#1 ∧ source.number.toNat = l.val
    | .station n => source.form = 1#1 ∧ source.number = n := by
  cases source with
  | lane l => exact ⟨rfl, toNat_ofNat_lane (by decide) l⟩
  | station n => exact ⟨rfl, rfl⟩

/-! The order of the offers (R84, R87, Table 5-4). -/

section
variable {s : State}

/-- The engine's offer as an attempt makes it: none without room for a frame (R91). -/
def State.attempt (s : State) : Option Outbound :=
  if s.inboundFull then none else s.offer

theorem State.attempt_of_full (h : 16 ≤ s.biu.inbound.length) : s.attempt = none :=
  if_pos (decide_eq_true h)

theorem State.attempt_of_room (h : s.biu.inbound.length < 16) : s.attempt = s.offer :=
  if_neg fun hfull => not_le.2 h (of_decide_eq_true hfull)

/-- The engine contends with what it attempts, and receives without. -/
theorem State.beginAttempt_attempts (s : State) : s.beginAttempt = { s with
    biu := { s.biu with
      state := if s.attempt = none then .receiving else .contending
      outbound := s.attempt, fullAtOpen := decide (16 ≤ s.biu.inbound.length), discarding := false } } := by
  rw [State.beginAttempt, ← State.attempt]
  cases s.attempt <;> rfl

/-- Outside EMIT, with the line dominant where the engine replays, the open condition changes nothing (R87, R107). -/
theorem State.readAtOpen_of_quiet {line : Level} (h : s.rc.mode.replaying = true →
    s.pu.phase ≠ .emit ∧ (line = .dominant ∨ s.pu.drive = .dominant)) : s.readAtOpen line = s := by
  by_cases hm : s.rc.mode.replaying = true
  · obtain ⟨hp, hl⟩ := h hm
    have hread : s.readBhl line = .dominant := by
      unfold State.readBhl
      cases hd : s.pu.drive with
      | dominant => rfl
      | released => exact hl.resolve_right (by rw [hd]; nofun)
    have hphase : { s with pu.phase := s.pu.phase } = s := rfl
    rw [State.readAtOpen, if_pos hm, hread]
    cases he : s.pu.phase with
    | emit => exact absurd he hp
    | gather | suspended => rw [he] at hphase; exact hphase
  · rw [State.readAtOpen, if_neg hm]

/-- A PENDING cut comes first in GATHER (R75). -/
theorem State.offer_of_pending {c : Nat} {forced : Option (Fin 16)}
    (hm : s.rc.mode = .paused ∨ s.rc.mode = .running) (hp : s.pu.phase = .gather)
    (hc : s.mq.cut = .pending c forced) : s.offer = some
      { frame := { key := BitVec.ofNat 40 c, station := s.straps.station, body := .cut }, entry := none } := by
  rcases hm with hm | hm <;> simp [State.offer, hm, hp, State.cutOffer, hc]

/-- Without a cut to offer the engine offers what it has to report (R84). -/
theorem State.offer_of_report (hp : s.rc.mode = .paused ∨ s.rc.mode = .running → s.pu.phase ≠ .emit)
    (h : s.rc.mode = .standby ∨ s.rc.mode = .seeking ∨ s.rc.mode = .ended ∨
      (s.rc.mode = .paused ∨ s.rc.mode = .running) ∧
        (s.pu.phase = .suspended ∨ ∀ c forced, s.mq.cut ≠ .pending c forced)) : s.offer = s.reportOffer := by
  rcases h with hm | hm | hm | ⟨hm, h⟩
  iterate 3 rw [State.offer, hm]
  cases he : s.pu.phase with
  | emit => exact absurd he (hp hm)
  | suspended => rcases hm with hm | hm <;> simp only [State.offer, hm, he]
  | gather =>
    have hcut : s.cutOffer = none := by
      unfold State.cutOffer
      split
      next c forced hc => exact absurd hc (h.resolve_left (by rw [he]; nofun) c forced)
      all_goals rfl
    rcases hm with hm | hm <;> simp [State.offer, hm, he, hcut]

theorem State.offer_of_statusAlone (hm : s.rc.mode = .withdrawn ∨ s.rc.mode = .faulted) :
    s.offer = s.statusOffer := by
  rcases hm with hm | hm <;> rw [State.offer, hm]

theorem State.reportOffer_of_finding {f : Finding} {rest : List Finding} (h : s.cku.findings = f :: rest) :
    s.reportOffer = some { frame := f.frame s.straps.station, entry := none } := by
  simp [State.reportOffer, State.findingOffer, h]

theorem State.reportOffer_of_reply {n : BitVec 16} {rest : List (BitVec 16)} {d : Device} (hf : s.cku.findings = [])
    (hn : s.dst.replies = n :: rest) (hd : s.dst.find n = some d) :
    s.reportOffer = some { frame := d.frame s.straps.station, entry := none } := by
  simp [State.reportOffer, State.findingOffer, State.stateOffer, hf, hn, hd]

theorem State.reportOffer_of_neither (hf : s.cku.findings = []) (hn : s.dst.replies = []) :
    s.reportOffer = s.statusOffer := by
  simp [State.reportOffer, State.findingOffer, State.stateOffer, hf, hn]

end

/-- Settles O29: the bodies field by field, then the attempt of a line that stays as it is. -/
theorem openConditionOffersInTheOrderOfTheBus : Obligations.OpenConditionOffersInTheOrderOfTheBus := by
  refine ⟨fun s => ?status, fun own f => ?finding, fun own d => ?state, fun line s hr hidle hquiet => ?offer⟩
  case status =>
    exact ⟨s.statusBody, rfl, s.rc.mode.spelled, s.rc.startCause.spelled, s.rc.faultCause.spelled,
      s.pu.timebase.spelled, rfl, fun l => ⟨s.getLsbD_laneSet_state .trapped l, s.getLsbD_laneSet_state .ended l,
        s.getLsbD_laneSet_state .lost l⟩, rfl, rfl, rfl⟩
  case finding =>
    refine ⟨_, rfl, toNat_ofNat_lane le_rfl f.lane, rfl, f.anomalies.bits_getMsbD, f.disposition.spelled, ?_, rfl⟩
    cases f.device <;> exact ⟨rfl, rfl⟩
  case state =>
    refine ⟨d.body, rfl, d.role.spelled, d.cls.spelled, rfl, d.position.spelled, rfl, rfl, ?_, ?_, ?_, rfl, rfl⟩ <;>
      rw [Device.body]
    · cases d.travelStart <;> exact ⟨rfl, rfl⟩
    · cases d.lastChange <;> exact ⟨rfl, rfl⟩
    · cases d.lastEvent with
      | none => exact ⟨rfl, rfl, rfl, rfl, rfl⟩
      | some e => exact ⟨rfl, e.kind.spelled.1, e.kind.spelled.2, rfl, e.source.spelled⟩
  case offer =>
    have hread : s.readAtOpen line = s := State.readAtOpen_of_quiet fun hm => hquiet (Mode.replaying_iff.1 hm)
    refine ⟨_, s.attempt, State.exec_openCondition hr hidle line, ?_, ?_, fun hroom hm => ?_,
      fun hroom hm hp c forced hc => ?_, fun hroom hm => ?_⟩
    · rw [hread, State.beginAttempt_attempts]
      rfl
    · rintro (hfull | hm)
      · exact State.attempt_of_full hfull
      · rw [State.attempt, State.offer, hm, ite_self]
    · rw [State.attempt_of_room hroom, State.offer_of_statusAlone hm, State.statusOffer]
    · rw [State.attempt_of_room hroom, State.offer_of_pending hm hp hc]
    · rw [State.attempt_of_room hroom, State.offer_of_report (fun h => (hquiet h).1) hm]
      exact ⟨fun f rest => State.reportOffer_of_finding, fun n rest d => State.reportOffer_of_reply,
        State.reportOffer_of_neither⟩

end Sys2Proof.Machine
end

section
/-! PROOFS. The machine's queue, joining and arbitration, and the frames that end unaccepted (R79, R80, R82, R83, R85,
R88, R95). -/

namespace Sys2Proof.Machine

/-- Settles O1: `step` on a queue that is not empty. -/
theorem stepRunsTheFrontCommand : Obligations.StepRunsTheFrontCommand := by
  intro c rest s h
  rw [step, h]

/-! Joining and unaccepted frames (R79, R80, R82). -/

theorem State.endJoin_of_joining {s : State} (h : s.biu.state = .joining) :
    s.endJoin = { s with biu.state := .idle } := by
  rw [State.endJoin, h]

/-- The commands in which a receiver hears its frame end unaccepted. -/
theorem State.exec_endsUnaccepted {s : State} {c : Instr} (hr : s.inReset = false) (hs : s.biu.state = .receiving)
    (hc : c = .abortConditionHeard ∨ c = .busAbandonTimeout ∨ c = .unacceptedFrameClose) :
    exec c s = .next s.busIdle := by
  rcases hc with rfl | rfl | rfl
  · simp only [exec, execAbortConditionHeard, State.whenLive_live hr, hs]
  · simp only [exec, execBusAbandonTimeout, State.whenLive_live hr, hs]
  · simp only [exec, execUnacceptedFrameClose, State.whenLive_live hr, hs]

/-- Settles O27: the join's end, and the bus at the end of a frame. -/
theorem joinAndUnacceptedFramesEndInIdle : Obligations.JoinAndUnacceptedFramesEndInIdle := by
  refine fun s hr => ⟨fun hs => ?join, fun hs => ?frame⟩
  case join =>
    have hjoin := State.endJoin_of_joining hs
    constructor
    · rw [exec, execJoinOnClose, State.whenLive_live hr, hjoin]
    · rw [exec, execJoinIdleExpiry, State.whenLive_live hr, hjoin]
  case frame =>
    exact ⟨State.exec_endsUnaccepted hr hs (.inl rfl), State.exec_endsUnaccepted hr hs (.inr (.inl rfl)),
      State.exec_endsUnaccepted hr hs (.inr (.inr rfl))⟩

/-! Arbitration (R82, R83, R85, R88). -/

theorem isEventFrame_iff {f : Frame} : isEventFrame f = true ↔ f.body.classCode = 2#3 := by
  unfold isEventFrame
  cases f.body <;> simp [Body.classCode]

/-- The winner's field is above none of the others (R85). -/
theorem wins_iff {own : ArbField} {others : Option ArbField} :
    wins own others = true ↔ ∀ a, others = some a → own.value ≤ a.value := by
  cases others <;> simp [wins]

/-- The invalid class is class 7 (R83). -/
theorem invalidField_iff {others : Option ArbField} :
    invalidField others = true ↔ ∃ a, others = some a ∧ a.cls = 7#3 := by
  cases others <;> simp [invalidField]

/-- Fields compare by class, then key, then station (R82). -/
theorem ArbField.value_lt_iff {a b : ArbField} : a.value < b.value ↔
    a.cls < b.cls ∨ (a.cls = b.cls ∧ (a.key < b.key ∨ (a.key = b.key ∧ a.station < b.station))) := by
  have hkey : a.key.toNat < 2 ^ 40 ∧ b.key.toNat < 2 ^ 40 := ⟨a.key.isLt, b.key.isLt⟩
  have hstation : a.station.toNat < 2 ^ 5 ∧ b.station.toNat < 2 ^ 5 := ⟨a.station.isLt, b.station.isLt⟩
  simp only [ArbField.value, BitVec.lt_def, BitVec.toNat_eq]
  omega

section
variable {s : State} {o : Outbound} {others : Option ArbField}

theorem State.exec_arbitration_won (hr : s.inReset = false) (hs : s.biu.state = .contending)
    (ho : s.biu.outbound = some o) (h : wins o.frame.arbitration others = true) :
    exec (.arbitrationComplete others) s = .next { s with
      biu.state := if isEventFrame o.frame then .stretching else .sending } := by
  simp only [exec, execArbitrationComplete, State.whenLive_live hr, hs, ho, h, if_true]

theorem State.exec_arbitration_lost (hr : s.inReset = false) (hs : s.biu.state = .contending)
    (ho : s.biu.outbound = some o) (h : wins o.frame.arbitration others = false) :
    exec (.arbitrationComplete others) s = .next { s with
      biu.state := .receiving, biu.outbound := none, biu.discarding := invalidField others } := by
  simp only [exec, execArbitrationComplete, State.whenLive_live hr, hs, ho, h, Bool.false_eq_true, if_false]

theorem State.exec_arbitration_heard (hr : s.inReset = false) (hs : s.biu.state = .receiving) :
    exec (.arbitrationComplete others) s = .next { s with biu.discarding := invalidField others } := by
  simp only [exec, execArbitrationComplete, State.whenLive_live hr, hs]

end

/-- Settles O30: a contender that wins, one that loses, and a receiver. -/
theorem arbitrationIsWonByTheLowestField : Obligations.ArbitrationIsWonByTheLowestField := by
  refine ⟨fun others s o hr hs ho => ⟨fun hlow => ?won, fun a ha hhigh => ?lost⟩, fun others s hr hs => ?heard,
    fun a b => ArbField.value_lt_iff⟩
  case won =>
    rw [State.exec_arbitration_won hr hs ho (wins_iff.2 hlow)]
    simp only [isEventFrame_iff]
  case lost =>
    subst ha
    have hlost : wins o.frame.arbitration (some a) = false := decide_eq_false (not_le.2 hhigh)
    rw [State.exec_arbitration_lost hr hs ho hlost]
    rfl
  case heard =>
    have hinvalid : invalidField others = decide (∃ a, others = some a ∧ a.cls = 7#3) := by
      rw [Bool.eq_iff_iff, invalidField_iff, decide_eq_true_iff]
    rw [State.exec_arbitration_heard hr hs, hinvalid]

/-! Frames taken and dropped (R95, R156). -/

theorem State.Takes.frontFrame {s : State} {f : Frame} {rest : List Frame} (h : s.Takes f rest) :
    s.frontFrame = some f :=
  State.frontFrame_eq_some.2 ⟨h.live, h.mode, by rw [h.front]; rfl⟩

/-- FINDING, STATE and STATUS are the classes 4, 5 and 6 (Table 5-2). -/
theorem State.exec_reportFrameTaken {s : State} {f : Frame} (hr : s.inReset = false) (hf : s.frontFrame = some f)
    (hc : f.body.classCode = 4#3 ∨ f.body.classCode = 5#3 ∨ f.body.classCode = 6#3) :
    exec .reportFrameTaken s = .next s.popInbound := by
  simp only [exec, execReportFrameTaken, State.whenLive_live hr, hf]
  cases hb : f.body with
  | finding | state | status => rfl
  | command | cut | event | next | invalid => simp [hb, Body.classCode] at hc

theorem Frame.Commands.undefined {f : Frame} {code : Nat} {a : CommandBody} (h : Frame.Commands f code a)
    (hc : code = 0 ∨ 10 < code) : undefinedCommandFrame f = true := by
  simpa [undefinedCommandFrame, h.body, h.code] using hc

/-- Settles O43: the frame leaves the queue in both commands. -/
theorem reportsAndUndefinedCommandsAreDropped : Obligations.ReportsAndUndefinedCommandsAreDropped := by
  refine fun s f rest ht => ⟨fun hc => ?report, fun code a hf hc => ?undefined⟩
  case report => rw [State.exec_reportFrameTaken ht.live ht.frontFrame hc, ht.popInbound_eq]
  case undefined =>
    simp only [exec, execUndefinedCommand, State.whenLive_live ht.live, ht.frontFrame, hf.undefined hc, if_true,
      ht.popInbound_eq]

end Sys2Proof.Machine
end

section
/-! PROOFS. The stretch that ends in an abort (R89, R90, R97, R108). -/

namespace Sys2Proof.Machine

section
variable {s : State} {o : Outbound} {line : Level}

/-- BHL is read dominant while any station, this engine included, pulls it low (R78, R103). -/
theorem State.readBhl_eq_dominant : s.readBhl line = .dominant ↔ line = .dominant ∨ s.pu.drive = .dominant := by
  unfold State.readBhl
  cases s.pu.drive <;> simp

theorem State.suspendOn_eq (s : State) (level : Level) : s.suspendOn level = { s with
    pu.phase := if level = .dominant ∧ (s.rc.mode = .paused ∨ s.rc.mode = .running) ∧ s.pu.phase = .emit
      then .suspended else s.pu.phase } := by
  cases level with
  | dominant => simpa using s.suspendOn_dominant_eq
  | recessive => rfl

/-- What passes the test of R89. -/
theorem State.sendable_eq_some {k : EntryKey} {e : Entry} (hk : o.entry = some k) (h : s.sendable o line = some e) :
    e ∈ s.mq.entries ∧ e.key = k ∧ (s.rc.mode = .paused ∨ s.rc.mode = .running) ∧ s.pu.phase = .emit ∧
      s.readBhl line = .recessive ∧ e.time < s.pu.windowEnd := by
  simp only [State.sendable, hk] at h
  split at h
  · cases h
  next x hx =>
    split at h
    next htest =>
      cases h
      simp only [Bool.and_eq_true, Mode.replaying_iff, beq_iff_eq, decide_eq_true_iff] at htest
      obtain ⟨⟨⟨hm, hp⟩, hl⟩, hw⟩ := htest
      exact ⟨List.mem_of_find?_eq_some hx, by simpa using List.find?_some hx, hm, hp, hl, hw⟩
    · cases h

/-- Each cause of R89 keeps the frame from being sent. -/
theorem State.sendable_eq_none {k : EntryKey} (hk : o.entry = some k)
    (h : (s.rc.mode ≠ .paused ∧ s.rc.mode ≠ .running) ∨ s.pu.phase ≠ .emit ∨ line = .dominant ∨
      s.pu.drive = .dominant ∨ (∀ e ∈ s.mq.entries, e.key ≠ k) ∨ s.pu.windowEnd ≤ k.time) :
    s.sendable o line = none := by
  rw [Option.eq_none_iff_forall_ne_some]
  intro e he
  obtain ⟨hmem, rfl, hm, hp, hl, hw⟩ := State.sendable_eq_some hk he
  have hline : ¬(line = .dominant ∨ s.pu.drive = .dominant) := by
    rw [← State.readBhl_eq_dominant, hl]
    nofun
  rcases h with ⟨hnp, hnr⟩ | hne | hd | hd | hgone | hbeyond
  · exact hm.elim hnp hnr
  · exact hne hp
  · exact hline (.inl hd)
  · exact hline (.inr hd)
  · exact hgone e hmem rfl
  · exact absurd hw (not_lt.2 hbeyond)

/-- A stretch whose frame may not be sent suspends on a dominant line and leaves the bus. -/
theorem State.exec_stretchEnd_aborts (hr : s.inReset = false) (hs : s.biu.state = .stretching)
    (ho : s.biu.outbound = some o) (hq : s.biu.inbound = []) (h : s.sendable o line = none) :
    exec (.stretchEnd line) s = .next (s.suspendOn (s.readBhl line)).busIdle.refreshDrive := by
  simp only [exec, execStretchEnd, State.whenLive_live hr, hs, ho, hq, State.endStretch, h]

end

/-- Settles O32: none of the causes passes the test of R89, and the reading of the line sets the phase. -/
theorem stretchEndAbortsWhatMayNotBeSent : Obligations.StretchEndAbortsWhatMayNotBeSent := by
  intro line s o k hr hs ho hq hk hcause
  refine ⟨_, State.exec_stretchEnd_aborts hr hs ho hq (State.sendable_eq_none hk hcause), ?_, ?_⟩
  · rw [State.suspendOn_eq]
    rfl
  · rw [State.suspendOn_eq]
    simp only [State.readBhl_eq_dominant]
    rfl

end Sys2Proof.Machine
end

section
/-! PROOFS. Veto slots, the duplicate station number, and the rejoin (R91, R92, R96, R98, R99, R100). -/

namespace Sys2Proof.Machine

/-! Veto slots that the engine drives, and those it leaves alone (R91, R92, R96). -/

section
variable {s : State} {h : HeardFrame}

/-- The command at the close of a received frame whose veto slot read dominant. -/
theorem State.exec_frameVetoed (hr : s.inReset = false) (hs : s.biu.state = .receiving) (h : HeardFrame) :
    exec (.frameVetoed h) s = .next (s.heardVetoed h).refreshDrive := by
  simp only [exec, execFrameVetoed, State.whenLive_live hr, hs]

theorem State.drivesVeto_iff : s.drivesVeto h = true ↔
    s.rc.mode.vetoes = true ∧ (h.intact = false ∨ s.biu.fullAtOpen = true) := by
  simp [State.drivesVeto]

/-- A receiver that drives the slot has vetoed the frame, whatever the others do (R91). -/
theorem State.heard_of_driven (hh : s.Hears h) (hd : s.drivesVeto h = true) :
    s.heardAccepted h = s.busIdle.countVeto true ∧ s.heardVetoed h = s.busIdle.countVeto true := by
  simp [State.heardAccepted, State.heardVetoed, hh.discards, hd]

/-- A vetoed frame whose slot the engine left alone only sets the count (R96). -/
theorem State.heardVetoed_of_undriven (hh : s.Hears h) (hd : s.drivesVeto h = false) :
    s.heardVetoed h = s.busIdle.countVeto false := by
  simp [State.heardVetoed, hh.discards, hd]

/-- Below the limit a driven slot only counts. -/
theorem State.countVeto_counts (hm : s.rc.mode.vetoes = true) (hl : s.biu.vetoCount + 1 < 8) :
    s.countVeto true = s.raiseVeto := by
  rw [State.countVeto, if_pos hm, if_pos rfl, if_neg (not_le.2 hl)]

/-- At the limit the engine withdraws (R98). -/
theorem State.countVeto_withdraws (hm : s.rc.mode.vetoes = true) (hl : 8 ≤ s.biu.vetoCount + 1) :
    s.countVeto true = s.raiseVeto.withdraw := by
  rw [State.countVeto, if_pos hm, if_pos rfl, if_pos hl]

/-- A withdrawn engine does nothing more at the end of the command. -/
theorem State.settle_withdraw (s : State) : s.withdraw.settle = s.withdraw.refreshDrive := by
  have hcut : s.withdraw.settleCut = s.withdraw :=
    State.settleCut_of_resting (by simp [Mode.replaying]) fun c forced => by simp
  rw [State.settle, State.settleSeek_of_ne (by simp), hcut]

/-- A withdrawal at a driven veto slot. -/
theorem State.withdraws_raiseVeto (s : State) : s.Withdraws s.busIdle.raiseVeto.withdraw.refreshDrive := by
  have hl := s.busIdle.raiseVeto.lane_refreshDrive_withdraw
  rw [State.refreshDrive_withdraw] at hl ⊢
  exact ⟨rfl, rfl, rfl, rfl, hl, rfl, rfl, rfl⟩

/-- What a driven veto slot leaves: the count one higher, or at the eighth a withdrawal. -/
structure State.CountsDrivenVeto (s t : State) : Prop where
  counts : s.biu.vetoCount + 1 < 8 →
    t.biu = { s.biu with state := .idle, outbound := none, vetoCount := s.biu.vetoCount + 1 } ∧
      t.pu = { s.pu with drive := t.pu.drive } ∧ t.afu = s.afu ∧ t.mq.entries = s.mq.entries ∧ t.dst = s.dst ∧
      t.cku = s.cku ∧ t.rc = s.rc
  withdraws : 8 ≤ s.biu.vetoCount + 1 → s.Withdraws t

theorem State.countsDrivenVeto_refreshDrive (hm : s.rc.mode.vetoes = true) :
    s.CountsDrivenVeto (s.busIdle.countVeto true).refreshDrive where
  counts hl := by
    rw [State.countVeto_counts (s := s.busIdle) hm hl]
    exact ⟨rfl, rfl, rfl, rfl, rfl, rfl, rfl⟩
  withdraws hl := by
    rw [State.countVeto_withdraws (s := s.busIdle) hm hl]
    exact s.withdraws_raiseVeto

theorem State.countsDrivenVeto_settle (hm : s.rc.mode.vetoes = true) (hwait : s.rc.mode = .seeking → s.SeekWaits) :
    s.CountsDrivenVeto (s.busIdle.countVeto true).settle where
  counts hl := by
    rw [State.countVeto_counts (s := s.busIdle) hm hl, State.settle_of_still (s := s.busIdle.raiseVeto) hwait]
    exact ⟨rfl, rfl, rfl, rfl, rfl, rfl, rfl⟩
  withdraws hl := by
    rw [State.countVeto_withdraws (s := s.busIdle) hm hl, State.settle_withdraw]
    exact s.withdraws_raiseVeto

/-- The transmitter of a vetoed frame leaves the bus, its offer and its counts as they were (R92). -/
theorem State.exec_ownFrameVetoed {o : Outbound} (hr : s.inReset = false) (hs : s.biu.state = .sending)
    (ho : s.biu.outbound = some o) (h : HeardFrame) : exec (.frameVetoed h) s = .next s.busIdle := by
  simp only [exec, execFrameVetoed, State.whenLive_live hr, hs, ho]

end

/-- Settles O36: a driven slot counts or withdraws under either command, another sets the count to 0. -/
theorem vetoesAreCountedAndTheEighthWithdraws : Obligations.VetoesAreCountedAndTheEighthWithdraws := by
  refine ⟨fun h s c hh hm => ?received, fun h s o hr hs ho => State.exec_ownFrameVetoed hr hs ho h⟩
  have hv : s.rc.mode.vetoes = true := Mode.vetoes_iff.2 (hm.imp_left And.left)
  have hwait : s.rc.mode = .seeking → s.SeekWaits := fun hs =>
    (hm.resolve_right (by rw [hs]; nofun)).2
  refine ⟨fun hbad hc => ?driven, fun hi hfull => ?undriven⟩
  case driven =>
    obtain ⟨haccepted, hvetoed⟩ := State.heard_of_driven hh (State.drivesVeto_iff.2 ⟨hv, hbad⟩)
    rcases hc with rfl | rfl
    · have hcounts := State.countsDrivenVeto_refreshDrive hv
      refine ⟨_, State.exec_frameVetoed hh.live hh.receiving h, ?_⟩
      rw [hvetoed]
      exact ⟨hcounts.counts, hcounts.withdraws⟩
    · have hcounts := State.countsDrivenVeto_settle hv hwait
      refine ⟨_, State.exec_frameAccepted hh.live hh.receiving h, ?_⟩
      rw [haccepted]
      exact ⟨hcounts.counts, hcounts.withdraws⟩
  case undriven =>
    have hd : s.drivesVeto h = false := by simp [State.drivesVeto, hi, hfull]
    refine ⟨_, State.exec_frameVetoed hh.live hh.receiving h, ?_⟩
    rw [State.heardVetoed_of_undriven hh hd, State.countVeto_false, if_pos (by exact hv)]
    rfl

/-! The duplicate station number (R100). -/

/-- A correct frame of another transmitter that bears the engine's number faults it (R6, R100). -/
theorem State.receiveAccepted_faults {s : State} {h : HeardFrame} (hi : h.intact = true)
    (hst : h.frame.station = s.straps.station) (hm : s.rc.mode ≠ .faulted) (hroom : s.biu.inbound.length < 16) :
    s.receiveAccepted h = s.enterFaulted .duplicateNumber := by
  have hfull : s.inboundFull = false := decide_eq_false (not_le.2 hroom)
  rw [State.receiveAccepted, if_neg (by simp [hi, hfull]), if_pos (by simp [hst, hm])]

/-- Settles O37: the frame, its veto slot left alone, faults the engine. -/
theorem duplicateStationNumberFaultsTheEngine : Obligations.DuplicateStationNumberFaultsTheEngine := by
  intro h s hh hi hst hm hfull hroom
  have hd : s.drivesVeto h = false := by simp [State.drivesVeto, hi, hfull]
  refine ⟨_, State.exec_frameAccepted hh.live hh.receiving h, ?_⟩
  rw [State.heardAccepted_of_undriven hh hd, State.countVeto_false,
    State.receiveAccepted_faults hi (by exact hst) (by exact hm) (by exact hroom), State.settle_enterFaulted]
  exact ⟨rfl, State.lane_enterFaulted _ .duplicateNumber, rfl, rfl, rfl, rfl, rfl, rfl, rfl, rfl, rfl, rfl⟩

/-! The rejoin (R99, R166). -/

/-- The SEEK that rejoins is a COMMAND of code 4, at its adjusted time (R99, R156). -/
theorem rejoinTime_of_seek {f : Frame} {a : CommandBody} (h : Frame.Commands f 4 a) :
    rejoinTime f = some (seekArg a) := by
  simp only [rejoinTime, h.body, h.code, if_true]

theorem rejoinTime_of_other {f : Frame} (h : ∀ a, ¬Frame.Commands f 4 a) : rejoinTime f = none := by
  unfold rejoinTime
  split
  next a hb => exact if_neg fun hc => h a ⟨hb, hc⟩
  all_goals rfl

theorem State.queueAccepted_rejoins {s : State} {f : Frame} {a : CommandBody} (hm : s.rc.mode = .withdrawn)
    (hf : Frame.Commands f 4 a) : s.queueAccepted f = s.rejoin (seekArg a) := by
  simp only [State.queueAccepted, hm, rejoinTime_of_seek hf]

theorem State.queueAccepted_discards {s : State} {f : Frame} (hm : s.rc.mode = .withdrawn)
    (hf : ∀ a, ¬Frame.Commands f 4 a) : s.queueAccepted f = s := by
  simp only [State.queueAccepted, hm, rejoinTime_of_other hf]

/-- A WITHDRAWN engine hears a correct frame of another station through, and counts nothing (R96, R99). -/
theorem State.heardAccepted_of_withdrawn {s : State} {h : HeardFrame} (hh : s.Hears h) (hi : h.intact = true)
    (hst : h.frame.station ≠ s.straps.station) (hm : s.rc.mode = .withdrawn) :
    s.heardAccepted h = s.busIdle.queueAccepted h.frame := by
  have hv : s.rc.mode.vetoes = false := by rw [hm]; rfl
  have ht : s.rc.mode.takesFrames = false := by rw [hm]; rfl
  have hcount : s.busIdle.countVeto false = s.busIdle := by simp [State.countVeto, hv]
  rw [State.heardAccepted_of_undriven hh (by simp [State.drivesVeto, hv]), hcount, State.receiveAccepted,
    if_neg (by simp [hi, ht]), if_neg (by simp [hst])]

/-- Settles O38: the SEEK begins a seek as any other does, and another frame only ends on the bus. -/
theorem withdrawnEngineRejoinsOnSeekAlone : Obligations.WithdrawnEngineRejoinsOnSeekAlone := by
  intro h s hh hi hst hm
  have hheard := State.heardAccepted_of_withdrawn hh hi hst hm
  refine ⟨fun a time hf htime => ⟨_, State.exec_frameAccepted hh.live hh.receiving h, ?_⟩,
    fun hf hcut => ⟨_, State.exec_frameAccepted hh.live hh.receiving h, ?_⟩⟩
  · have harg : seekArg a = time := htime.symm
    rw [hheard, State.queueAccepted_rejoins (s := s.busIdle) hm hf, harg]
    exact State.seeks_beginSeek _ time
  · have hrest : s.busIdle.settleCut = s.busIdle :=
      State.settleCut_of_resting (by rw [State.busIdle_rc, hm]; rfl) fun c forced => by simp [hcut]
    have hsettle : s.busIdle.settle = s.busIdle.refreshDrive := by
      rw [State.settle, State.settleSeek_of_ne (by simp [hm]), hrest]
    rw [hheard, State.queueAccepted_discards (s := s.busIdle) hm hf, hsettle]
    rfl

end Sys2Proof.Machine
end

section
/-! PROOFS. The bits of a frame spell it (R82, Table 11-6): each field read back from the front of the bits it was
sent in, and the bodies field by field. -/

namespace Sys2Proof

/-! Fields and flags. -/

/-- The first k bits of a field, read most significant first, are its top k bits. -/
theorem foldl_getMsbD {n : Nat} (v : BitVec n) {k : Nat} (hk : k ≤ n) :
    ((List.range k).map v.getMsbD).foldl (fun a b => 2 * a + b.toNat) 0 = v.toNat / 2 ^ (n - k) := by
  induction k with
  | zero => simp [Nat.div_eq_of_lt v.isLt]
  | succ k ih =>
    have hbit : (v.getMsbD k).toNat = v.toNat / 2 ^ (n - (k + 1)) % 2 := by
      rw [BitVec.getMsbD_eq_getLsbD, decide_eq_true (show k < n by omega), Bool.true_and, BitVec.getLsbD,
        Nat.toNat_testBit, Nat.sub_sub, Nat.add_comm 1 k]
    have hhalf : v.toNat / 2 ^ (n - k) = v.toNat / 2 ^ (n - (k + 1)) / 2 := by
      rw [Nat.div_div_eq_div_mul, ← pow_succ, show n - (k + 1) + 1 = n - k by omega]
    rw [List.range_succ, List.map_append, List.foldl_append, ih (by omega), hhalf]
    simp only [List.map_cons, List.map_nil, List.foldl_cons, List.foldl_nil, hbit]
    omega

theorem length_bitsOf {n : Nat} (v : BitVec n) : (bitsOf v).length = n := by
  simp [bitsOf]

/-- A field is read back from the front of the bits it was sent in, and the bits behind it remain. -/
@[simp] theorem takeField_bitsOf_append {n : Nat} (v : BitVec n) (rest : List Bool) :
    takeField n (bitsOf v ++ rest) = (v, rest) := by
  have hfold : (bitsOf v).foldl (fun a b => 2 * a + b.toNat) 0 = v.toNat := by
    rw [bitsOf, foldl_getMsbD v le_rfl, Nat.sub_self, pow_zero, Nat.div_one]
  rw [takeField, List.take_left' (length_bitsOf v), List.drop_left' (length_bitsOf v), hfold, BitVec.ofNat_toNat,
    BitVec.setWidth_eq]

@[simp] theorem takeField_bitsOf {n : Nat} (v : BitVec n) : takeField n (bitsOf v) = (v, []) := by
  simpa using takeField_bitsOf_append v []

@[simp] theorem takeFlag_flagBit_append (b : Bool) (rest : List Bool) : takeFlag (flagBit b ++ rest) = (b, rest) :=
  rfl

@[simp] theorem takeFlag_flagBit (b : Bool) : takeFlag (flagBit b) = (b, []) :=
  rfl

/-! Bodies (Table 11-6). -/

theorem CommandBody.ofBits_bits (a : CommandBody) : CommandBody.ofBits a.bits = a := by
  simp [CommandBody.ofBits, CommandBody.bits]

theorem EventBody.ofBits_bits (e : EventBody) : EventBody.ofBits e.bits = e := by
  simp [EventBody.ofBits, EventBody.bits]

theorem FindingBody.ofBits_bits (f : FindingBody) : FindingBody.ofBits f.bits = f := by
  simp [FindingBody.ofBits, FindingBody.bits]

theorem StateBody.ofBits_bits (d : StateBody) : StateBody.ofBits d.bits = d := by
  simp [StateBody.ofBits, StateBody.bits]

theorem StatusBody.ofBits_bits (r : StatusBody) : StatusBody.ofBits r.bits = r := by
  simp [StatusBody.ofBits, StatusBody.bits]

/-- The class tells the bodies apart (Table 5-2). -/
theorem Body.ofBits_bits (b : Body) : Body.ofBits b.classCode b.bits = b := by
  cases b with
  | command a => exact congrArg Body.command a.ofBits_bits
  | event e => exact congrArg Body.event e.ofBits_bits
  | finding f => exact congrArg Body.finding f.ofBits_bits
  | state d => exact congrArg Body.state d.ofBits_bits
  | status r => exact congrArg Body.status r.ofBits_bits
  | cut | next | invalid => rfl

/-- Settles O51: class, key and station from the arbitration field, and the body by its class. -/
theorem frameBitsSpellTheFrame : Obligations.FrameBitsSpellTheFrame := by
  intro f
  simp [Frame.ofBits, Frame.bits, Frame.arbitration, ArbField.bits, Body.ofBits_bits]

end Sys2Proof
end

section
/-! PROOFS. An empty queue, the timebase, and the end of the history (R103, R110, R112, R115, R119, R165). -/

namespace Sys2Proof.Machine

/-- Settles O2: `step` on an empty queue is `State.tick`. -/
theorem emptyQueuePassesOneMicrosecond : Obligations.EmptyQueuePassesOneMicrosecond := by
  intro s hq
  have hstep : step s = .next s.tick := by rw [step, hq]
  refine ⟨fun hr => ?reset, fun hr => ?live⟩
  case reset => rw [hstep, State.tick, if_pos hr]
  case live => rw [hstep, State.tick, hr, if_neg Bool.false_ne_true]

/-! The timebase (R119). -/

theorem Mode.takesFrames_iff {m : Mode} : m.takesFrames = true ↔
    m = .standby ∨ m = .seeking ∨ m = .paused ∨ m = .running ∨ m = .ended := by
  cases m <;> simp [Mode.takesFrames]

/-- A STATUS becomes pending in the modes that report a cause, and stays pending where it was (R119, R167, R169). -/
theorem State.placeStatus_eq (s : State) : s.placeStatus = { s with
    rc.statusPending := s.rc.statusPending || s.rc.mode.takesFrames } := by
  unfold State.placeStatus
  cases s.rc.mode.takesFrames with
  | false => simp
  | true => simp

/-- Settles O50: the timebase changes, and the STATUS is placed. -/
theorem timebaseFollowsTheReference : Obligations.TimebaseFollowsTheReference := by
  intro s hr
  simp only [← Mode.takesFrames_iff, Bool.decide_eq_true]
  refine ⟨fun ht => ?lost, fun ht => ?restored⟩
  case lost => simp only [exec, execReferenceLost, State.whenLive_live hr, ht, State.placeStatus_eq]
  case restored => simp only [exec, execReferenceRestored, State.whenLive_live hr, ht, State.placeStatus_eq]

/-! The end of the history (R110, R112, R165). -/

/-- In ENDED the end of a command finds no seek, no cut and no hold on the line. -/
theorem State.settle_endHistory (s : State) :
    s.endHistory.settle = { s.endHistory with pu.drive := .released } := by
  have hcut : s.endHistory.settleCut = s.endHistory := State.settleCut_of_resting rfl (by intros; nofun)
  rw [State.settle, State.settleSeek_of_ne (s := s.endHistory) nofun, hcut]
  rfl

/-- Settles O42: in EMIT and SUSPENDED the history ends; elsewhere the frame leaves the queue and the drive follows. -/
theorem nextNoneEndsTheHistory : Obligations.NextNoneEndsTheHistory := by
  refine fun s f rest ht hb => ⟨fun hm hp hn => ?ends, fun hemit => ?ignored⟩
  case ends =>
    have hemit : s.inEmit = true := State.inEmit_iff.2 ⟨Mode.replaying_iff.2 hm, hp⟩
    simp only [exec, execNextTaken, State.whenLive_live ht.live, ht.frontFrame, hb, if_pos hemit, if_pos hn,
      State.settle_endHistory, ht.popInbound_eq]
    rfl
  case ignored =>
    have hquiet : ¬s.inEmit = true := by rwa [State.inEmit_iff, Mode.replaying_iff]
    simp only [exec, execNextTaken, State.whenLive_live ht.live, ht.frontFrame, hb, if_neg hquiet, ht.popInbound_eq]
    exact ⟨_, rfl, rfl⟩

end Sys2Proof.Machine
end

section
/-! PROOFS. The console commands for the pace of the replay, the reply list and the status flag (R113, R114, R116, R132,
R156, R157, R163, R169). -/

namespace Sys2Proof.Machine

/-! RUN, STEP and PAUSE by mode and phase (R113, R114, R163, Table 6-5). -/

/-- What RUN and STEP make of the engine, by its mode: they grant a budget, and differ in it alone. -/
def State.grantBudget (s : State) (budget : Budget) : State :=
  match s.rc.mode with
  | .seeking => { s with rc.modeAfterSeek := .running, pu.budget := budget }
  | .paused => { s with rc.mode := .running, pu.budget := budget }
  | .running => { s with pu.budget := budget, pu.pausePending := false }
  | .loading | .faulted | .standby | .ended | .withdrawn => s

theorem State.doRun_eq (s : State) : s.doRun = s.grantBudget .unlimited := rfl

theorem State.doStep_eq (s : State) (n : Nat) : s.doStep n = s.grantBudget (.epochs n) := rfl

section
variable {s : State} {budget : Budget}

/-- Replay Control and the Pace Unit alone are touched. -/
theorem State.grantBudget_frame : s.grantBudget budget = { s with
    rc := (s.grantBudget budget).rc, pu := (s.grantBudget budget).pu } := by
  unfold State.grantBudget
  split <;> rfl

theorem State.grantBudget_of_seeking (h : s.rc.mode = .seeking) :
    s.grantBudget budget = { s with rc.modeAfterSeek := .running, pu.budget := budget } := by
  rw [State.grantBudget, h]

theorem State.grantBudget_of_paused (h : s.rc.mode = .paused) :
    s.grantBudget budget = { s with rc.mode := .running, pu.budget := budget } := by
  rw [State.grantBudget, h]

theorem State.grantBudget_of_running (h : s.rc.mode = .running) :
    s.grantBudget budget = { s with pu.budget := budget, pu.pausePending := false } := by
  rw [State.grantBudget, h]

theorem State.grantBudget_of_resting (h : s.rc.mode = .standby ∨ s.rc.mode = .ended) : s.grantBudget budget = s := by
  rcases h with h | h
  · rw [State.grantBudget, h]
  · rw [State.grantBudget, h]

end

/-- The engine `t` has taken a RUN or STEP that grants a budget, leaving `rest` in its inbound queue (Table 6-5). -/
def State.Granted (s t : State) (rest : List Frame) (budget : Budget) : Prop :=
  t = { s with biu := { s.biu with inbound := rest }, rc := t.rc, pu := { t.pu with drive := t.pu.drive } } ∧
    (s.rc.mode = .seeking → t.rc = { s.rc with modeAfterSeek := .running } ∧
      t.pu = { s.pu with budget := budget, drive := t.pu.drive }) ∧
    (s.rc.mode = .paused → t.rc = { s.rc with mode := .running } ∧
      t.pu = { s.pu with budget := budget, drive := t.pu.drive }) ∧
    (s.rc.mode = .running → t.rc = s.rc ∧
      t.pu = { s.pu with budget := budget, pausePending := false, drive := t.pu.drive }) ∧
    (s.rc.mode = .standby ∨ s.rc.mode = .ended → t.rc = s.rc ∧ t.pu = { s.pu with drive := t.pu.drive })

theorem State.granted_grantBudget {s u : State} {rest : List Frame} (hu : u = { s with biu.inbound := rest })
    (budget : Budget) : s.Granted (u.grantBudget budget).refreshDrive rest budget := by
  have hmode : u.rc.mode = s.rc.mode := by rw [hu]
  refine ⟨?_, fun hm => ?_, fun hm => ?_, fun hm => ?_, fun hm => ?_⟩
  · rw [State.grantBudget_frame, hu]
    rfl
  · rw [State.grantBudget_of_seeking (hmode.trans hm), hu]
    exact ⟨rfl, rfl⟩
  · rw [State.grantBudget_of_paused (hmode.trans hm), hu]
    exact ⟨rfl, rfl⟩
  · rw [State.grantBudget_of_running (hmode.trans hm), hu]
    exact ⟨rfl, rfl⟩
  · rw [State.grantBudget_of_resting (hmode.symm ▸ hm), hu]
    exact ⟨rfl, rfl⟩

section
variable {s : State}

theorem State.doPause_frame : s.doPause = { s with rc := s.doPause.rc, pu := s.doPause.pu } := by
  unfold State.doPause
  split
  case h_2 => split <;> rfl
  all_goals rfl

theorem State.doPause_of_seeking (h : s.rc.mode = .seeking) : s.doPause = { s with rc.modeAfterSeek := .paused } := by
  rw [State.doPause, h]

theorem State.doPause_of_gather (h : s.rc.mode = .running) (hp : s.pu.phase = .gather) :
    s.doPause = { s with rc.mode := .paused } := by
  rw [State.doPause, h, hp]

/-- Outside GATHER the pause waits for the epoch's close (R114). -/
theorem State.doPause_of_emit (h : s.rc.mode = .running) (hp : s.pu.phase ≠ .gather) :
    s.doPause = { s with pu.pausePending := true } := by
  rw [State.doPause, h]
  cases hphase : s.pu.phase with
  | gather => exact absurd hphase hp
  | emit | suspended => rfl

theorem State.doPause_of_resting (h : s.rc.mode = .paused ∨ s.rc.mode = .standby ∨ s.rc.mode = .ended) :
    s.doPause = s := by
  rcases h with h | h | h
  · rw [State.doPause, h]
  · rw [State.doPause, h]
  · rw [State.doPause, h]

/-- Paused in GATHER the engine holds the line (R103). -/
theorem State.refreshDrive_doPause_of_gather (h : s.rc.mode = .running) (hp : s.pu.phase = .gather) :
    s.doPause.refreshDrive = { s with rc.mode := .paused, pu.drive := .dominant } := by
  rw [State.doPause_of_gather h hp, State.refreshDrive,
    (State.driveFor_iff { s with rc.mode := .paused }).2 (.inr (.inl ⟨rfl, hp⟩))]

end

/-- Settles O44: RUN and STEP grant their budgets, and PAUSE acts by mode and phase; the drive follows. -/
theorem runStepAndPauseActByMode : Obligations.RunStepAndPauseActByMode := by
  refine fun s f rest a ht => ⟨fun hf => ?run, fun n hf hn => ?step, fun hf => ?pause⟩
  case run =>
    refine ⟨_, ?_, State.granted_grantBudget ht.popInbound_eq .unlimited⟩
    simp only [exec, execRun, State.whenLive_live ht.live, ht.frontCommand hf, State.doRun_eq]
  case step =>
    subst hn
    refine ⟨_, ?_, State.granted_grantBudget ht.popInbound_eq (.epochs (stepArg a))⟩
    simp only [exec, execStep, State.whenLive_live ht.live, ht.frontCommand hf, State.doStep_eq]
  case pause =>
    have hexec : exec .pause s = .next s.popInbound.doPause.refreshDrive := by
      simp only [exec, execPause, State.whenLive_live ht.live, ht.frontCommand hf]
    have hpop := ht.popInbound_eq
    refine ⟨_, hexec, ?_, fun hm => ?_, fun hm hp => ?_, fun hm hp => ?_, fun hm => ?_⟩
    · rw [State.doPause_frame, hpop]
      rfl
    · rw [State.doPause_of_seeking (s := s.popInbound) hm, hpop]
      exact ⟨rfl, rfl⟩
    · rw [State.refreshDrive_doPause_of_gather (s := s.popInbound) hm hp, hpop]
      exact ⟨rfl, rfl⟩
    · rw [State.doPause_of_emit (s := s.popInbound) hm hp, hpop]
      exact ⟨rfl, rfl⟩
    · rw [State.doPause_of_resting (s := s.popInbound) hm, hpop]
      exact ⟨rfl, rfl⟩

/-! EPOCH, RATE, QUERY and POLL (R116, R132, R157, R169). -/

theorem Dst.number_of_find {d : Dst} {number : BitVec 16} {x : Device} (h : d.find number = some x) :
    x.number = number := by
  simpa using List.find?_some h

/-- A number held as OWNED joins the reply list (R132). -/
theorem Dst.query_of_owned {d : Dst} {n : Nat} {x : Device} (hn : n ≤ 65534)
    (hx : d.find (BitVec.ofNat 16 n) = some x) (ho : x.role = .owned) (hr : x.number ∉ d.replies) :
    d.query n = { d with replies := d.replies ++ [BitVec.ofNat 16 n] } := by
  rw [← Dst.number_of_find hx]
  simp [Dst.query, hn, hx, ho, hr]

/-- A number too high, one not held, one held as WATCHED, and one in the list already leave the table (R132). -/
theorem Dst.query_of_idle {d : Dst} {n : Nat} (h : 65534 < n ∨ d.find (BitVec.ofNat 16 n) = none ∨
    ∃ x, d.find (BitVec.ofNat 16 n) = some x ∧ (x.role = .watched ∨ x.number ∈ d.replies)) : d.query n = d := by
  unfold Dst.query
  split
  next hn =>
    rcases h with h | h | ⟨x, hx, hw | hr⟩
    · omega
    · rw [h]
    · simp [hx, hw]
    · simp [hx, hr]
  next => rfl

theorem State.named_iff {s : State} {a : CommandBody} :
    s.named a = true ↔ a.station.toNat = s.straps.station.toNat ∨ a.station.toNat = 63 := by
  simp [State.named, BitVec.toNat_eq]

/-- A POLL that names the engine places a STATUS pending in a mode that takes it; any other is dropped (R169). -/
theorem State.poll_eq {s : State} (hm : s.rc.mode.takesFrames = true) (a : CommandBody) :
    (if s.named a then s.placeStatus else s) = { s with
      rc.statusPending := s.rc.statusPending ||
        decide (a.station.toNat = s.straps.station.toNat ∨ a.station.toNat = 63) } := by
  simp only [← State.named_iff, Bool.decide_eq_true]
  cases s.named a with
  | false => simp
  | true => rw [if_pos rfl, State.placeStatus_eq, hm]

/-- In LOADING, WITHDRAWN and FAULTED no command is taken (R93, R156). -/
theorem State.frontCommand_eq_none {s : State} (hm : s.rc.mode.takesFrames = false) (code : Nat) :
    s.frontCommand code = none := by
  have hfront : s.frontFrame = none := by rw [State.frontFrame, hm, Bool.not_false, Bool.or_true, if_pos rfl]
  rw [State.frontCommand, hfront]

/-- Settles O47: each command sets what it names, and in LOADING, WITHDRAWN and FAULTED none is taken. -/
theorem epochRateQueryAndPollSetWhatTheyName : Obligations.EpochRateQueryAndPollSetWhatTheyName := by
  refine ⟨fun s f rest a ht => ⟨fun hf => ?epoch, fun hf => ?rate, fun hf => ?query, fun hf => ?poll⟩,
    fun s hm => ?untaken⟩
  case epoch =>
    simp only [exec, execEpoch, State.whenLive_live ht.live, ht.frontCommand hf, ht.popInbound_eq]
    rfl
  case rate =>
    have hexec : exec .rate s = .next
        { s with biu.inbound := rest, pu.pace := min 255 a.numeric.toNat }.refreshDrive := by
      simp only [exec, execRate, State.whenLive_live ht.live, ht.frontCommand hf, ht.popInbound_eq, rateArg]
    exact ⟨_, hexec, State.refreshDrive_holdsLine _, rfl⟩
  case query =>
    have hexec : exec .query s = .next { s with biu.inbound := rest, dst := s.dst.query a.numeric.toNat } := by
      simp only [exec, execQuery, State.whenLive_live ht.live, ht.frontCommand hf, ht.popInbound_eq]
    refine ⟨fun d hd ho hn hr => ?_, fun hidle => ?_⟩
    · rw [hexec, Dst.query_of_owned hn hd ho hr]
    · rw [hexec, Dst.query_of_idle hidle]
  case poll =>
    simp only [exec, execPoll, State.whenLive_live ht.live, ht.frontCommand hf, ht.popInbound_eq]
    exact congrArg Host.Outcome.next (State.poll_eq (s := { s with biu.inbound := rest }) ht.mode a)
  case untaken =>
    have hquiet : s.rc.mode.takesFrames = false := by rcases hm with h | h | h <;> rw [h] <;> rfl
    have hnone := State.frontCommand_eq_none hquiet
    simp only [exec, execEpoch, execRate, execQuery, execPoll]
    refine ⟨State.whenLive_of_eq ?_, State.whenLive_of_eq ?_, State.whenLive_of_eq ?_, State.whenLive_of_eq ?_⟩
    all_goals simp only [hnone]

end Sys2Proof.Machine
end

section
/-! PROOFS. EVENT frames and the device table (R123 to R128, Table 7-2). -/

namespace Sys2Proof.Machine

section
variable {d : Device} {kind : EventKind} {target : Position} {t : Nat} {source : Source}

/-! The end of a travel (R126). -/

/-- A report of the position that the entry has is no change. -/
theorem Device.reachEnd_same (h : target = d.position) :
    (d.reachEnd target t).operations = d.operations ∧ (d.reachEnd target t).lastChange = d.lastChange := by
  simp [Device.reachEnd, h]

/-- The first position reported is a change, and no operation. -/
theorem Device.reachEnd_first (h : target ≠ d.position) (hu : d.position = .unknown) :
    (d.reachEnd target t).operations = d.operations ∧ (d.reachEnd target t).lastChange = some t := by
  rw [hu] at h
  simp [Device.reachEnd, hu, h.symm]

/-- Any other change of position is an operation. -/
theorem Device.reachEnd_moved (h : target ≠ d.position) (hu : d.position ≠ .unknown) :
    (d.reachEnd target t).operations = min 65535 (d.operations + 1) ∧
      (d.reachEnd target t).lastChange = some t := by
  simp [Device.reachEnd, hu, h.symm]

/-! The effect of an event by its kind (R125, Table 7-2). -/

/-- The number, role, class, travel limit and corroborations of an entry are no event's to change. -/
theorem Device.applyEvent_frame : d.applyEvent kind t source = { d with
    lastEvent := (d.applyEvent kind t source).lastEvent, position := (d.applyEvent kind t source).position
    pickup := (d.applyEvent kind t source).pickup, lockout := (d.applyEvent kind t source).lockout
    travelStart := (d.applyEvent kind t source).travelStart, operations := (d.applyEvent kind t source).operations
    lastChange := (d.applyEvent kind t source).lastChange } := by
  cases kind <;> rfl

/-- OPENED and CLOSED report an end position. -/
theorem Device.applyEvent_of_end (h : kind = .opened ∨ kind = .closed) :
    ∃ target, d.applyEvent kind t source =
      { d.reachEnd target t with lastEvent := some { kind := kind, time := t, source := source } } := by
  rcases h with rfl | rfl
  · exact ⟨.opened, rfl⟩
  · exact ⟨.closed, rfl⟩

/-- The other kinds count no operation. -/
theorem Device.applyEvent_of_not_end (ho : kind ≠ .opened) (hc : kind ≠ .closed) :
    (d.applyEvent kind t source).operations = d.operations ∧
      (d.applyEvent kind t source).lastChange = d.lastChange := by
  cases kind with
  | opened => exact absurd rfl ho
  | closed => exact absurd rfl hc
  | _ => exact ⟨rfl, rfl⟩

/-- A travel already reported keeps its start (R127). -/
theorem Device.beginTravel_travelStart :
    (d.beginTravel t).travelStart = if d.position = .travel then d.travelStart else some t := by
  simp [Device.beginTravel]

end

/-! The table (R124, R125, R128). -/

theorem eventSource_eq (own station : BitVec 5) (lane : BitVec 4) :
    eventSource own station lane = if station = own then .lane lane.toFin else .station station := by
  simp [eventSource]

/-- An update changes the entries of its number where they stand. -/
theorem Dst.update_getElem? {d : Dst} {number : BitVec 16} {g : Device → Device} {i : Nat} {x x' : Device}
    (hx : d.devices[i]? = some x) (hx' : (d.update number g).devices[i]? = some x') :
    x' = if x.number = number then g x else x := by
  simpa [Dst.update, hx] using hx'.symm

/-- What an EVENT frame of a kind makes of the entry of its device. -/
def Device.afterFrame (e : EventBody) (kind : EventKind) (t : Nat) (source : Source) : Device → Device :=
  if e.duplicate then Device.corroborate else fun x => x.applyEvent kind t source

theorem Dst.applyFrame_eq {d : Dst} {own : BitVec 5} {f : Frame} {e : EventBody} {kind : EventKind}
    (hk : e.kind.toNat = kind.code) : d.applyFrame own f e =
      d.update e.device (Device.afterFrame e kind f.key.toNat (eventSource own f.station e.lane)) := by
  rw [Dst.applyFrame, hk, EventKind.ofCode_code]
  exact (apply_ite (d.update e.device) _ _ _).symm

section
variable {s : State} {f : Frame} {rest : List Frame} {e : EventBody} {kind : EventKind}

/-- The engine applies the frame in EMIT and SUSPENDED (R123). -/
theorem State.Takes.exec_eventTaken (ht : s.Takes f rest) (hb : f.body = .event e) (hk : e.kind.toNat = kind.code)
    (hm : s.rc.mode = .paused ∨ s.rc.mode = .running) (hp : s.pu.phase ≠ .gather) :
    exec .eventTaken s = .next { s with
      biu.inbound := rest
      dst := s.dst.update e.device
        (Device.afterFrame e kind f.key.toNat (eventSource s.straps.station f.station e.lane)) } := by
  have hemit : s.inEmit = true := State.inEmit_iff.2 ⟨Mode.replaying_iff.2 hm, hp⟩
  simp only [exec, execEventTaken, State.whenLive_live ht.live, ht.frontFrame, hb, if_pos hemit, ht.popInbound_eq,
    Dst.applyFrame_eq hk]

/-- Elsewhere it drops the frame (R123). -/
theorem State.Takes.exec_eventTaken_dropped (ht : s.Takes f rest) (hb : f.body = .event e)
    (h : ¬((s.rc.mode = .paused ∨ s.rc.mode = .running) ∧ s.pu.phase ≠ .gather)) :
    exec .eventTaken s = .next { s with biu.inbound := rest } := by
  have hquiet : ¬s.inEmit = true := by rwa [State.inEmit_iff, Mode.replaying_iff]
  simp only [exec, execEventTaken, State.whenLive_live ht.live, ht.frontFrame, hb, if_neg hquiet, ht.popInbound_eq]

end

/-- Settles O40: the frame is dropped or applied; of the entries, one of another number stays, and one of the frame's
takes the effect of a duplicate or that of the event's kind. -/
theorem eventFramesAreAppliedToTheDeviceTable : Obligations.EventFramesAreAppliedToTheDeviceTable := by
  rintro s f rest e kind _ ht hb hk rfl
  by_cases hemit : (s.rc.mode = .paused ∨ s.rc.mode = .running) ∧ s.pu.phase ≠ .gather
  case neg => exact ⟨_, ht.exec_eventTaken_dropped hb hemit, rfl, fun _ => rfl, fun h => absurd h hemit⟩
  obtain ⟨hm, hp⟩ := hemit
  refine ⟨_, ht.exec_eventTaken hb hk hm hp, rfl, fun h => absurd ⟨hm, hp⟩ h, fun _ => ⟨List.length_map _, ?_⟩⟩
  intro i d d' hd hd'
  have hentry := Dst.update_getElem? hd hd'
  refine ⟨fun hn => ?other, fun hn hdup => ?duplicate, fun hn hdup => ?event⟩
  case other => rw [hentry, if_neg hn]
  case duplicate => rw [hentry, if_pos hn, Device.afterFrame, if_pos hdup, Device.corroborate]
  case event =>
    rw [if_pos hn, Device.afterFrame, hdup, if_neg Bool.false_ne_true, eventSource_eq] at hentry
    subst hentry
    refine ⟨rfl, Device.applyEvent_frame, ?pickup, ?lockout, ?position, ?travelStart, fun hend hpos => ?same,
      fun hend hpos hu => ?first, fun hend hpos hu => ?moved, Device.applyEvent_of_not_end⟩
    case pickup => cases kind <;> rfl
    case lockout => cases kind <;> rfl
    case position => cases kind <;> rfl
    case travelStart =>
      cases kind with
      | travel => exact Device.beginTravel_travelStart
      | _ => rfl
    all_goals obtain ⟨target, happly⟩ := Device.applyEvent_of_end (d := d) hend
    all_goals rw [happly] at hpos ⊢
    case same => exact Device.reachEnd_same hpos
    case first => exact Device.reachEnd_first hpos hu
    case moved => exact Device.reachEnd_moved hpos hu

end Sys2Proof.Machine
end

section
/-! PROOFS. The queue of commands that wait: no command takes from it or adds to it (entries 1 and 5). -/

namespace Sys2Proof.Machine

/-! The operations on lanes, port and window. -/

theorem State.Works.pending {s t : State} (h : s.Works t) : t.pending = s.pending := by
  obtain ⟨_, _, _, _, _, _, rfl, -⟩ := h.frame
  rfl

section
variable (s : State)

@[simp] theorem State.loadAnswer_pending (p : LoadProgress) (d : Slot) : (s.loadAnswer p d).pending = s.pending := by
  obtain ⟨b, ⟨c, h⟩ | ⟨q, stage, slot, h⟩ | ⟨q, h⟩⟩ := s.loadAnswer_cases p d <;> rw [h] <;> simp

@[simp] theorem State.replayFromNominal_pending : s.replayFromNominal.pending = s.pending := by
  simp [State.replayFromNominal]

@[simp] theorem State.replayFromCheckpoint_pending (c : CheckpointLoad) :
    (s.replayFromCheckpoint c).pending = s.pending := by
  unfold State.replayFromCheckpoint State.decideSeek
  split <;> simp

@[simp] theorem State.checkpointAnswer_pending (c : CheckpointLoad) (d : Slot) :
    (s.checkpointAnswer c d).pending = s.pending := by
  unfold State.checkpointAnswer
  split
  · simp
  · unfold State.nextCheckpoint
    split <;> simp

@[simp] theorem State.beginSeek_pending (time : Nat) : (s.beginSeek time).pending = s.pending := by
  unfold State.beginSeek State.beginLoad
  split <;> simp

@[simp] theorem State.readFailed_pending (owner : ReadOwner) : (s.readFailed owner).pending = s.pending := by
  unfold State.readFailed
  split
  · simp
  · simp [State.loseLane]
  · simp

@[simp] theorem State.beginVisit_pending (l : Fin 16) : (s.beginVisit l).pending = s.pending := by
  simp [State.beginVisit]

@[simp] theorem State.continueVisit_pending (l : Fin 16) : (s.continueVisit l).pending = s.pending := by
  unfold State.continueVisit
  split <;> simp

/-- A slot is taken for the lane whose answer it is, which is READY by then (R26). -/
theorem State.laneAnswer_pending (l : Fin 16) (d : Slot) :
    (((s.answerTaken l).takeSlot l d).continueVisit l).pending = s.pending := by
  have taken := State.works_takeSlot (s := s.answerTaken l) (l := l) (by simp) d
  exact (State.continueVisit_pending _ l).trans taken.pending

@[simp] theorem State.adoptCut_pending (c : Nat) : (s.adoptCut c).pending = s.pending := by
  unfold State.adoptCut
  split <;> simp

@[simp] theorem State.takeCut_pending (f : Frame) : (s.takeCut f).pending = s.pending := by
  have own : ∀ o, (s.takeOwnCut f.key.toNat o).pending = s.pending := fun o => by
    unfold State.takeOwnCut State.adoptOwnCut
    split <;> simp
  unfold State.takeCut
  split
  · split
    · exact own _
    · simp
  all_goals simp

@[simp] theorem State.closeEpoch_pending (n : Nat) : (s.closeEpoch n).pending = s.pending := by
  simp [State.closeEpoch]

@[simp] theorem State.beginStartUp_pending : s.beginStartUp.pending = s.pending := rfl

/-! The phase and the mode. -/

@[simp] theorem State.enterEmit_pending : s.enterEmit.pending = s.pending := rfl

@[simp] theorem State.rise_pending : s.rise.pending = s.pending := by
  unfold State.rise
  split <;> simp

@[simp] theorem State.suspendOn_pending (level : Level) : (s.suspendOn level).pending = s.pending := by
  unfold State.suspendOn
  split
  · rfl
  · split <;> rfl

@[simp] theorem State.readAtOpen_pending (line : Level) : (s.readAtOpen line).pending = s.pending := by
  unfold State.readAtOpen
  split
  · split <;> rfl
  · rfl

@[simp] theorem State.doRun_pending : s.doRun.pending = s.pending := by
  unfold State.doRun
  split <;> rfl

@[simp] theorem State.doPause_pending : s.doPause.pending = s.pending := by
  unfold State.doPause
  split
  case h_2 => split <;> rfl
  all_goals rfl

@[simp] theorem State.doStep_pending (n : Nat) : (s.doStep n).pending = s.pending := by
  unfold State.doStep
  split <;> rfl

/-! The bus unit. -/

@[simp] theorem State.trapAtWinning_pending (e : Entry) (a : AnomalySet) :
    (s.trapAtWinning e a).pending = s.pending := by
  unfold State.trapAtWinning State.abandonVisit State.trapLane
  split <;> simp

@[simp] theorem State.endStretch_pending (o : Outbound) (line : Level) :
    (s.endStretch o line).pending = s.pending := by
  rcases s.endStretch_cases o line with works | ⟨e, a, -, -, h⟩ | h
  · exact works.pending
  · simp [h]
  · simp [h]

@[simp] theorem State.failAttempt_pending : s.failAttempt.pending = s.pending := by
  rcases s.failAttempt_cases with works | ⟨-, u, works, h⟩
  · exact works.pending
  · simp [h, works.pending]

@[simp] theorem State.heardAccepted_pending (heard : HeardFrame) : (s.heardAccepted heard).pending = s.pending := by
  rcases s.heardAccepted_cases heard with works | ⟨-, u, works, h⟩ | ⟨-, u, works, h⟩ | ⟨-, u, time, works, -, h⟩
  · exact works.pending
  all_goals simp [h, works.pending]

@[simp] theorem State.heardVetoed_pending (heard : HeardFrame) : (s.heardVetoed heard).pending = s.pending := by
  rcases s.heardVetoed_cases heard with works | ⟨-, u, works, h⟩
  · exact works.pending
  · simp [h, works.pending]

end

/-! Every command. -/

/-- No effect takes a command from the queue or adds one: each is one of the operations above, or what the work on lanes
and offers leaves unchanged. -/
theorem State.Effect.pending {s t : State} (e : s.Effect t) : t.pending = s.pending := by
  cases e with
  | laneAnswer l n r d _ => exact (State.settle_pending _).trans (s.laneAnswer_pending l d)
  | opened line => exact (State.works_beginAttempt (s.readAtOpen line)).pending.trans (s.readAtOpen_pending line)
  | ownAccepted o _ => exact (State.settle_pending _).trans (s.works_ownAccepted o).pending
  | historyEnds => exact State.settle_pending _
  | release f l action _ trapped =>
    have works := State.works_releaseLane (s := s.popInbound) (l := l) trapped action
    exact (State.settle_pending _).trans works.pending
  | _ => simp

theorem State.Moves.pending {s t : State} (h : s.Moves t) : t.pending = s.pending := by
  rcases h with rfl | ⟨-, e⟩
  · rfl
  · exact e.pending

/-- Whatever a command answers with, the commands behind it wait on; a reset keeps them too (entry 1). -/
theorem exec_pending {c : Instr} {s t : State} (h : exec c s = .next t) : t.pending = s.pending := by
  rcases exec_cases h with moves | ⟨-, cause, rfl⟩ | ⟨straps, edge, -, rfl⟩
  · exact moves.pending
  · rfl
  · exact State.beginStartUp_pending _

/-- No command faults and none is refused: its meaning is a next state (entry 5). -/
theorem exec_completes (c : Instr) (s : State) : ∃ t, exec c s = .next t := by
  cases c <;> exact ⟨_, rfl⟩

/-- Settles O3: every command has a next state, and whatever it is, the queue is as it was. -/
theorem everyCommandAnswersAndLeavesTheQueue : Obligations.EveryCommandAnswersAndLeavesTheQueue := by
  intro c s
  obtain ⟨t, h⟩ := exec_completes c s
  exact ⟨t, h, exec_pending h⟩

end Sys2Proof.Machine
end
